-- ==== Sys2Proof/Word.lean ====
section
/-! DEFINITION. The plain words of the block: octets, 16-bit words, the millisecond count, the four branch numbers, and
four-of-a-kind storage for what the spec gives "per branch". -/

namespace Sys2Proof

/-- An octet, the unit of transfer (spec 00_scope.md 0.6-2). -/
abbrev Octet := BitVec 8

/-- A 16-bit word: a counter, a status word, a completion sequence number (R13, R20, R95). -/
abbrev Word16 := BitVec 16

/-- A value of the gateway's millisecond count, 0 to 2^32−1, which wraps (R2). -/
abbrev Millis := BitVec 32

/-- The number of a branch, 0 to 3. -/
inductive BranchId where
  | b0 | b1 | b2 | b3
deriving DecidableEq, Repr

/-- The branch number as software sees it. -/
def BranchId.toNat : BranchId → Nat
  | .b0 => 0
  | .b1 => 1
  | .b2 => 2
  | .b3 => 3

/-- The branch of a number, none above 3. -/
def BranchId.ofNat? : Nat → Option BranchId
  | 0 => some .b0
  | 1 => some .b1
  | 2 => some .b2
  | 3 => some .b3
  | _ => none

/-- All four branches in ascending order. -/
def BranchId.all : List BranchId := [.b0, .b1, .b2, .b3]

/-- One value for each of the four branches. -/
structure Quad (α : Type) where
  b0 : α
  b1 : α
  b2 : α
  b3 : α
deriving DecidableEq, Repr

/-- The value of one branch. -/
def Quad.get {α : Type} (q : Quad α) : BranchId → α
  | .b0 => q.b0
  | .b1 => q.b1
  | .b2 => q.b2
  | .b3 => q.b3

/-- Replaces the value of one branch. -/
def Quad.set {α : Type} (q : Quad α) : BranchId → α → Quad α
  | .b0, x => { q with b0 := x }
  | .b1, x => { q with b1 := x }
  | .b2, x => { q with b2 := x }
  | .b3, x => { q with b3 := x }

/-- The same value for every branch. -/
def Quad.same {α : Type} (x : α) : Quad α := ⟨x, x, x, x⟩

/-- Applies one function to all four values. -/
def Quad.map {α β : Type} (f : α → β) (q : Quad α) : Quad β := ⟨f q.b0, f q.b1, f q.b2, f q.b3⟩

end Sys2Proof
end

