-- ==== Sys2Proof/Syntax.lean ====
section
/-! DEFINITION. The commands: one constructor for each row of spec/opcode_table.json, in the table's order but for the two
rows the table adds at its end. A command is one event at the part, whole and indivisible. -/

namespace Sys2Proof

/-- One event. An octet operand is the octet whose arrival is the event; a branch operand is the branch it happens on. -/
inductive Instr where
  /-- VALID_IN: the last CHECK octet `o` of an upstream frame arrives and agrees (R134, R179). -/
  | validIn (o : Octet)
  /-- UPSTREAM_CHECK: the last CHECK octet `o` of an upstream frame arrives and differs (R133). -/
  | upstreamCheck (o : Octet)
  /-- UPSTREAM_LENGTH: the LEN octet `o` of an upstream frame arrives with a value above 64 (R179). -/
  | upstreamLength (o : Octet)
  /-- UPSTREAM_GAP: the upstream gap timer expires (R179). -/
  | upstreamGap
  /-- UPSTREAM_NOISE: an octet `o` other than C3h arrives upstream outside a frame (R133). -/
  | upstreamNoise (o : Octet)
  /-- END_OF_TRANSMISSION: the last octet of the head outbound frame has gone (R131). -/
  | endOfTransmission
  /-- END_OF_SPACING: the 2 char of spacing have passed (R130). -/
  | endOfSpacing
  /-- GUARD_COMPLETE: the guard timer of branch `b` runs out (R72). -/
  | guardComplete (b : BranchId)
  /-- BRANCH_OCTET: an octet `o` arrives on branch `b` outside a frame (R179). -/
  | branchOctet (b : BranchId) (o : Octet)
  /-- GUARD_QUIET_WAIT_EXPIRY: 1 char of quiet has passed after an interruption on branch `b` (R73). -/
  | guardQuietWaitExpiry (b : BranchId)
  /-- BRANCH_END_OF_SENDING: the last octet of the frame on branch `b` has been sent (R75). -/
  | branchEndOfSending (b : BranchId)
  /-- REPLY_DEADLINE_EXPIRY: the reply deadline of branch `b` expires (R77). -/
  | replyDeadlineExpiry (b : BranchId)
  /-- BRANCH_FRAME_VALID: the last CHECK octet `o` of a frame on branch `b` arrives and agrees (R78). -/
  | branchFrameValid (b : BranchId) (o : Octet)
  /-- BRANCH_FRAME_CHECK: the last CHECK octet `o` of a frame on branch `b` arrives and differs (R78). -/
  | branchFrameCheck (b : BranchId) (o : Octet)
  /-- BRANCH_FRAME_LENGTH: the LEN octet `o` of a frame on branch `b` is above 64 (R78). -/
  | branchFrameLength (b : BranchId) (o : Octet)
  /-- BRANCH_GAP: the gap timer of branch `b` expires inside a frame (R179). -/
  | branchGap (b : BranchId)
  /-- PROBE_TIMER_EXPIRY: the probe timer of branch `b` expires (R88). -/
  | probeTimerExpiry (b : BranchId)
  /-- PROBE_QUIET_END: the line of branch `b` was quiet for a whole guard length during a probe (R88). -/
  | probeQuietEnd (b : BranchId)
  /-- SLOT_DUE: the status slot of station `a` reaches its due time (R96). -/
  | slotDue (a : Octet)
  /-- REFILL_EXPIRY: the refill timer of station `a` expires (R60). -/
  | refillExpiry (a : Octet)
  /-- SILENCE_EXPIRY: the silence timer expires (R113). -/
  | silenceExpiry
  /-- END_OF_SAVE: a save ends; `verified` says whether verify found a match (R158). -/
  | endOfSave (verified : Bool)
  /-- END_OF_RETIRE: a retire ends (R159). -/
  | endOfRetire
  /-- POWER: the supply comes into its operating range (R163). -/
  | power
  /-- SUPPLY_FALL: the supply falls below VDD(min) (R181). -/
  | supplyFall
  /-- RSTN_LOW: a qualified low on RSTN begins the reset (R181). -/
  | rstnLow
  /-- RSTN_RELEASE: the rising edge of RSTN after a reset (R181). -/
  | rstnRelease
  /-- END_OF_LOADING: LOADING ends (R164). -/
  | endOfLoading
  /-- CFGEN_CHANGE: the CFGEN strap changes level (R142). -/
  | cfgenChange
  /-- BAD_OPERATION: the agent takes an entry whose payload is empty or names no operation (R143). -/
  | badOperation
  /-- GET_IDENTITY: the agent takes operation 01h (R148). -/
  | getIdentity
  /-- GET_START_RECORD: the agent takes operation 02h (R167). -/
  | getStartRecord
  /-- GET_SETTINGS: the agent takes operation 03h (R34). -/
  | getSettings
  /-- PUT_SETTINGS: the agent takes operation 04h (R31). -/
  | putSettings
  /-- GET_STATION: the agent takes operation 05h (R34). -/
  | getStation
  /-- PUT_STATION: the agent takes operation 06h (R30). -/
  | putStation
  /-- DROP_STATION: the agent takes operation 07h (R32). -/
  | dropStation
  /-- LIST_STATIONS: the agent takes operation 08h (R34). -/
  | listStations
  /-- REVERT_SHADOW: the agent takes operation 09h (R33). -/
  | revertShadow
  /-- CLEAR_SHADOW: the agent takes operation 0Ah (R33). -/
  | clearShadow
  /-- COMMIT: the agent takes operation 0Bh (R36). -/
  | commit
  /-- GET_CHANGES: the agent takes operation 0Ch (R104). -/
  | getChanges
  /-- PEEK_STATUS: the agent takes operation 0Dh (R105). -/
  | peekStatus
  /-- GET_COUNTERS: the agent takes operation 0Eh (R149). -/
  | getCounters
  /-- CLEAR_COUNTERS: the agent takes operation 0Fh (R150). -/
  | clearCounters
  /-- GET_BRANCH: the agent takes operation 10h (R151). -/
  | getBranch
  /-- GET_TRANSACTIONS: the agent takes operation 11h (R152). -/
  | getTransactions
  /-- SAVE_IMAGE: the agent takes operation 12h (R157). -/
  | saveImage
  /-- RETIRE_IMAGE: the agent takes operation 13h (R159). -/
  | retireImage
  /-- GET_STORE: the agent takes operation 14h (R161). -/
  | getStore
  /-- RESUME: the agent takes operation 15h (R121). -/
  | resume
  /-- FORCE_FAILSAFE: the agent takes operation 16h (R122). -/
  | forceFailsafe
  /-- GET_FAILSAFE_REPORT: the agent takes operation 17h (R123). -/
  | getFailsafeReport
  /-- RESTART: the agent takes operation 18h (R165). -/
  | restart
  /-- UPSTREAM_FRAME_OCTET: an upstream octet `o` starts or continues a frame without deciding its outcome (R179). -/
  | upstreamFrameOctet (o : Octet)
  /-- BRANCH_FRAME_OCTET: an octet `o` arrives on branch `b` inside a frame without deciding its outcome (R73, R179). -/
  | branchFrameOctet (b : BranchId) (o : Octet)
deriving DecidableEq, Repr

end Sys2Proof
end

