-- ==== Sys2Proof/Config.lean ====
section
/-! DEFINITION. What the manufacture of one part fixes, and the free values: what the spec leaves open while the part goes
on. Every one is an opaque constant without a body, so nothing can be proved of its value but its type. A free value that is
drawn afresh each time is applied to the counter `free` of State (assumption log 2). -/

namespace Sys2Proof

/-- The silicon revision, as a number of letters above "A" (R148: one upper-case letter, 41h to 5Ah). -/
opaque Config.revision : Fin 26

/-- The serial number of the part (R148: a 32-bit number held by the part). -/
opaque Config.serialNumber : BitVec 32

/-- FREE VALUE: by how many clock periods a service time exceeds its minimum. tSVC lies in 10 µs to 100 µs (R139), that is
185 to 1843 whole periods of the 18.432 MHz clock. -/
opaque Config.serviceSlack : Nat → Fin 1659

/-- FREE VALUE: the level read from CFGEN where it changed less than tCFG before the take (R181: either level). -/
opaque Config.cfgenSample : Nat → Bool

/-- FREE VALUE: whether an interrupted retire had written its mark (R160: written whole or not at all, either may be found). -/
opaque Config.retireMarkWritten : Nat → Bool

/-- FREE VALUE: whether the check over the image of a slot still holds when a cold start classifies the store, by the counter
and the number of the slot (R155: a slot may lose its check between starts). -/
opaque Config.checkHolds : Nat → Nat → Bool

/-- FREE VALUE: which of several events that are due at the same moment is taken first (0.6-5: the rules give the outcome
of either order and fix none), and whether the expiry of a gap timer or the start bit that meets it is (R179). -/
opaque Config.eventOrder : Nat → Nat

end Sys2Proof
end

