-- ==== Sys2Proof/Machine/State.lean ====
section
/-! DEFINITION. The state of the JW4120, block by block, as plain data; the reasons a command can stop; and the state right
after reset. -/

namespace Sys2Proof.Machine

/-! ### Faults and refusals -/

/-- Why the machine stops with a fault. The spec gives the part none; this one keeps the model honest in states that no run
reaches. -/
inductive Fault where
  /-- A bound item or the head of the agent queue names a transaction slot that is free. Raised by GUARD_COMPLETE and by
  the takes of the agent. SAFE: R5, R8 and R138 keep such a state from arising, and the model stops where it would. -/
  | entryLost
deriving DecidableEq, Repr

/-- Why a command has no meaning in a state: the event it names cannot come about there. Each is SAFE (the model stops;
assumption log 3). -/
inductive Refusal where
  /-- A row that has no meaning yet. Raised by exec alone; no row of this model is left so. -/
  | notModelled (mnemonic : String)
  /-- An event of a block while the part is held reset or LOADING, when no timer, line or store operation advances
  (R162, R181), or the end of LOADING while it is not LOADING. Raised by every command but those of octets and pins. -/
  | runStateOtherwise
  /-- The timer concerned is stopped, or has time left, or the block is not in the state in which it runs. Raised by the
  commands that are expiries, those of gap timers among them (which a start bit stops too), and ends of sending. -/
  | timerOtherwise
  /-- The agent has no entry to take, or its service timer has time left, or the head entry names another operation
  (R139, R140). Raised by the management operations. -/
  | agentOtherwise
  /-- No store operation of the kind named is in progress (R154). Raised by END_OF_SAVE and END_OF_RETIRE. -/
  | storeOtherwise
  /-- The supply or the RSTN line is already at the level the command brings (R181). Raised by POWER, SUPPLY_FALL,
  RSTN_LOW and RSTN_RELEASE. -/
  | pinOtherwise
deriving DecidableEq, Repr

/-! ### Configuration sets (chapter 2) -/

/-- The upstream rates (R23, R169). -/
inductive UpRate where
  | r115200 | r230400 | r460800 | r921600 | r1843200
deriving DecidableEq, Repr

/-- The branch rates (R23, R169). -/
inductive BranchRate where
  | r9600 | r19200 | r38400 | r57600 | r115200 | r230400 | r460800
deriving DecidableEq, Repr

/-- START_MODE (R23). -/
inductive StartMode where
  | normal | held
deriving DecidableEq, Repr

/-- The settings of one branch (R23): GUARD in char, BURST in items. -/
structure BranchSettings where
  enabled : Bool
  bcast   : Bool
  rate    : BranchRate
  guard   : Nat
  burst   : Nat
deriving DecidableEq, Repr

/-- The settings of a configuration set (R23): SILENCE in steps of 100 ms. -/
structure Settings where
  ownAddr   : Octet
  upRate    : UpRate
  branch    : Quad BranchSettings
  silence   : Nat
  startMode : StartMode
deriving DecidableEq, Repr

/-- A rate budget (R25): depth in tokens, refill in steps of 10 ms. -/
structure Budget where
  depth  : Nat
  refill : Nat
deriving DecidableEq, Repr

/-- A write window (R26): a range of point indexes, both ends included. -/
structure Window where
  first : Nat
  last  : Nat
deriving DecidableEq, Repr

/-- The kind of a failsafe action (R28). -/
inductive ActionKind where
  | write | command
deriving DecidableEq, Repr

/-- A failsafe action (R28). -/
structure FailsafeAction where
  kind    : ActionKind
  payload : List Octet
deriving DecidableEq, Repr

/-- A class set (R24). -/
structure ClassSet where
  read    : Bool
  write   : Bool
  command : Bool
  status  : Bool
deriving DecidableEq, Repr

/-- A station record (R24 to R28): reply timeout in ms, scan interval in steps of 100 ms. -/
structure StationRecord where
  addr     : Octet
  branch   : BranchId
  classes  : ClassSet
  timeout  : Nat
  retries  : Nat
  budget   : Option Budget
  windows  : Option (List Window)
  scan     : Option Nat
  failsafe : Option FailsafeAction
deriving DecidableEq, Repr

/-- A configuration set: settings and a station map in ascending address order (R22, R29). -/
structure ConfigSet where
  settings : Settings
  stations : List StationRecord
deriving DecidableEq, Repr

/-! ### Frames and receivers (chapter 10) -/

/-- A frame without START, LEN and CHECK, which the others determine (R170). -/
structure Frame where
  dest    : Octet
  src     : Octet
  tag     : Octet
  kind    : Octet
  payload : List Octet
deriving DecidableEq, Repr

/-- The common receiver (R179, R180). Inside a frame it holds the octets received so far, START first; the LEN value is the
sixth of them. The gap timer is held as the time since the last octet, `quiet`, in clock periods; with `begun` the start bit of the
next octet has been taken before the timer's expiry, and the timer no longer runs (R179). An octet that was under way when the rate
changed ends by the quiet `straddle` at the latest, 0 where none can be (R132, R180; assumption log 6). -/
inductive Receiver where
  | off
  | outside
  | inside (octets : List Octet) (quiet straddle : Nat) (begun : Bool)
deriving DecidableEq, Repr

/-! ### Transaction table (chapter 1) -/

/-- The origin of an entry (R2). -/
inductive Origin where
  | station | broadcast | manage
deriving DecidableEq, Repr

/-- The request kinds (R2, R46). -/
inductive ReqKind where
  | read | write | command | status | manage
deriving DecidableEq, Repr

/-- The states of an occupied entry (R4). -/
inductive EntryState where
  | queued | onLine | spreading | working | returning | outbound
deriving DecidableEq, Repr

/-- Why an attempt failed (R6, R82). -/
inductive Cause where
  | silent | corrupt
deriving DecidableEq, Repr

/-- Why an entry was aborted (R7, R16). -/
inductive AbortReason where
  | failsafe | branchDisabled | lineFault
deriving DecidableEq, Repr

/-- The route copy of a STATION entry (R2): timeout in ms. -/
structure Route where
  branch  : BranchId
  timeout : Nat
  retries : Nat
deriving DecidableEq, Repr

/-- The three sets of branches of a BROADCAST entry (R8). -/
structure BroadcastSets where
  pending : Quad Bool
  sent    : Quad Bool
  notSent : Quad Bool
deriving DecidableEq, Repr

/-- A transaction entry (R2), kept with the number of its slot. -/
structure Entry where
  slot      : Nat
  tag       : Octet
  ctrl      : Octet
  origin    : Origin
  kind      : ReqKind
  station   : Option Octet
  route     : Option Route
  sets      : Option BroadcastSets
  payload   : List Octet
  attempts  : Nat
  lastCause : Option Cause
  state     : EntryState
  reply     : Option Frame
  admitted  : Millis
  seq       : Option Word16
deriving DecidableEq, Repr

/-- The counter group TRANSACTIONS (R20). -/
structure TxnCounters where
  admitted : Word16
  relayed  : Word16
  noAnswer : Word16
  aborted  : Word16
  done     : Word16
  managed  : Word16
deriving DecidableEq, Repr

/-- The transaction table: the occupied entries in ascending slot order, the RETURNING list by slot number in completion
order (R14), the completion counter (R13) and the counter group. -/
structure Table where
  entries   : List Entry
  returning : List Nat
  nextSeq   : Word16
  counters  : TxnCounters
deriving DecidableEq, Repr

/-! ### Upstream line (chapter 7) -/

/-- The argument of RESTART (R165). -/
inductive RestartKind where
  | warm | cold
deriving DecidableEq, Repr

/-- The release note of an outbound item (R128). -/
inductive ReleaseNote where
  | entry (slot : Nat)
  | entryRate (slot : Nat)
  | entryRestart (slot : Nat) (kind : RestartKind)
  | refusal
deriving DecidableEq, Repr

/-- An item of the upstream outbound queue (R128). -/
structure OutItem where
  frame : Frame
  note  : ReleaseNote
deriving DecidableEq, Repr

/-- The transmitter (R130), with the time left of the frame or of the spacing in clock periods. -/
inductive Transmitter where
  | idle
  | sending (left : Nat)
  | spacing (left : Nat)
deriving DecidableEq, Repr

/-- The counter group UPSTREAM (R62, R136). -/
structure UpCounters where
  validIn         : Word16
  check           : Word16
  gap             : Word16
  length          : Word16
  noise           : Word16
  discard         : Word16
  discardRestart  : Word16
  refusalsSent    : Word16
  refusalDropped  : Word16
  framesOut       : Word16
deriving DecidableEq, Repr

/-- The upstream line: receiver, outbound queue, transmitter, rate in use (R132) and counters. -/
structure Upstream where
  rx       : Receiver
  queue    : List OutItem
  tx       : Transmitter
  rate     : UpRate
  counters : UpCounters
deriving DecidableEq, Repr

/-! ### Branch controllers (chapter 4) -/

/-- The branch controller states (R63, R64). -/
inductive BranchState where
  | disabled | idle | guard | sending | awaiting | receiving | fault
deriving DecidableEq, Repr

/-- A failsafe item (R63): timeout in ms. -/
structure FailsafeItem where
  station  : Octet
  kind     : ActionKind
  payload  : List Octet
  timeout  : Nat
  retries  : Nat
  attempts : Nat
deriving DecidableEq, Repr

/-- A bound scan poll (R63, R65): the station, the reply timeout taken at the pick, the attempts made (0 or 1), the time
its sending started, and whether the slot it was picked for still exists (R40, R107). -/
structure PollItem where
  station  : Octet
  timeout  : Nat
  attempts : Nat
  sentAt   : Option Millis
  live     : Bool
deriving DecidableEq, Repr

/-- An item of a request queue: a STATION entry or a broadcast share, by transaction slot (R66). -/
inductive QueueItem where
  | station (slot : Nat)
  | share (slot : Nat)
deriving DecidableEq, Repr

/-- The item a branch works on (R65). -/
inductive BoundItem where
  | station (slot : Nat)
  | share (slot : Nat)
  | poll (p : PollItem)
  | failsafe (f : FailsafeItem)
deriving DecidableEq, Repr

/-- The guard timer and the wait after an interruption (R72, R73), with the time left in clock periods. -/
inductive GuardPhase where
  | stopped
  | running (left : Nat)
  | waiting (left : Nat)
deriving DecidableEq, Repr

/-- The counter group BRANCH n (R92). -/
structure BranchCounters where
  attempts        : Word16
  replies         : Word16
  silent          : Word16
  corrupt         : Word16
  stray           : Word16
  guardInterrupts : Word16
  faults          : Word16
  recoveries      : Word16
deriving DecidableEq, Repr

/-- A branch controller (R63), its receiver, the frame on the line with the time left of its sending, and its driver-enable
output (R182). Times left are in clock periods. -/
structure Branch where
  state          : BranchState
  queue          : List QueueItem
  failsafe       : List FailsafeItem
  bound          : Option BoundItem
  rate           : BranchRate
  addr           : Octet
  guardLen       : Nat
  phase          : GuardPhase
  expectedTag    : Octet
  frame          : Option Frame
  sendLeft       : Option Nat
  deadline       : Option Nat
  deadlinePassed : Bool
  finalMark      : Bool
  interrupts     : Nat
  consec         : Nat
  pollTag        : Octet
  probeTimer     : Option Nat
  probeQuiet     : Option Nat
  rx             : Receiver
  driver         : Bool
  counters       : BranchCounters
deriving DecidableEq, Repr

/-! ### Admission unit (R59) -/

/-- The token state of one budgeted station: the count, and the refill timer (absent: stopped) in clock periods. -/
structure TokenState where
  addr  : Octet
  count : Nat
  timer : Option Nat
deriving DecidableEq, Repr

/-! ### Scan unit (chapter 5) -/

/-- Whether a station answers its polls (R95). -/
inductive ScanState where
  | unknown | online | offline
deriving DecidableEq, Repr

/-- The schedule of a slot (R96), by values of the millisecond count. -/
inductive Schedule where
  | waiting (due : Millis)
  | overdue (since : Millis)
deriving DecidableEq, Repr

/-- A status slot (R95). -/
structure ScanSlot where
  addr      : Octet
  state     : ScanState
  word      : Option Word16
  collState : ScanState
  collWord  : Option Word16
  misses    : Nat
  schedule  : Schedule
  pollBound : Bool
  lastPoll  : Option Millis
  mark      : Bool
deriving DecidableEq, Repr

/-- The scan unit: the slots in ascending address order, and the change list, oldest first (R103). -/
structure Scan where
  slots   : List ScanSlot
  changes : List Octet
deriving DecidableEq, Repr

/-! ### Supervision unit (chapter 6) -/

/-- The supervision states (R111). -/
inductive SupState where
  | normal | failsafeSending | failsafeHeld
deriving DecidableEq, Repr

/-- The entry cause of the failsafe report (R118). -/
inductive EntryCause where
  | none | silence | forced | start
deriving DecidableEq, Repr

/-- The outcome of a report line (R118). -/
inductive LineOutcome where
  | pending | ok | noAnswer | skipped
deriving DecidableEq, Repr

/-- A line of the failsafe report (R118). -/
structure ReportLine where
  station  : Octet
  branch   : BranchId
  outcome  : LineOutcome
  attempts : Nat
deriving DecidableEq, Repr

/-- The supervision unit (R111): the silence timer is absent when stopped, else its time left in clock periods. -/
structure Supervision where
  state   : SupState
  silence : Option Nat
  cause   : EntryCause
  lines   : List ReportLine
  stat    : Bool
deriving DecidableEq, Repr

/-! ### Management agent (R138) -/

/-- The agent state with its service timer (R138): IDLE, or SERVING with the time left until the take. -/
inductive Service where
  | idle
  | serving (left : Nat)
deriving DecidableEq, Repr

/-- The store operations (R138, R154). -/
inductive StoreOp where
  | save | retire
deriving DecidableEq, Repr

/-- The working reference (R138). -/
structure Working where
  slot  : Nat
  op    : StoreOp
  image : Nat
deriving DecidableEq, Repr

/-- The management agent (R138): the agent queue by transaction slot, the service, the working reference. -/
structure Agent where
  queue   : List Nat
  service : Service
  working : Option Working
deriving DecidableEq, Repr

/-! ### Image store and start sequencer (chapter 9) -/

/-- The states of an image slot in the store record (R154). -/
inductive SlotState where
  | blank | writing | valid | retired | spoiled
deriving DecidableEq, Repr

/-- An image slot: its state in the store record, and what its cells hold (R155): the header mark, the image, whether the
check over it is good, the verify mark and the retire mark. -/
structure ImageSlot where
  state     : SlotState
  header    : Bool
  image     : Option ConfigSet
  checkGood : Bool
  verify    : Bool
  retire    : Bool
deriving DecidableEq, Repr

/-- The busy state of the store (R154). -/
inductive Busy where
  | idle
  | saving (slot : Nat)
  | retiring (slot : Nat)
deriving DecidableEq, Repr

/-- The image store: slots 0 to 7 in order, and the busy state (R154). -/
structure Store where
  slots : List ImageSlot
  busy  : Busy
deriving DecidableEq, Repr

/-- The run states (R162). -/
inductive RunState where
  | loading | running | restartPending
deriving DecidableEq, Repr

/-- The cause of a start (R167). -/
inductive StartCause where
  | power | line | mgmtCold | mgmtWarm
deriving DecidableEq, Repr

/-- The start record (R167); the loaded slot is absent for NONE. -/
structure StartRecord where
  cause   : StartCause
  loaded  : Option Nat
  spoiled : Nat
  sup     : SupState
deriving DecidableEq, Repr

/-- The start sequencer: the run state, the cause and the loaded slot of the start in progress, and the start record. -/
structure Sequencer where
  run    : RunState
  cause  : StartCause
  loaded : Option Nat
  record : StartRecord
deriving DecidableEq, Repr

/-- The pins read: whether the supply is below its range, whether a reset begun on RSTN still holds, and the CFGEN level
with the clock periods since it last changed, counted up to the 19 that make it steady (R181). -/
structure Pins where
  supplyLow : Bool
  rstnLow   : Bool
  cfgen     : Bool
  cfgenAge  : Nat
deriving DecidableEq, Repr

/-- The clock: the millisecond count (R2) and the clock periods gone of the current millisecond. -/
structure Clock where
  ms    : Millis
  phase : Nat
deriving DecidableEq, Repr

/-! ### The whole part -/

/-- The state of the part, with the queue of the commands that wait (`pending`, first in first out) and the counter that
draws free values (`free`), which are the model's own. -/
structure State where
  pending  : List Instr
  pins     : Pins
  seq      : Sequencer
  clock    : Clock
  active   : ConfigSet
  shadow   : ConfigSet
  tokens   : List TokenState
  table    : Table
  up       : Upstream
  branches : Quad Branch
  scan     : Scan
  sup      : Supervision
  agent    : Agent
  store    : Store
  free     : Nat
deriving DecidableEq, Repr

/-- The factory settings of a branch (R23). -/
def factoryBranch : BranchSettings :=
  { enabled := true, bcast := false, rate := .r115200, guard := 4, burst := 4 }

/-- The factory configuration: the defaults of R23 and an empty station map. -/
def factoryConfig : ConfigSet :=
  { settings := { ownAddr := 0xFE#8, upRate := .r460800, branch := Quad.same factoryBranch, silence := 0, startMode := .normal }
    stations := [] }

/-- All counters of the group at 0 (R20). -/
def TxnCounters.zero : TxnCounters := ⟨0#16, 0#16, 0#16, 0#16, 0#16, 0#16⟩

/-- All counters of the group at 0 (R136). -/
def UpCounters.zero : UpCounters := ⟨0#16, 0#16, 0#16, 0#16, 0#16, 0#16, 0#16, 0#16, 0#16, 0#16⟩

/-- All counters of the group at 0 (R92). -/
def BranchCounters.zero : BranchCounters := ⟨0#16, 0#16, 0#16, 0#16, 0#16, 0#16, 0#16, 0#16⟩

/-- A branch right after a cold start from the factory configuration (R94); the guard length in use and the expected tag,
which no rule sets, are as assumption log 8 says. -/
def Branch.reset : Branch :=
  { state := .idle, queue := [], failsafe := [], bound := none, rate := .r115200, addr := 0xFE#8, guardLen := 4
    phase := .stopped, expectedTag := 0#8, frame := none, sendLeft := none, deadline := none, deadlinePassed := false
    finalMark := false, interrupts := 0, consec := 0, pollTag := 0#8, probeTimer := none, probeQuiet := none
    rx := .outside, driver := false, counters := BranchCounters.zero }

/-- A blank image slot (R155). -/
def ImageSlot.blank : ImageSlot :=
  { state := .blank, header := false, image := none, checkGood := false, verify := false, retire := false }

/-- The part right after reset: RUNNING at the end of a cold start with cause POWER from a store whose eight slots were
never written, so that the factory configuration was loaded (R163, R164; assumption log 1). -/
def State.reset : State :=
  { pending  := []
    pins     := { supplyLow := false, rstnLow := false, cfgen := false, cfgenAge := 19 }
    seq      := { run := .running, cause := .power, loaded := none
                  record := { cause := .power, loaded := none, spoiled := 0, sup := .normal } }
    clock    := { ms := 0#32, phase := 0 }
    active   := factoryConfig
    shadow   := factoryConfig
    tokens   := []
    table    := { entries := [], returning := [], nextSeq := 0#16, counters := TxnCounters.zero }
    up       := { rx := .outside, queue := [], tx := .idle, rate := .r460800, counters := UpCounters.zero }
    branches := Quad.same Branch.reset
    scan     := { slots := [], changes := [] }
    sup      := { state := .normal, silence := none, cause := .none, lines := [], stat := false }
    agent    := { queue := [], service := .idle, working := none }
    store    := { slots := List.replicate 8 ImageSlot.blank, busy := .idle }
    free     := 0 }

end Sys2Proof.Machine
end

