-- ==== Sys2Proof/Machine/Flags.lean ====
section
/-! DEFINITION. The counters of the part and how they count: 16 bits wide, saturating at 65535 (R20, R62, R92, R136). -/

namespace Sys2Proof.Machine

/-- One more, stopping at 65535. -/
def bump (c : Word16) : Word16 := if c = 0xFFFF#16 then c else c + 1#16

/-- The values of the group TRANSACTIONS in answer order (R149). -/
def TxnCounters.values (c : TxnCounters) : List Word16 :=
  [c.admitted, c.relayed, c.noAnswer, c.aborted, c.done, c.managed]

/-- The values of the group UPSTREAM in answer order (R149). -/
def UpCounters.values (c : UpCounters) : List Word16 :=
  [c.validIn, c.check, c.gap, c.length, c.noise, c.discard, c.discardRestart, c.refusalsSent, c.refusalDropped, c.framesOut]

/-- The values of a group BRANCH n in answer order (R149). -/
def BranchCounters.values (c : BranchCounters) : List Word16 :=
  [c.attempts, c.replies, c.silent, c.corrupt, c.stray, c.guardInterrupts, c.faults, c.recoveries]

/-- Counts a failed attempt under its cause (R82, R92). -/
def BranchCounters.countFailure (c : BranchCounters) : Cause → BranchCounters
  | .silent => { c with silent := bump c.silent }
  | .corrupt => { c with corrupt := bump c.corrupt }

end Sys2Proof.Machine
end

