-- ==== Sys2Proof/WellFormed.lean ====
section
/-! DEFINITION. Which commands are well formed: the operands alone, without a state. -/

namespace Sys2Proof

/-- START, the octet that starts a frame (R170). -/
def startOctet : Octet := 0xC3#8

/-- A station address is 1 to 254 (R170). -/
def stationAddress (a : Octet) : Bool := a != 0#8 && a != 0xFF#8

/-- The operands of a command can be those of the event it names: a noise octet is not C3h (R133), an octet that ends a
frame LENGTH is above 64 (R179), slots and token states are those of station addresses (R95, R59). -/
def Instr.wellFormed : Instr → Bool
  | .upstreamNoise o => o != startOctet
  | .upstreamLength o => 64 < o.toNat
  | .branchFrameLength _ o => 64 < o.toNat
  | .slotDue a => stationAddress a
  | .refillExpiry a => stationAddress a
  | .validIn _ | .upstreamCheck _ | .upstreamGap | .endOfTransmission | .endOfSpacing | .guardComplete _
  | .branchOctet _ _ | .guardQuietWaitExpiry _ | .branchEndOfSending _ | .replyDeadlineExpiry _ | .branchFrameValid _ _
  | .branchFrameCheck _ _ | .branchGap _ | .probeTimerExpiry _ | .probeQuietEnd _ | .silenceExpiry | .endOfSave _
  | .endOfRetire | .power | .supplyFall | .rstnLow | .rstnRelease | .endOfLoading | .cfgenChange | .badOperation
  | .getIdentity | .getStartRecord | .getSettings | .putSettings | .getStation | .putStation | .dropStation
  | .listStations | .revertShadow | .clearShadow | .commit | .getChanges | .peekStatus | .getCounters | .clearCounters
  | .getBranch | .getTransactions | .saveImage | .retireImage | .getStore | .resume | .forceFailsafe
  | .getFailsafeReport | .restart | .upstreamFrameOctet _ | .branchFrameOctet _ _ => true

end Sys2Proof
end

