-- ==== Sys2Proof/Machine/Operands.lean ====
section
/-! DEFINITION. The octet codes and layouts of chapter 10: byte order, kind codes, field codes, the request shapes, the
settings layout and the station record layout. -/

namespace Sys2Proof.Machine

/-! ### Byte order: the high-order octet first (R170) -/

/-- A number as one octet. -/
def oct (n : Nat) : Octet := BitVec.ofNat 8 n

/-- A number as two octets, high-order first. -/
def twoOct (n : Nat) : List Octet := [oct (n / 256), oct n]

/-- A 16-bit word as two octets, high-order first. -/
def wordOct (w : Word16) : List Octet := twoOct w.toNat

/-- The number in two octets, high-order first. -/
def pairNat (hi lo : Octet) : Nat := hi.toNat * 256 + lo.toNat

/-- The word in two octets, high-order first (R98). -/
def pairWord (hi lo : Octet) : Word16 := BitVec.ofNat 16 (pairNat hi lo)

/-- A bit of weight `2^i`. -/
def bitAt (b : Bool) (i : Nat) : Nat := if b then 2 ^ i else 0

/-- A set of branches as an octet: branch b is bit b (R173). -/
def branchSetOct (q : Quad Bool) : Octet := oct (bitAt q.b0 0 + bitAt q.b1 1 + bitAt q.b2 2 + bitAt q.b3 3)

/-- The octet that stands for an absent slot number or station (R174). -/
def absentOct : Octet := 0xFF#8

/-- A word field: an absent word is carried as FFFFh (R176). -/
def wordField : Option Word16 → List Octet
  | some w => wordOct w
  | none => wordOct 0xFFFF#16

/-! ### Frame kinds (R170) -/

def kindRead : Octet := 0x10#8
def kindWrite : Octet := 0x11#8
def kindCommand : Octet := 0x12#8
def kindStatus : Octet := 0x13#8
def kindManage : Octet := 0x1F#8
def kindReply : Octet := 0x20#8
def kindRefused : Octet := 0x30#8
def kindNoAnswer : Octet := 0x31#8
def kindAborted : Octet := 0x32#8
def kindDone : Octet := 0x33#8
def kindManageReply : Octet := 0x3F#8

/-- The five request kinds (R46). -/
def ReqKind.ofOctet? (o : Octet) : Option ReqKind :=
  if o = kindRead then some .read
  else if o = kindWrite then some .write
  else if o = kindCommand then some .command
  else if o = kindStatus then some .status
  else if o = kindManage then some .manage
  else none

def ReqKind.octet : ReqKind → Octet
  | .read => kindRead
  | .write => kindWrite
  | .command => kindCommand
  | .status => kindStatus
  | .manage => kindManage

def ActionKind.octet : ActionKind → Octet
  | .write => kindWrite
  | .command => kindCommand

def ActionKind.ofOctet? (o : Octet) : Option ActionKind :=
  if o = kindWrite then some .write else if o = kindCommand then some .command else none

/-! ### Field codes (R174, R16, R58) -/

/-- The reasons for a refusal (R58). -/
inductive RefusalReason where
  | unknownStation | classSet | format | window | lineFault | tagInUse | busy | rate | failsafe | noBroadcast
deriving DecidableEq, Repr

def RefusalReason.octet : RefusalReason → Octet
  | .unknownStation => 0x01#8
  | .classSet => 0x02#8
  | .format => 0x03#8
  | .window => 0x04#8
  | .lineFault => 0x05#8
  | .tagInUse => 0x06#8
  | .busy => 0x07#8
  | .rate => 0x08#8
  | .failsafe => 0x09#8
  | .noBroadcast => 0x0A#8

/-- The result codes of a MANAGE_REPLY (R174). -/
inductive Result where
  | ok | badOperation | badArgument | locked | mapFull | noSuchStation | invalidShadow | storeBusy | storeFull
  | saveFailed | slotState | stateMismatch | notReady
deriving DecidableEq, Repr

def Result.octet : Result → Octet
  | .ok => 0x00#8
  | .badOperation => 0x01#8
  | .badArgument => 0x02#8
  | .locked => 0x03#8
  | .mapFull => 0x04#8
  | .noSuchStation => 0x05#8
  | .invalidShadow => 0x06#8
  | .storeBusy => 0x07#8
  | .storeFull => 0x08#8
  | .saveFailed => 0x09#8
  | .slotState => 0x0A#8
  | .stateMismatch => 0x0B#8
  | .notReady => 0x0C#8

def Cause.octet : Cause → Octet
  | .silent => 0x01#8
  | .corrupt => 0x02#8

def AbortReason.octet : AbortReason → Octet
  | .failsafe => 0x01#8
  | .branchDisabled => 0x02#8
  | .lineFault => 0x03#8

def SupState.octet : SupState → Octet
  | .normal => 0x00#8
  | .failsafeSending => 0x01#8
  | .failsafeHeld => 0x02#8

def EntryCause.octet : EntryCause → Octet
  | .none => 0x00#8
  | .silence => 0x01#8
  | .forced => 0x02#8
  | .start => 0x03#8

def LineOutcome.octet : LineOutcome → Octet
  | .pending => 0x00#8
  | .ok => 0x01#8
  | .noAnswer => 0x02#8
  | .skipped => 0x03#8

def ScanState.octet : ScanState → Octet
  | .unknown => 0x00#8
  | .online => 0x01#8
  | .offline => 0x02#8

def BranchState.octet : BranchState → Octet
  | .disabled => 0x00#8
  | .idle => 0x01#8
  | .guard => 0x02#8
  | .sending => 0x03#8
  | .awaiting => 0x04#8
  | .receiving => 0x05#8
  | .fault => 0x06#8

def Origin.octet : Origin → Octet
  | .station => 0x00#8
  | .broadcast => 0x01#8
  | .manage => 0x02#8

def EntryState.octet : EntryState → Octet
  | .queued => 0x00#8
  | .onLine => 0x01#8
  | .spreading => 0x02#8
  | .working => 0x03#8
  | .returning => 0x04#8
  | .outbound => 0x05#8

def SlotState.octet : SlotState → Octet
  | .blank => 0x00#8
  | .writing => 0x01#8
  | .valid => 0x02#8
  | .retired => 0x03#8
  | .spoiled => 0x04#8

def StartCause.octet : StartCause → Octet
  | .power => 0x01#8
  | .line => 0x02#8
  | .mgmtCold => 0x03#8
  | .mgmtWarm => 0x04#8

def RestartKind.octet : RestartKind → Octet
  | .warm => 0x01#8
  | .cold => 0x02#8

def RestartKind.ofOctet? (o : Octet) : Option RestartKind :=
  if o = 0x01#8 then some .warm else if o = 0x02#8 then some .cold else none

/-- The busy operation and its slot, FFh when IDLE (R174). -/
def Busy.octets : Busy → List Octet
  | .idle => [0x00#8, absentOct]
  | .saving k => [0x01#8, oct k]
  | .retiring k => [0x02#8, oct k]

/-- A bank selector (R22): true for SHADOW. -/
def bankOfOctet? (o : Octet) : Option Bool :=
  if o = 0x00#8 then some false else if o = 0x01#8 then some true else none

/-- A counter group (R149, R150). -/
inductive CounterGroup where
  | upstream
  | branch (b : BranchId)
  | transactions
  | all
deriving DecidableEq, Repr

def CounterGroup.ofOctet? (o : Octet) : Option CounterGroup :=
  if o = 0x00#8 then some .upstream
  else if o = 0x01#8 then some (.branch .b0)
  else if o = 0x02#8 then some (.branch .b1)
  else if o = 0x03#8 then some (.branch .b2)
  else if o = 0x04#8 then some (.branch .b3)
  else if o = 0x05#8 then some .transactions
  else if o = 0xFF#8 then some .all
  else none

/-- The management operations (R176). -/
inductive Op where
  | getIdentity | getStartRecord | getSettings | putSettings | getStation | putStation | dropStation | listStations
  | revertShadow | clearShadow | commit | getChanges | peekStatus | getCounters | clearCounters | getBranch
  | getTransactions | saveImage | retireImage | getStore | resume | forceFailsafe | getFailsafeReport | restart
deriving DecidableEq, Repr

def Op.octet : Op → Octet
  | .getIdentity => 0x01#8
  | .getStartRecord => 0x02#8
  | .getSettings => 0x03#8
  | .putSettings => 0x04#8
  | .getStation => 0x05#8
  | .putStation => 0x06#8
  | .dropStation => 0x07#8
  | .listStations => 0x08#8
  | .revertShadow => 0x09#8
  | .clearShadow => 0x0A#8
  | .commit => 0x0B#8
  | .getChanges => 0x0C#8
  | .peekStatus => 0x0D#8
  | .getCounters => 0x0E#8
  | .clearCounters => 0x0F#8
  | .getBranch => 0x10#8
  | .getTransactions => 0x11#8
  | .saveImage => 0x12#8
  | .retireImage => 0x13#8
  | .getStore => 0x14#8
  | .resume => 0x15#8
  | .forceFailsafe => 0x16#8
  | .getFailsafeReport => 0x17#8
  | .restart => 0x18#8

/-- All operations, 01h to 18h in order. -/
def Op.all : List Op :=
  [.getIdentity, .getStartRecord, .getSettings, .putSettings, .getStation, .putStation, .dropStation, .listStations,
   .revertShadow, .clearShadow, .commit, .getChanges, .peekStatus, .getCounters, .clearCounters, .getBranch,
   .getTransactions, .saveImage, .retireImage, .getStore, .resume, .forceFailsafe, .getFailsafeReport, .restart]

/-- The operation a number names: none for 00h and 19h to FFh (R143). -/
def Op.ofOctet? (o : Octet) : Option Op := Op.all.find? fun op => op.octet == o

/-- The operations that the CFGEN lock refuses (R142). -/
def Op.locked : Op → Bool
  | .putSettings | .putStation | .dropStation | .revertShadow | .clearShadow | .commit | .saveImage | .retireImage => true
  | _ => false

/-- The operations refused NOT_READY in RESTART_PENDING (R145). -/
def Op.barredByRestart : Op → Bool
  | .saveImage | .retireImage | .restart => true
  | _ => false

/-! ### Request shapes (R50, R172) -/

/-- The range [first, first + count − 1] of a READ or WRITE payload: count 1 to 30, not passing index 65535. -/
def indexRange? (hi lo count : Octet) : Option (Nat × Nat) :=
  let n := count.toNat
  if 1 ≤ n ∧ n ≤ 30 ∧ pairNat hi lo + n - 1 ≤ 65535 then some (pairNat hi lo, pairNat hi lo + n - 1) else none

/-- The range a WRITE payload covers, where it has the shape of a WRITE. -/
def writeRange? : List Octet → Option (Nat × Nat)
  | hi :: lo :: count :: values => if values.length = 2 * count.toNat then indexRange? hi lo count else none
  | _ => none

/-- The payload has the shape of its kind (R50). A MANAGE payload is not examined (R47). -/
def shapeOk : ReqKind → List Octet → Bool
  | .read, [hi, lo, count] => (indexRange? hi lo count).isSome
  | .read, _ => false
  | .write, p => (writeRange? p).isSome
  | .command, p => 1 ≤ p.length ∧ p.length ≤ 33
  | .status, p => p.isEmpty
  | .manage, _ => true

/-- The shape of a failsafe action's payload (R28). -/
def FailsafeAction.shaped (a : FailsafeAction) : Bool :=
  match a.kind with
  | .write => shapeOk .write a.payload
  | .command => shapeOk .command a.payload

/-! ### Rates (R169) -/

def UpRate.octet : UpRate → Octet
  | .r115200 => 0x00#8
  | .r230400 => 0x01#8
  | .r460800 => 0x02#8
  | .r921600 => 0x03#8
  | .r1843200 => 0x04#8

def UpRate.ofOctet? (o : Octet) : Option UpRate :=
  [UpRate.r115200, .r230400, .r460800, .r921600, .r1843200].find? fun r => r.octet == o

def BranchRate.octet : BranchRate → Octet
  | .r9600 => 0x00#8
  | .r19200 => 0x01#8
  | .r38400 => 0x02#8
  | .r57600 => 0x03#8
  | .r115200 => 0x04#8
  | .r230400 => 0x05#8
  | .r460800 => 0x06#8

def BranchRate.ofOctet? (o : Octet) : Option BranchRate :=
  [BranchRate.r9600, .r19200, .r38400, .r57600, .r115200, .r230400, .r460800].find? fun r => r.octet == o

def StartMode.octet : StartMode → Octet
  | .normal => 0x00#8
  | .held => 0x01#8

def StartMode.ofOctet? (o : Octet) : Option StartMode :=
  if o = 0x00#8 then some .normal else if o = 0x01#8 then some .held else none

/-! ### The settings layout (R177) -/

/-- The four octets of a branch's settings. -/
def BranchSettings.octets (b : BranchSettings) : List Octet :=
  [oct (bitAt b.enabled 0 + bitAt b.bcast 1), b.rate.octet, oct b.guard, oct b.burst]

/-- The 21 octets of a settings group. -/
def Settings.octets (s : Settings) : List Octet :=
  [s.ownAddr, s.upRate.octet] ++ s.branch.b0.octets ++ s.branch.b1.octets ++ s.branch.b2.octets ++ s.branch.b3.octets
    ++ twoOct s.silence ++ [s.startMode.octet]

/-- The settings of a branch, each in its range (R23): GUARD 2–32, BURST 1–15, flag bits 2 to 7 zero. -/
def branchSettings? (flags rate guard burst : Octet) : Option BranchSettings :=
  match BranchRate.ofOctet? rate with
  | none => none
  | some r =>
    if flags.toNat < 4 ∧ 2 ≤ guard.toNat ∧ guard.toNat ≤ 32 ∧ 1 ≤ burst.toNat ∧ burst.toNat ≤ 15 then
      some { enabled := flags.getLsbD 0, bcast := flags.getLsbD 1, rate := r, guard := guard.toNat, burst := burst.toNat }
    else none

/-- The settings group in 21 octets, each setting in its range (R23, R31). -/
def settings? : List Octet → Option Settings
  | [own, up, f0, r0, g0, u0, f1, r1, g1, u1, f2, r2, g2, u2, f3, r3, g3, u3, sh, sl, mode] =>
    match UpRate.ofOctet? up, branchSettings? f0 r0 g0 u0, branchSettings? f1 r1 g1 u1, branchSettings? f2 r2 g2 u2,
      branchSettings? f3 r3 g3 u3, StartMode.ofOctet? mode with
    | some rate, some s0, some s1, some s2, some s3, some m =>
      if stationAddress own ∧ pairNat sh sl ≤ 600 then
        some { ownAddr := own, upRate := rate, branch := ⟨s0, s1, s2, s3⟩, silence := pairNat sh sl, startMode := m }
      else none
    | _, _, _, _, _, _ => none
  | _ => none

/-! ### The station record layout (R178) -/

def ClassSet.octet (c : ClassSet) : Octet := oct (bitAt c.read 0 + bitAt c.write 1 + bitAt c.command 2 + bitAt c.status 3)

/-- The presence octet of a record. -/
def StationRecord.presence (r : StationRecord) : Octet :=
  oct (bitAt r.budget.isSome 0 + bitAt r.windows.isSome 1 + bitAt r.scan.isSome 2 + bitAt r.failsafe.isSome 3)

def budgetOctets : Option Budget → List Octet
  | none => []
  | some b => [oct b.depth, oct b.refill]

def windowOctets : Option (List Window) → List Octet
  | none => []
  | some ws => oct ws.length :: ws.flatMap fun w => twoOct w.first ++ twoOct w.last

def scanOctets : Option Nat → List Octet
  | none => []
  | some n => twoOct n

def actionOctets : Option FailsafeAction → List Octet
  | none => []
  | some a => [a.kind.octet, oct a.payload.length] ++ a.payload

/-- The octets of a station record, 7 to 62. -/
def StationRecord.octets (r : StationRecord) : List Octet :=
  [r.addr, oct r.branch.toNat, r.classes.octet] ++ twoOct r.timeout ++ [oct r.retries, r.presence]
    ++ budgetOctets r.budget ++ windowOctets r.windows ++ scanOctets r.scan ++ actionOctets r.failsafe

/-- Reads the budget, where its presence bit is set: depth 1–15, refill 1–255. Answers the octets left. -/
def budget? : Bool → List Octet → Option (Option Budget × List Octet)
  | false, xs => some (none, xs)
  | true, d :: r :: xs =>
    if 1 ≤ d.toNat ∧ d.toNat ≤ 15 ∧ 1 ≤ r.toNat then some (some ⟨d.toNat, r.toNat⟩, xs) else none
  | true, _ => none

/-- Reads `n` windows in the order given. -/
def windowRun? : Nat → List Octet → Option (List Window × List Octet)
  | 0, xs => some ([], xs)
  | n + 1, fh :: fl :: lh :: ll :: xs =>
    match windowRun? n xs with
    | some (ws, rest) => some (⟨pairNat fh fl, pairNat lh ll⟩ :: ws, rest)
    | none => none
  | _ + 1, _ => none

/-- Reads the window list, where its presence bit is set: 0 to 4 windows. -/
def windows? : Bool → List Octet → Option (Option (List Window) × List Octet)
  | false, xs => some (none, xs)
  | true, n :: xs =>
    if n.toNat ≤ 4 then
      match windowRun? n.toNat xs with
      | some (ws, rest) => some (some ws, rest)
      | none => none
    else none
  | true, [] => none

/-- Reads the scan interval, where its presence bit is set: 1–600. -/
def scan? : Bool → List Octet → Option (Option Nat × List Octet)
  | false, xs => some (none, xs)
  | true, hi :: lo :: xs =>
    if 1 ≤ pairNat hi lo ∧ pairNat hi lo ≤ 600 then some (some (pairNat hi lo), xs) else none
  | true, _ => none

/-- Reads the failsafe action, where its presence bit is set: kind WRITE or COMMAND, payload 1–32 octets, to the end. -/
def action? : Bool → List Octet → Option (Option FailsafeAction)
  | false, [] => some none
  | false, _ :: _ => none
  | true, k :: n :: payload =>
    match ActionKind.ofOctet? k with
    | some kind =>
      if 1 ≤ n.toNat ∧ n.toNat ≤ 32 ∧ payload.length = n.toNat then some (some ⟨kind, payload⟩) else none
    | none => none
  | true, _ => none

/-- A station record from its octets: each field in its range, and the length as the presence marks declare (R30). -/
def stationRecord? : List Octet → Option StationRecord
  | addr :: br :: cls :: th :: tl :: ret :: pres :: rest =>
    match BranchId.ofNat? br.toNat, budget? (pres.getLsbD 0) rest with
    | some branch, some (budget, rest1) =>
      match windows? (pres.getLsbD 1) rest1 with
      | some (windows, rest2) =>
        match scan? (pres.getLsbD 2) rest2 with
        | some (scan, rest3) =>
          match action? (pres.getLsbD 3) rest3 with
          | some failsafe =>
            if stationAddress addr ∧ cls.toNat < 16 ∧ 5 ≤ pairNat th tl ∧ pairNat th tl ≤ 1000 ∧ ret.toNat ≤ 3
                ∧ pres.toNat < 16 then
              some { addr := addr, branch := branch
                     classes := ⟨cls.getLsbD 0, cls.getLsbD 1, cls.getLsbD 2, cls.getLsbD 3⟩
                     timeout := pairNat th tl, retries := ret.toNat
                     budget := budget, windows := windows, scan := scan, failsafe := failsafe }
            else none
          | none => none
        | none => none
      | none => none
    | _, _ => none
  | _ => none

/-! ### Ranges of a configuration set (R23 to R29) -/

/-- Every branch setting is in its range (R23). -/
def BranchSettings.inRange (b : BranchSettings) : Bool := 2 ≤ b.guard ∧ b.guard ≤ 32 ∧ 1 ≤ b.burst ∧ b.burst ≤ 15

/-- Every setting is in its range (R23). -/
def Settings.inRange (s : Settings) : Bool :=
  stationAddress s.ownAddr && s.branch.b0.inRange && s.branch.b1.inRange && s.branch.b2.inRange && s.branch.b3.inRange
    && decide (s.silence ≤ 600)

def Budget.inRange (b : Budget) : Bool := 1 ≤ b.depth ∧ b.depth ≤ 15 ∧ 1 ≤ b.refill ∧ b.refill ≤ 255

def Window.inRange (w : Window) : Bool := w.first ≤ 65535 ∧ w.last ≤ 65535

/-- Every field of the record is in its range (R24 to R28); order and overlap of windows and the failsafe shape are left to
validation (R30). -/
def StationRecord.inRange (r : StationRecord) : Bool :=
  stationAddress r.addr && decide (5 ≤ r.timeout ∧ r.timeout ≤ 1000 ∧ r.retries ≤ 3)
    && r.budget.all Budget.inRange
    && r.windows.all (fun ws => decide (ws.length ≤ 4) && ws.all Window.inRange)
    && r.scan.all (fun n => decide (1 ≤ n ∧ n ≤ 600))
    && r.failsafe.all (fun a => decide (1 ≤ a.payload.length ∧ a.payload.length ≤ 32))

end Sys2Proof.Machine
end

