-- ==== Sys2Proof/Machine/Timing.lean ====
section
/-! DEFINITION. Times in periods of the 18.432 MHz clock, from which every line rate is derived (spec
11_signals_and_electrical_limits.md). One char is 10 bit times (R169). -/

namespace Sys2Proof.Machine

/-- Clock periods of one millisecond. -/
def msPeriods : Nat := 18432

/-- Clock periods of one char at an upstream rate (R169). -/
def UpRate.charPeriods : UpRate → Nat
  | .r115200 => 1600
  | .r230400 => 800
  | .r460800 => 400
  | .r921600 => 200
  | .r1843200 => 100

/-- Clock periods of one char at a branch rate (R169). -/
def BranchRate.charPeriods : BranchRate → Nat
  | .r9600 => 19200
  | .r19200 => 9600
  | .r38400 => 4800
  | .r57600 => 3200
  | .r115200 => 1600
  | .r230400 => 800
  | .r460800 => 400

/-- The gap limit within a frame is 3 char (R179). -/
def gapChars : Nat := 3

/-- The spacing after a frame is 2 char (R130). -/
def spacingChars : Nat := 2

/-- The wait after an interrupted guard is 1 char (R73). -/
def quietWaitChars : Nat := 1

/-- Probes begin 1000 ms apart (R88). -/
def probePeriods : Nat := 1000 * msPeriods

/-- The silence period: SILENCE × 100 ms (R112). -/
def silencePeriods (silence : Nat) : Nat := silence * 100 * msPeriods

/-- The refill period: the record's refill field × 10 ms (R60). -/
def refillPeriods (refill : Nat) : Nat := refill * 10 * msPeriods

/-- A reply timeout in ms (R77). -/
def timeoutPeriods (timeout : Nat) : Nat := timeout * msPeriods

/-- The scan interval in ms: steps of 100 ms (R27). -/
def scanMillis (interval : Nat) : Nat := interval * 100

/-- The `n`-th service time, 185 to 1843 periods: tSVC of 10 µs to 100 µs (R139). -/
def serviceTime (n : Nat) : Nat := 185 + (Config.serviceSlack n).val

/-- CFGEN held for 19 periods has been steady for tCFG = 1 µs (R181). -/
def cfgenSteady : Nat := 19

/-- How long ago the time `t` of the millisecond count was, within one wrap of the count (R2). -/
def Millis.age (now t : Millis) : Nat := (now - t).toNat

/-- The time `due`, set at most 60 s ahead, has been reached (R95; assumption log 7). -/
def Millis.reached (now due : Millis) : Bool := Millis.age now due < 2 ^ 31

end Sys2Proof.Machine
end

