-- ==== Sys2Proof/Machine/Framing.lean ====
section
/-! DEFINITION. The frame on the line (R170), its check sequence (R171), and the common receiver (R179). -/

namespace Sys2Proof.Machine

/-- One bit of the CRC-16 with generator 1021h: the register shifts toward its most significant bit (R171). -/
def crcShift (c : Word16) : Word16 := if c.msb then (c <<< 1) ^^^ 0x1021#16 else c <<< 1

/-- Takes one octet into the register from its most significant bit downward (R171). -/
def crcOctet (c : Word16) (o : Octet) : Word16 :=
  crcShift (crcShift (crcShift (crcShift (crcShift (crcShift (crcShift (crcShift (c ^^^ (o.setWidth 16 <<< 8)))))))))

/-- The check sequence over octets in the order sent, from FFFFh, without inversion (R171). -/
def crc (os : List Octet) : Word16 := os.foldl crcOctet 0xFFFF#16

/-- The octets that CHECK covers: DEST through the last of PAYLOAD (R171). -/
def Frame.body (f : Frame) : List Octet := [f.dest, f.src, f.tag, f.kind, oct f.payload.length] ++ f.payload

/-- The frame as it stands on the line: START, body, CHECK with the high-order octet first (R170). -/
def Frame.octets (f : Frame) : List Octet := startOctet :: f.body ++ wordOct (crc f.body)

/-- The frame occupies 8 + LEN char (R130, R75). -/
def Frame.chars (f : Frame) : Nat := 8 + f.payload.length

/-- What an octet does at a receiver (R179). -/
inductive Reception where
  /-- The receiver is off and receives nothing (R180). -/
  | ignored
  /-- Outside a frame, other than C3h. -/
  | noise
  /-- It starts a frame. -/
  | started
  /-- It continues a frame without deciding its outcome. -/
  | stored
  /-- LEN above 64: the frame ends LENGTH. -/
  | length
  /-- The last CHECK octet, and the check differs. -/
  | check
  /-- The last CHECK octet, and the check agrees. -/
  | valid (f : Frame)
deriving DecidableEq, Repr

/-- The frame in the octets stored, START first: the fields by their places (R170). -/
def frameOfOctets (os : List Octet) : Frame :=
  { dest := os.getD 1 0#8, src := os.getD 2 0#8, tag := os.getD 3 0#8, kind := os.getD 4 0#8
    payload := (os.drop 6).take (os.getD 5 0#8).toNat }

/-- The check over the stored octets agrees with the two CHECK octets at their end (R171, R179). -/
def checkAgrees (os : List Octet) : Bool :=
  let n := 6 + (os.getD 5 0#8).toNat
  wordOct (crc ((os.take n).drop 1)) == os.drop n

/-- One octet at the receiver: what it does, and the receiver after it (R179). -/
def Receiver.take (r : Receiver) (o : Octet) : Reception × Receiver :=
  match r with
  | .off => (.ignored, .off)
  | .outside => if o = startOctet then (.started, .inside [o] 0 0 false) else (.noise, .outside)
  | .inside os _ _ _ =>
    let os' := os ++ [o]
    if os'.length = 6 then
      if 64 < o.toNat then (.length, .outside) else (.stored, .inside os' 0 0 false)
    else if 6 < os'.length ∧ os'.length = 8 + (os'.getD 5 0#8).toNat then
      if checkAgrees os' then (.valid (frameOfOctets os'), .outside) else (.check, .outside)
    else (.stored, .inside os' 0 0 false)

/-- The gap timer of the receiver has run out (R179): inside a frame, 3 char since the end of its last octet, with no further start
bit taken. -/
def Receiver.gapReached (r : Receiver) (charPeriods : Nat) : Bool :=
  match r with
  | .inside _ quiet _ begun => !begun && gapChars * charPeriods ≤ quiet
  | _ => false

/-- The start bit of the next octet is taken before the expiry of the gap timer: that octet belongs to the frame (R179). -/
def Receiver.begin (r : Receiver) : Receiver :=
  match r with
  | .inside os quiet straddle _ => .inside os quiet straddle true
  | _ => r

/-- The octet begun has reached its end (assumption log 6): its start bit came within the 3 char of the gap timer, and it lasts 1
char, or ends by `straddle` where it was begun before a change of rate (R132, R169). -/
def Receiver.octetAwaited (r : Receiver) (charPeriods : Nat) : Bool :=
  match r with
  | .inside _ quiet straddle begun => begun && max ((gapChars + 1) * charPeriods) straddle ≤ quiet
  | _ => false

/-- The receiver as a change of rate leaves it, a char having lasted `charPeriods` until then (R132, R180): the frame stays in
assembly. An octet whose start bit came before, within the gap timer, is received at the old rate and ends 1 such char after it. -/
def Receiver.rerated (r : Receiver) (charPeriods : Nat) : Receiver :=
  match r with
  | .inside os quiet straddle begun =>
    .inside os quiet (max straddle (min quiet (gapChars * charPeriods) + charPeriods)) begun
  | _ => r

/-- One clock period passes at the receiver. -/
def Receiver.tick : Receiver → Receiver
  | .inside os quiet straddle begun => .inside os (quiet + 1) straddle begun
  | r => r

end Sys2Proof.Machine
end

