-- ==== Sys2Proof/Machine/Ops.lean ====
section
/-! DEFINITION. The transaction table and the upstream outbound queue (chapters 1 and 7): allocation, completion, answer
building, promotion, release, refusal. -/

namespace Sys2Proof.Machine

/-! ### Access to the blocks -/

/-- OWN_ADDR of ACTIVE. -/
def State.own (s : State) : Octet := s.active.settings.ownAddr

/-- The part is neither held reset nor LOADING: its timers, lines and store operations advance (R162, R181). -/
def State.live (s : State) : Bool := s.seq.run != .loading

/-- The branch controller of a branch. -/
def State.branch (s : State) (b : BranchId) : Branch := s.branches.get b

/-- Replaces one branch controller. -/
def State.setBranch (s : State) (b : BranchId) (x : Branch) : State := { s with branches := s.branches.set b x }

/-- The ACTIVE settings of a branch. -/
def State.branchSettings (s : State) (b : BranchId) : BranchSettings := s.active.settings.branch.get b

/-- The record of an address in a configuration set. -/
def ConfigSet.record? (c : ConfigSet) (a : Octet) : Option StationRecord := c.stations.find? fun r => r.addr == a

/-- Uses up one free value (assumption log 2). -/
def State.drawn (s : State) : State := { s with free := s.free + 1 }

/-! ### The table (R1 to R4) -/

/-- The table holds 24 entries (R1). -/
def tableSize : Nat := 24

/-- The upstream outbound queue holds 8 frames (R128). -/
def outboundSize : Nat := 8

/-- A branch request queue holds 8 items (R66). -/
def branchQueueSize : Nat := 8

/-- The agent queue holds 4 entries (R138). -/
def agentQueueSize : Nat := 4

/-- The entry in a slot. -/
def Table.find? (t : Table) (slot : Nat) : Option Entry := t.entries.find? fun e => e.slot == slot

/-- Changes the entry in a slot. -/
def Table.update (t : Table) (slot : Nat) (f : Entry → Entry) : Table :=
  { t with entries := t.entries.map fun e => if e.slot = slot then f e else e }

/-- Frees a slot (R18). -/
def Table.free (t : Table) (slot : Nat) : Table := { t with entries := t.entries.filter fun e => e.slot != slot }

/-- Puts an entry in its place in slot order. -/
def insertEntry (e : Entry) : List Entry → List Entry
  | [] => [e]
  | x :: xs => if e.slot < x.slot then e :: x :: xs else x :: insertEntry e xs

/-- The slot is free. -/
def Table.slotFree (t : Table) (slot : Nat) : Bool := t.entries.all fun e => e.slot != slot

/-- The lowest-numbered free slot, none when all 24 are occupied (R1). -/
def Table.lowestFree (t : Table) : Option Nat := (List.range tableSize).find? t.slotFree

/-- An occupied entry holds the tag (R3). -/
def Table.tagHeld (t : Table) (tag : Octet) : Bool := t.entries.any fun e => e.tag == tag

/-- Allocation: the entry occupies its slot and ADMITTED counts (R1, R20). -/
def Table.allocate (t : Table) (e : Entry) : Table :=
  { t with entries := insertEntry e t.entries, counters := { t.counters with admitted := bump t.counters.admitted } }

/-- QUEUED, ON_LINE, SPREADING and WORKING are the open states (R4). -/
def EntryState.isOpen : EntryState → Bool
  | .queued | .onLine | .spreading | .working => true
  | .returning | .outbound => false

/-- Changes the entry in a slot. -/
def State.updateEntry (s : State) (slot : Nat) (f : Entry → Entry) : State := { s with table := s.table.update slot f }

/-! ### The outbound queue (R128, R130) -/

/-- The outbound queue has a free slot: the item being sent still occupies its own (R128). -/
def Upstream.hasRoom (u : Upstream) : Bool := u.queue.length < outboundSize

/-- Transmission of the head item's frame begins; with no item the transmitter is IDLE (R130). -/
def Upstream.beginHead (u : Upstream) : Upstream :=
  match u.queue with
  | [] => { u with tx := .idle }
  | i :: _ => { u with tx := .sending (i.frame.chars * u.rate.charPeriods) }

/-- Appends an item at the tail; an IDLE transmitter begins sending it at once (R130). -/
def Upstream.append (u : Upstream) (i : OutItem) : Upstream :=
  let u' := { u with queue := u.queue ++ [i] }
  match u.tx with
  | .idle => u'.beginHead
  | _ => u'

/-! ### Completion (R12 to R17) -/

/-- How an entry completes (R12). A management answer carries the own address in force when it is built (R17). -/
inductive Form where
  | relayed (payload : List Octet)
  | noAnswer
  | aborted (r : AbortReason)
  | done
  | managed (own : Octet) (op : Octet) (result : Result) (data : List Octet)
deriving DecidableEq, Repr

/-- The answer frame of an entry (R15 to R17); `own` is the OWN_ADDR for an answer DONE. -/
def answerFrame (own : Octet) (form : Form) (e : Entry) : Frame :=
  let station := e.station.getD own
  match form with
  | .relayed payload => { dest := e.ctrl, src := station, tag := e.tag, kind := kindReply, payload := payload }
  | .noAnswer =>
    { dest := e.ctrl, src := station, tag := e.tag, kind := kindNoAnswer
      payload := [(e.lastCause.map Cause.octet).getD 0#8, oct e.attempts] }
  | .aborted r =>
    { dest := e.ctrl, src := station, tag := e.tag, kind := kindAborted, payload := [r.octet, oct e.attempts] }
  | .done =>
    { dest := e.ctrl, src := own, tag := e.tag, kind := kindDone
      payload := [(e.sets.map fun x => branchSetOct x.sent).getD 0#8, (e.sets.map fun x => branchSetOct x.notSent).getD 0#8] }
  | .managed src op result data =>
    { dest := e.ctrl, src := src, tag := e.tag, kind := kindManageReply, payload := op :: result.octet :: data }

/-- Counts a completion under its form (R20). -/
def TxnCounters.countForm (c : TxnCounters) : Form → TxnCounters
  | .relayed _ => { c with relayed := bump c.relayed }
  | .noAnswer => { c with noAnswer := bump c.noAnswer }
  | .aborted _ => { c with aborted := bump c.aborted }
  | .done => { c with done := bump c.done }
  | .managed .. => { c with managed := bump c.managed }

/-- The release note of an answer (R128): RATE for every answer to COMMIT, RESTART for the answer OK to RESTART. -/
def releaseNote (e : Entry) (answer : Frame) : ReleaseNote :=
  match e.origin, answer.payload with
  | .manage, op :: result :: data =>
    if op = Op.commit.octet then .entryRate e.slot
    else if op = Op.restart.octet ∧ result = Result.ok.octet then
      match data with
      | [arg] =>
        match RestartKind.ofOctet? arg with
        | some k => .entryRestart e.slot k
        | none => .entry e.slot
      | _ => .entry e.slot
    else .entry e.slot
  | _, _ => .entry e.slot

/-- The entry as its completion leaves it. -/
def Entry.completed (e : Entry) (seq : Word16) (answer : Frame) (st : EntryState) : Entry :=
  { e with seq := some seq, reply := some answer, state := st }

/-- Completion of the entry in a slot (R12): only an open entry completes; it takes the completion sequence number (R13),
its answer frame is built, and it becomes OUTBOUND where the outbound queue has room and no entry is RETURNING, and
RETURNING otherwise (R14). -/
def State.complete (s : State) (slot : Nat) (form : Form) : State :=
  match s.table.find? slot with
  | none => s
  | some e =>
    if e.state.isOpen then
      let answer := answerFrame s.own form e
      let counted := { s.table with nextSeq := s.table.nextSeq + 1#16, counters := s.table.counters.countForm form }
      if s.up.hasRoom && s.table.returning.isEmpty then
        { s with table := counted.update slot fun e => e.completed s.table.nextSeq answer .outbound
                 up := s.up.append { frame := answer, note := releaseNote e answer } }
      else
        { s with table := { counted.update slot (fun e => e.completed s.table.nextSeq answer .returning) with
                            returning := s.table.returning ++ [slot] } }
    else s

/-- A completion to be made: which entry, and how. -/
structure Job where
  slot : Nat
  form : Form
deriving DecidableEq, Repr

/-- How long ago the entry in a slot was admitted; 0 where the slot is free (R2). -/
def State.admissionAge (s : State) (slot : Nat) : Nat :=
  match s.table.find? slot with
  | some e => Millis.age s.clock.ms e.admitted
  | none => 0

/-- Of two completions of one event the earlier admission goes first, and of equal admissions the lower slot (R13). -/
def State.jobFirst (s : State) (a b : Job) : Bool :=
  s.admissionAge b.slot < s.admissionAge a.slot ∨ (s.admissionAge a.slot = s.admissionAge b.slot ∧ a.slot ≤ b.slot)

/-- Puts a completion in its place. -/
def State.insertJob (s : State) (j : Job) : List Job → List Job
  | [] => [j]
  | k :: ks => if s.jobFirst j k then j :: k :: ks else k :: s.insertJob j ks

/-- The completions of one event in the order in which they are made (R13). -/
def State.sortJobs (s : State) (jobs : List Job) : List Job := jobs.foldr s.insertJob []

/-- Makes the completions one after another. -/
def State.completeEach (s : State) (jobs : List Job) : State := jobs.foldl (fun t j => t.complete j.slot j.form) s

/-- Makes all completions of one event, in their order (R13). -/
def State.completeAll (s : State) (jobs : List Job) : State := s.completeEach (s.sortJobs jobs)

/-! ### Broadcast sets (R8, R9) -/

/-- The set holds no branch. -/
def emptySet (q : Quad Bool) : Bool := !q.b0 && !q.b1 && !q.b2 && !q.b3

/-- Moves branch b from pending to sent, and counts the attempt; no effect once b has left pending (R8). -/
def Entry.moveSent (b : BranchId) (e : Entry) : Entry :=
  match e.sets with
  | none => e
  | some x =>
    if x.pending.get b then
      { e with sets := some { x with pending := x.pending.set b false, sent := x.sent.set b true }, attempts := e.attempts + 1 }
    else e

/-- Moves branch b from pending to not-sent; no effect once b has left pending (R8). -/
def Entry.moveNotSent (b : BranchId) (e : Entry) : Entry :=
  match e.sets with
  | none => e
  | some x =>
    if x.pending.get b then
      { e with sets := some { x with pending := x.pending.set b false, notSent := x.notSent.set b true } }
    else e

/-- The share of a broadcast entry on branch b is aborted (R8). -/
def State.shareAborted (s : State) (b : BranchId) (slot : Nat) : State := s.updateEntry slot (Entry.moveNotSent b)

/-- Aborts several shares on branch b. -/
def State.sharesAborted (s : State) (b : BranchId) (slots : List Nat) : State :=
  slots.foldl (fun t slot => t.shareAborted b slot) s

/-- A SPREADING entry whose pending set is empty (R9). -/
def Entry.spreadOut (e : Entry) : Bool :=
  e.state == .spreading && (match e.sets with | some x => emptySet x.pending | none => false)

/-- The broadcast entries that the moves of an event have finished: each completes DONE once (R9). -/
def State.doneJobs (s : State) : List Job :=
  (s.table.entries.filter Entry.spreadOut).map fun e => { slot := e.slot, form := .done }

/-! ### Release (R14, R18, R131) -/

/-- The oldest RETURNING entry has its frame appended and becomes OUTBOUND (R14). -/
def State.promote (s : State) : State :=
  match s.table.returning with
  | [] => s
  | slot :: rest =>
    match s.table.find? slot with
    | none => { s with table := { s.table with returning := rest } }
    | some e =>
      match e.reply with
      | none => { s with table := { s.table with returning := rest } }
      | some f =>
        { s with table := { s.table.update slot (fun e => { e with state := .outbound }) with returning := rest }
                 up := s.up.append { frame := f, note := releaseNote e f } }

/-- The entry whose answer has gone is freed and its tag released (R18); a refusal frees nothing. -/
def State.release (s : State) : ReleaseNote → State
  | .entry slot | .entryRate slot | .entryRestart slot _ => { s with table := s.table.free slot }
  | .refusal => s

/-! ### Refusals (R58) -/

/-- The REFUSED frame of a request (R58). -/
def refusedFrame (f : Frame) (r : RefusalReason) : Frame :=
  { dest := f.src, src := f.dest, tag := f.tag, kind := kindRefused, payload := [r.octet] }

/-- A refusal is appended to the outbound queue where a slot is free, and is dropped otherwise (R58). -/
def State.refuse (s : State) (f : Frame) (r : RefusalReason) : State :=
  if s.up.hasRoom then
    let u := s.up.append { frame := refusedFrame f r, note := .refusal }
    { s with up := { u with counters := { u.counters with refusalsSent := bump u.counters.refusalsSent } } }
  else
    { s with up := { s.up with counters := { s.up.counters with refusalDropped := bump s.up.counters.refusalDropped } } }

end Sys2Proof.Machine
end

