-- ==== Sys2Proof/Machine/ScanOps.lean ====
section
/-! DEFINITION. The scan unit: schedules, poll outcomes, change marks (chapter 5). -/

namespace Sys2Proof.Machine

/-- The slot of an address. -/
def Scan.find? (c : Scan) (a : Octet) : Option ScanSlot := c.slots.find? fun x => x.addr == a

/-- Changes the slot of an address. -/
def Scan.update (c : Scan) (a : Octet) (f : ScanSlot → ScanSlot) : Scan :=
  { c with slots := c.slots.map fun x => if x.addr = a then f x else x }

/-- The scan interval of a station in ACTIVE. -/
def ConfigSet.scan? (c : ConfigSet) (a : Octet) : Option Nat := (c.record? a).bind fun r => r.scan

/-- A slot made due at once: UNKNOWN, never polled, OVERDUE since the time given (R40, R96, R109). -/
def newSlot (a : Octet) (since : Millis) : ScanSlot :=
  { addr := a, state := .unknown, word := none, collState := .unknown, collWord := none, misses := 0
    schedule := .overdue since, pollBound := false, lastPoll := none, mark := false }

/-- The schedule with a due time of `last` plus the interval: OVERDUE since that time where it has been reached, WAITING
for it otherwise (R40, R100). -/
def scheduleFrom (now last : Millis) (interval : Nat) : Schedule :=
  let due := last + BitVec.ofNat 32 (scanMillis interval)
  if scanMillis interval ≤ Millis.age now last then .overdue due else .waiting due

/-- The pair (state, word) differs from the collected pair (R102). -/
def ScanSlot.differs (x : ScanSlot) : Bool := x.state != x.collState || x.word != x.collWord

/-- A slot as a success leaves it, but for the schedule and the mark (R98). -/
def ScanSlot.succeeded (x : ScanSlot) (word : Word16) (sent : Millis) : ScanSlot :=
  { x with word := some word, state := .online, misses := 0, lastPoll := some sent, pollBound := false }

/-- A slot as a miss leaves it, but for the schedule and the mark (R99). -/
def ScanSlot.missed (x : ScanSlot) (sent : Millis) : ScanSlot :=
  let misses := min 3 (x.misses + 1)
  { x with misses := misses, state := if misses = 3 then .offline else x.state, lastPoll := some sent, pollBound := false }

/-- A slot with the schedule that its recorded poll sets (R100). -/
def ScanSlot.rescheduled (x : ScanSlot) (now sent : Millis) (interval : Option Nat) : ScanSlot :=
  match interval with
  | some n => { x with schedule := scheduleFrom now sent n }
  | none => x

/-- The test of the change mark after an outcome is recorded (R102): a slot whose pairs differ and whose mark is clear is
marked and appended to the change list. -/
def Scan.testMark (c : Scan) (a : Octet) : Scan :=
  match c.find? a with
  | none => c
  | some x =>
    if x.differs && !x.mark then
      { c.update a (fun x => { x with mark := true }) with changes := c.changes ++ [a] }
    else c

/-- Records the outcome of a poll in the slot whose poll was bound: a status word, or a miss (R98, R99). -/
def State.recordPoll (s : State) (a : Octet) (word : Option Word16) (sent : Millis) : State :=
  let outcome (x : ScanSlot) : ScanSlot :=
    match word with
    | some w => x.succeeded w sent
    | none => x.missed sent
  let recorded := s.scan.update a fun x => (outcome x).rescheduled s.clock.ms sent (s.active.scan? a)
  { s with scan := recorded.testMark a }

/-- The outcome of a bound poll reaches its slot, unless a commit has discarded that slot (R40, R107). -/
def State.pollEnded (s : State) (p : PollItem) (word : Option Word16) : State :=
  if p.live then s.recordPoll p.station word (p.sentAt.getD s.clock.ms) else s

/-- A poll bound in GUARD is released unsent: its slot stays OVERDUE (R101). -/
def State.pollReleased (s : State) (p : PollItem) : State :=
  if p.live then { s with scan := s.scan.update p.station fun x => { x with pollBound := false } } else s

/-- The slot is an overdue claimant of the branch: OVERDUE, no poll bound, its record in ACTIVE on that branch (R70, R96). -/
def State.claimsBranch (s : State) (b : BranchId) (x : ScanSlot) : Bool :=
  (match x.schedule with | .overdue _ => true | .waiting _ => false) && !x.pollBound
    && (match s.active.record? x.addr with | some r => r.branch == b | none => false)

/-- The overdue claims of a branch in address order (R70). -/
def State.overdueClaims (s : State) (b : BranchId) : List ScanSlot := s.scan.slots.filter (s.claimsBranch b)

/-- How long a slot has been OVERDUE. -/
def ScanSlot.overdueAge (x : ScanSlot) (now : Millis) : Nat :=
  match x.schedule with
  | .overdue since => Millis.age now since
  | .waiting _ => 0

/-- Of two claims in address order the one OVERDUE longer, and the first of two equal ones (R70, R96). -/
def longerOverdue (now : Millis) (x : ScanSlot) : Option ScanSlot → ScanSlot
  | none => x
  | some y => if x.overdueAge now < y.overdueAge now then y else x

/-- The claim that the arbiter takes: the one OVERDUE longest, of equal ones the lowest address (R70). -/
def State.firstClaim (s : State) (b : BranchId) : Option ScanSlot :=
  (s.overdueClaims b).foldr (fun x best => some (longerOverdue s.clock.ms x best)) none

end Sys2Proof.Machine
end

