-- ==== Sys2Proof/Machine/SupervisionOps.lean ====
section
/-! DEFINITION. The supervision unit's own state: the silence timer, the failsafe report, the end of sending (chapter 6). -/

namespace Sys2Proof.Machine

/-- The silence timer as a restart leaves it: running with the full period in NORMAL with SILENCE not 0, stopped otherwise
(R112). -/
def State.silenceAfresh (s : State) : Option Nat :=
  if s.sup.state = .normal ∧ s.active.settings.silence ≠ 0 then some (silencePeriods s.active.settings.silence) else none

/-- Restarts the silence timer (R112). -/
def State.restartSilence (s : State) : State := { s with sup := { s.sup with silence := s.silenceAfresh } }

/-- Sets the outcome of a station's report line, which leaves PENDING once (R118). -/
def Supervision.setLine (v : Supervision) (a : Octet) (o : LineOutcome) (attempts : Nat) : Supervision :=
  { v with lines := v.lines.map fun l =>
      if l.station = a ∧ l.outcome = .pending then { l with outcome := o, attempts := attempts } else l }

/-- Sets the outcome of a failsafe item's report line (R118). -/
def State.itemOutcome (s : State) (f : FailsafeItem) (o : LineOutcome) : State :=
  { s with sup := s.sup.setLine f.station o f.attempts }

/-- Several failsafe items removed unsent become SKIPPED (R86, R37). -/
def State.itemsSkipped (s : State) (fs : List FailsafeItem) : State := fs.foldl (fun t f => t.itemOutcome f .skipped) s

/-- The failsafe items listed or bound on a branch. -/
def Branch.failsafeCount (x : Branch) : Nat :=
  x.failsafe.length + (match x.bound with | some (.failsafe _) => 1 | _ => 0)

/-- The failsafe items listed or bound on all branches (R121). -/
def State.failsafeLeft (s : State) : Nat :=
  s.branches.b0.failsafeCount + s.branches.b1.failsafeCount + s.branches.b2.failsafeCount + s.branches.b3.failsafeCount

/-- FAILSAFE_SENDING becomes FAILSAFE_HELD in the event that leaves no failsafe item listed or bound (R119). -/
def State.heldIfDone (s : State) : State :=
  if s.sup.state = .failsafeSending ∧ s.failsafeLeft = 0 then { s with sup := { s.sup with state := .failsafeHeld } } else s

end Sys2Proof.Machine
end

