-- ==== Sys2Proof/Machine/LineOps.lean ====
section
/-! DEFINITION. The branch controllers (chapter 4): the arbiter, guards, sending, the reply window, failure and retry, line
fault, and what a commit or failsafe entry does to a branch. -/

namespace Sys2Proof.Machine

/-! ### Guard (R72) -/

/-- A guard begins: its length is taken from GUARD of ACTIVE and its timer started at the rate in use (R72). -/
def Branch.beginGuard (x : Branch) (c : BranchSettings) : Branch :=
  { x with state := .guard, guardLen := c.guard, phase := .running (c.guard * x.rate.charPeriods) }

/-! ### The arbiter (R68 to R71) -/

/-- A claimant of the line, with what its pick leaves of the list it heads. -/
inductive Claim where
  | failsafe (f : FailsafeItem) (rest : List FailsafeItem)
  | queued (q : QueueItem) (rest : List QueueItem)
  | poll (x : ScanSlot)
deriving DecidableEq, Repr

/-- The head of the request queue, if any. -/
def Branch.queueClaim (x : Branch) : Option Claim :=
  match x.queue with
  | [] => none
  | q :: rest => some (.queued q rest)

/-- The claimant picked (R69): the failsafe list; an overdue poll where the consecutive-controller count has reached BURST;
the request queue; an overdue poll. -/
def chooseClaim (x : Branch) (burst : Nat) (poll : Option ScanSlot) : Option Claim :=
  match x.failsafe, poll with
  | f :: rest, _ => some (.failsafe f rest)
  | [], some p => if burst ≤ x.consec then some (.poll p) else x.queueClaim.or (some (.poll p))
  | [], none => x.queueClaim

/-- The branch as the pick of a claimant leaves it, before its guard begins (R69, R71). -/
def Branch.picked (x : Branch) (timeout : Nat) : Claim → Branch
  | .failsafe f rest => { x with failsafe := rest, bound := some (.failsafe f) }
  | .queued (.station slot) rest => { x with queue := rest, bound := some (.station slot), consec := min 15 (x.consec + 1) }
  | .queued (.share slot) rest => { x with queue := rest, bound := some (.share slot), consec := min 15 (x.consec + 1) }
  | .poll p =>
    { x with bound := some (.poll { station := p.addr, timeout := timeout, attempts := 0, sentAt := none, live := true })
             consec := 0 }

/-- What a pick does outside the branch: a STATION entry becomes ON_LINE (R5), a slot's poll counts as bound (R97). -/
def State.claimTaken (s : State) : Claim → State
  | .queued (.station slot) _ => s.updateEntry slot fun e => { e with state := .onLine }
  | .poll p => { s with scan := s.scan.update p.addr fun x => { x with pollBound := true } }
  | _ => s

/-- The reply timeout of a poll, from the station's record in ACTIVE (R71). -/
def State.pollTimeout (s : State) : Claim → Nat
  | .poll p => ((s.active.record? p.addr).map fun r => r.timeout).getD 0
  | _ => 0

/-- The pick: rate and address in use are taken from ACTIVE, the claimant is bound and its guard begins (R71). An octet under way
is received at the old rate (R180). -/
def State.pick (s : State) (b : BranchId) (c : Claim) : State :=
  let cfg := s.branchSettings b
  let old := s.branch b
  let x := { old with rate := cfg.rate, rx := old.rx.rerated old.rate.charPeriods, addr := s.own, finalMark := false }
  (s.claimTaken c).setBranch b ((x.picked (s.pollTimeout c) c).beginGuard cfg)

/-- The arbiter of a branch: where the branch is IDLE with a claimant, one is picked (R68). -/
def State.arbitrate (s : State) (b : BranchId) : State :=
  if s.live && (s.branch b).state == .idle then
    match chooseClaim (s.branch b) (s.branchSettings b).burst (s.firstClaim b) with
    | none => s
    | some c => s.pick b c
  else s

/-- Every event that leaves an IDLE branch a claimant ends with its arbiter's run (R68): an IDLE branch has no claimant
before the event, so running all four picks on those branches alone. -/
def State.settle (s : State) : State := (((s.arbitrate .b0).arbitrate .b1).arbitrate .b2).arbitrate .b3

/-! ### Leaving an item (R80, R83, R89) -/

/-- The branch with its item unbound: IDLE where ACTIVE has it ENABLED, DISABLED with its receiver off otherwise (R89). -/
def Branch.released (x : Branch) (enabled : Bool) : Branch :=
  { x with bound := none, finalMark := false, deadline := none, deadlinePassed := false, phase := .stopped
           state := if enabled then .idle else .disabled
           rx := if enabled then x.rx else .off }

/-- The item of a branch is unbound, and the branch goes IDLE or DISABLED (R83, R89). -/
def State.freeBranch (s : State) (b : BranchId) : State :=
  s.setBranch b ((s.branch b).released (s.branchSettings b).enabled)

/-! ### Sending (R67, R75) -/

/-- The frame of the attempt from the bound item (R67); none where its transaction slot is free. -/
def State.attemptFrame (s : State) (x : Branch) : BoundItem → Option Frame
  | .station slot =>
    (s.table.find? slot).map fun e =>
      { dest := e.station.getD 0#8, src := x.addr, tag := e.tag, kind := e.kind.octet, payload := e.payload }
  | .share slot =>
    (s.table.find? slot).map fun e =>
      { dest := 0xFF#8, src := x.addr, tag := e.tag, kind := kindCommand, payload := e.payload }
  | .poll p => some { dest := p.station, src := x.addr, tag := x.pollTag, kind := kindStatus, payload := [] }
  | .failsafe f => some { dest := f.station, src := x.addr, tag := x.pollTag, kind := f.kind.octet, payload := f.payload }

/-- The bound item takes its tag from the poll tag counter (R67). -/
def BoundItem.internal : BoundItem → Bool
  | .poll _ | .failsafe _ => true
  | .station _ | .share _ => false

/-- The item with its attempt counted at the start of sending, for the items that keep the account themselves (R75). -/
def BoundItem.attempted (now : Millis) : BoundItem → BoundItem
  | .poll p => .poll { p with attempts := p.attempts + 1, sentAt := some now }
  | .failsafe f => .failsafe { f with attempts := f.attempts + 1 }
  | i => i

/-- The attempt counted in the entry of a STATION item (R6). -/
def State.countAttempt (s : State) : BoundItem → State
  | .station slot => s.updateEntry slot fun e => { e with attempts := e.attempts + 1 }
  | _ => s

/-- The branch as a completed guard leaves it: the interrupted-guard count is cleared, the driver is on, the receiver off
and the frame goes out (R72, R75). DESIGN CHOICE (assumption log 8): the sending of a broadcast share sets the expected tag too,
as R75 says of every sending; R63 names the items that await a reply alone. -/
def Branch.startSending (x : Branch) (item : BoundItem) (f : Frame) (now : Millis) : Branch :=
  { x with state := .sending, phase := .stopped, interrupts := 0
           bound := some (item.attempted now), expectedTag := f.tag, frame := some f
           sendLeft := some (f.chars * x.rate.charPeriods)
           pollTag := if item.internal then x.pollTag + 1#8 else x.pollTag
           counters := { x.counters with attempts := bump x.counters.attempts }
           driver := true, rx := .off }

/-- The branch at the end of a sending: the driver is off and the receiver on (R75). -/
def Branch.stopSending (x : Branch) : Branch :=
  { x with frame := none, sendLeft := none, driver := false, rx := .outside }

/-- The reply timeout of a bound item in ms (R65). -/
def State.replyTimeout (s : State) : BoundItem → Nat
  | .station slot => (((s.table.find? slot).bind fun e => e.route).map fun r => r.timeout).getD 0
  | .poll p => p.timeout
  | .failsafe f => f.timeout
  | .share _ => 0

/-- The station a reply to the bound item must come from (R79). -/
def State.boundStation (s : State) : BoundItem → Option Octet
  | .station slot => (s.table.find? slot).bind fun e => e.station
  | .share _ => some 0xFF#8
  | .poll p => some p.station
  | .failsafe f => some f.station

/-! ### Failure and retry (R82, R83) -/

/-- A further attempt is made: the item is a STATION entry or a failsafe item, it has attempts left, and its final-attempt
mark is clear (R82). -/
def State.retryAllowed (s : State) (x : Branch) : Bool :=
  !x.finalMark &&
    match x.bound with
    | some (.station slot) =>
      match s.table.find? slot with
      | some e => e.attempts < 1 + ((e.route.map fun r => r.retries).getD 0)
      | none => false
    | some (.failsafe f) => f.attempts < 1 + f.retries
    | _ => false

/-- The last failure cause of a STATION entry is set (R6, R82). -/
def State.noteCause (s : State) (c : Cause) : Option BoundItem → State
  | some (.station slot) => s.updateEntry slot fun e => { e with lastCause := some c }
  | _ => s

/-- The outcome of an item that ends in final failure is handed on (R83). -/
def State.failureOutcome (s : State) : Option BoundItem → State
  | some (.station slot) => s.complete slot .noAnswer
  | some (.poll p) => s.pollEnded p none
  | some (.failsafe f) => s.itemOutcome f .noAnswer
  | _ => s

/-- An attempt on branch b fails (R82): it is counted, the window closes, and either the item re-enters the guard or it
ends in final failure (R83). -/
def State.attemptFails (s : State) (b : BranchId) (c : Cause) : State :=
  let x := s.branch b
  let closed := { x with deadline := none, deadlinePassed := false, counters := x.counters.countFailure c }
  let s1 := (s.noteCause c x.bound).setBranch b closed
  if s1.retryAllowed closed then s1.setBranch b (closed.beginGuard (s1.branchSettings b))
  else (((s1.failureOutcome x.bound).freeBranch b).heldIfDone).settle

/-- The outcome of an item that succeeds is handed on (R80). -/
def State.successOutcome (s : State) (payload : List Octet) : Option BoundItem → State
  | some (.station slot) => s.complete slot (.relayed payload)
  | some (.poll p) =>
    match payload with
    | hi :: lo :: _ => s.pollEnded p (some (pairWord hi lo))
    | _ => s
  | some (.failsafe f) => s.itemOutcome f .ok
  | _ => s

/-- An attempt on branch b succeeds (R80). -/
def State.attemptSucceeds (s : State) (b : BranchId) (payload : List Octet) : State :=
  let x := s.branch b
  let counted := { x with counters := { x.counters with replies := bump x.counters.replies } }
  ((((s.setBranch b counted).successOutcome payload x.bound).freeBranch b).heldIfDone).settle

/-- A VALID frame is matching for the bound item (R79). -/
def State.replyMatches (s : State) (x : Branch) (f : Frame) : Bool :=
  match x.bound with
  | none => false
  | some i =>
    f.dest == x.addr && s.boundStation i == some f.src && f.tag == x.expectedTag && f.kind == kindReply

/-- A matching reply too short for a scan poll (R79). -/
def shortForPoll (i : Option BoundItem) (f : Frame) : Bool :=
  match i with
  | some (.poll _) => f.payload.length < 2
  | _ => false

/-- Counts a stray frame (R81). -/
def Branch.countStray (x : Branch) : Branch := { x with counters := { x.counters with stray := bump x.counters.stray } }

/-- A VALID frame in RECEIVING (R78 to R80). -/
def State.replyReceived (s : State) (b : BranchId) (f : Frame) : State :=
  let x := s.branch b
  if s.replyMatches x f then
    if shortForPoll x.bound f then s.attemptFails b .corrupt else s.attemptSucceeds b f.payload
  else if x.deadlinePassed then (s.setBranch b x.countStray).attemptFails b .silent
  else s.setBranch b { x.countStray with state := .awaiting }

/-! ### Line fault (R85, R86) -/

/-- The transaction slots of the STATION items in a queue. -/
def stationSlots (qs : List QueueItem) : List Nat :=
  qs.filterMap fun q => match q with | .station slot => some slot | .share _ => none

/-- The transaction slots of the shares in a queue. -/
def shareSlots (qs : List QueueItem) : List Nat :=
  qs.filterMap fun q => match q with | .share slot => some slot | .station _ => none

/-- Completions ABORTED for a reason. -/
def abortJobs (r : AbortReason) (slots : List Nat) : List Job := slots.map fun slot => { slot := slot, form := .aborted r }

/-- The transaction slot of a bound STATION entry. -/
def boundStationSlots : Option BoundItem → List Nat
  | some (.station slot) => [slot]
  | _ => []

/-- What the fault event does with a bound item other than a STATION entry (R85). -/
def State.faultDisposal (s : State) (b : BranchId) : Option BoundItem → State
  | some (.share slot) => s.shareAborted b slot
  | some (.poll p) => s.pollReleased p
  | some (.failsafe f) => s.itemOutcome f .skipped
  | _ => s

/-- The branch as the fault event leaves it: in FAULT with the probe timer started, or in DISABLED where it was running
down and ACTIVE has it not ENABLED (R85). -/
def Branch.faulted (x : Branch) (enabled : Bool) : Branch :=
  { x with state := if enabled then .fault else .disabled
           queue := [], failsafe := [], bound := none, phase := .stopped, finalMark := false
           probeTimer := if enabled then some probePeriods else none, probeQuiet := none
           rx := if enabled then x.rx else .off
           counters := { x.counters with faults := bump x.counters.faults } }

/-- The branch enters FAULT: the bound item and everything waiting on it is disposed of (R85, R86). -/
def State.enterFault (s : State) (b : BranchId) : State :=
  let x := s.branch b
  let s1 := ((s.faultDisposal b x.bound).sharesAborted b (shareSlots x.queue)).itemsSkipped x.failsafe
  let jobs := abortJobs .lineFault (boundStationSlots x.bound ++ stationSlots x.queue) ++ s1.doneJobs
  let s2 := s1.setBranch b (x.faulted (s.branchSettings b).enabled)
  ((s2.completeAll jobs).heldIfDone).settle

/-- Eight guards in a row that could not complete bring FAULT (R85). -/
def faultThreshold : Nat := 8

/-- The branch with its guard interrupted: the guard timer stops, the interruption is counted, and the branch waits for
1 char of quiet (R73). -/
def Branch.interrupted (x : Branch) : Branch :=
  { x with phase := .waiting (quietWaitChars * x.rate.charPeriods), interrupts := x.interrupts + 1
           counters := { x.counters with guardInterrupts := bump x.counters.guardInterrupts } }

/-- An octet was received on branch b: it interrupts a guard (R73), prolongs the wait after an interruption, or ends a
probe without recovery (R88). In the other states it has no effect of its own. -/
def State.lineActivity (s : State) (b : BranchId) : State :=
  let x := s.branch b
  match x.state, x.phase with
  | .guard, .running _ =>
    let s1 := s.setBranch b x.interrupted
    if faultThreshold ≤ x.interrupts + 1 then s1.enterFault b else s1
  | .guard, .waiting _ => s.setBranch b { x with phase := .waiting (quietWaitChars * x.rate.charPeriods) }
  | .fault, _ => s.setBranch b { x with probeQuiet := none }
  | _, _ => s

/-- Sets the receiver of a branch. -/
def State.setRx (s : State) (b : BranchId) (r : Receiver) : State := s.setBranch b { s.branch b with rx := r }

/-! ### Failsafe entry at a branch (R115) -/

/-- The entry in a slot is a WRITE or COMMAND of the controller to a station. -/
def State.claimedByFailsafe (s : State) (slot : Nat) : Bool :=
  match s.table.find? slot with
  | some e => e.kind == .write || e.kind == .command
  | none => false

/-- A queue item that failsafe entry removes: a WRITE or COMMAND entry, or a share (R115). -/
def State.failsafeTakes (s : State) : QueueItem → Bool
  | .station slot => s.claimedByFailsafe slot
  | .share _ => true

/-- What failsafe entry does with the bound item: taken away in GUARD, marked in SENDING, AWAITING or RECEIVING (R74, R84). -/
inductive BoundClaim where
  | leave | takeAway | mark
deriving DecidableEq, Repr

/-- The claim of failsafe entry on the bound item (R115). -/
def State.boundClaim (s : State) (x : Branch) : BoundClaim :=
  match x.bound, x.state with
  | some (.station slot), .guard => if s.claimedByFailsafe slot then .takeAway else .leave
  | some (.share _), .guard => .takeAway
  | some (.station slot), _ => if s.claimedByFailsafe slot then .mark else .leave
  | _, _ => .leave

/-- The branch after the claim on its bound item. -/
def Branch.afterClaim (x : Branch) (enabled : Bool) : BoundClaim → Branch
  | .leave => x
  | .takeAway => x.released enabled
  | .mark => { x with finalMark := true }

/-- The slots of a bound share that is taken away. -/
def boundShareSlots : Option BoundItem → List Nat
  | some (.share slot) => [slot]
  | _ => []

/-- Controller work on branch b that has not begun transmission is claimed (R115). Answers the state and the completions
ABORTED FAILSAFE; the broadcasts that the moves finish are found by `doneJobs` once all branches are done. -/
def State.failsafeClaim (s : State) (b : BranchId) : State × List Job :=
  let x := s.branch b
  let taken := x.queue.filter s.failsafeTakes
  let claim := s.boundClaim x
  let away := if claim = .takeAway then x.bound else none
  let kept := { x with queue := x.queue.filter fun q => !s.failsafeTakes q }
  let s1 := (s.sharesAborted b (boundShareSlots away ++ shareSlots taken)).setBranch b
    (kept.afterClaim (s.branchSettings b).enabled claim)
  (s1, abortJobs .failsafe (boundStationSlots away ++ stationSlots taken))

/-! ### A commit at a branch (R37, R38, R89) -/

/-- The branch after a commit has withdrawn ENABLED from it (R89). -/
def Branch.disabledBy (x : Branch) : Branch :=
  let y := { x with queue := [], failsafe := [] }
  match x.bound, x.state with
  | none, _ => { y with state := .disabled, probeTimer := none, probeQuiet := none, rx := .off, phase := .stopped }
  | some (.share _), .guard => y.released false
  | some _, _ => { y with finalMark := true }

/-- A commit withdraws ENABLED from branch b (R37): queued entries are aborted, queued and guarded shares moved, listed
failsafe items SKIPPED, and the branch goes DISABLED or runs down. -/
def State.disableBranch (s : State) (b : BranchId) : State × List Job :=
  let x := s.branch b
  let guarded := if x.state = .guard then boundShareSlots x.bound else []
  let s1 := ((s.sharesAborted b (guarded ++ shareSlots x.queue)).itemsSkipped x.failsafe).setBranch b x.disabledBy
  (s1, abortJobs .branchDisabled (stationSlots x.queue))

/-- A commit makes branch b ENABLED (R38): from DISABLED it goes IDLE with both counts at 0; a branch still running down is
left as it stands. -/
def State.enableBranch (s : State) (b : BranchId) : State :=
  let x := s.branch b
  match x.state with
  | .disabled => s.setBranch b { x with state := .idle, interrupts := 0, consec := 0, rx := .outside }
  | _ => s

end Sys2Proof.Machine
end

