-- ==== Sys2Proof/Machine/AdmissionOps.lean ====
section
/-! DEFINITION. The admission unit: rate budgets and the ordered chain of checks (chapter 3). -/

namespace Sys2Proof.Machine

/-! ### Rate budgets (R59, R60) -/

/-- The token state of a station. -/
def State.tokenState? (s : State) (a : Octet) : Option TokenState := s.tokens.find? fun t => t.addr == a

/-- The token count of a station; 0 where it has no token state. -/
def State.tokenCount (s : State) (a : Octet) : Nat := ((s.tokenState? a).map fun t => t.count).getD 0

/-- One token is taken: from a full bucket the refill timer starts with the full period, from one below full it goes on
running (R60). -/
def TokenState.taken (t : TokenState) (b : Budget) : TokenState :=
  { t with count := t.count - 1, timer := if t.count = b.depth then some (refillPeriods b.refill) else t.timer }

/-- The refill timer expires: the count rises by 1, and the timer starts again below depth and stops at depth (R60). -/
def TokenState.refilled (t : TokenState) (b : Budget) : TokenState :=
  let count := min b.depth (t.count + 1)
  { t with count := count, timer := if count < b.depth then some (refillPeriods b.refill) else none }

/-- Changes the token state of a station. -/
def State.updateTokens (s : State) (a : Octet) (f : TokenState → TokenState) : State :=
  { s with tokens := s.tokens.map fun t => if t.addr = a then f t else t }

/-- The budget check of step 9d passes (R54). -/
def State.hasToken (s : State) (r : StationRecord) : Bool :=
  match r.budget with
  | none => true
  | some _ => 1 ≤ s.tokenCount r.addr

/-- An admitted request takes one token where the record holds a budget (R54). -/
def State.takeToken (s : State) (r : StationRecord) : State :=
  match r.budget with
  | none => s
  | some b => s.updateTokens r.addr fun t => t.taken b

/-- The token state that a start gives each budgeted station of ACTIVE: full, the timer stopped (R59). -/
def fullTokens (c : ConfigSet) : List TokenState :=
  c.stations.filterMap fun r => r.budget.map fun b => { addr := r.addr, count := b.depth, timer := none }

/-! ### The chain of checks (R45 to R57) -/

/-- The outcome of the chain for a frame. -/
inductive Verdict where
  | discard
  | refuse (r : RefusalReason)
  | station (r : StationRecord) (k : ReqKind) (slot : Nat)
  | manage (slot : Nat)
  | broadcast (eligible : Quad Bool) (slot : Nat)
deriving DecidableEq, Repr

/-- The class set allows a request kind (R49). -/
def ClassSet.allows (c : ClassSet) : ReqKind → Bool
  | .read => c.read
  | .write => c.write
  | .command => c.command
  | .status => c.status
  | .manage => false

/-- The window check of a WRITE (R51): the range lies inside one window, or the list is absent. -/
def windowsAllow (ws : Option (List Window)) (payload : List Octet) : Bool :=
  match ws, writeRange? payload with
  | none, _ => true
  | some _, none => false
  | some l, some (first, last) => l.any fun w => decide (w.first ≤ first ∧ last ≤ w.last)

/-- Steps 5 to 9 for a station request (R49 to R54). -/
def State.judgeStation (s : State) (f : Frame) (k : ReqKind) : Verdict :=
  match s.active.record? f.dest with
  | none => .refuse .unknownStation
  | some r =>
    if !r.classes.allows k then .refuse .classSet
    else if !shapeOk k f.payload then .refuse .format
    else if k = .write ∧ !windowsAllow r.windows f.payload then .refuse .window
    else if (s.branch r.branch).state = .fault ∨ (s.branch r.branch).state = .disabled then .refuse .lineFault
    else if s.table.tagHeld f.tag then .refuse .tagInUse
    else
      match s.table.lowestFree with
      | none => .refuse .busy
      | some slot =>
        if branchQueueSize ≤ (s.branch r.branch).queue.length then .refuse .busy
        else if !s.hasToken r then .refuse .rate
        else .station r k slot

/-- Step 10 for a management request (R55). -/
def State.judgeManage (s : State) (f : Frame) : Verdict :=
  if s.table.tagHeld f.tag then .refuse .tagInUse
  else
    match s.table.lowestFree with
    | none => .refuse .busy
    | some slot => if agentQueueSize ≤ s.agent.queue.length then .refuse .busy else .manage slot

/-- A branch is eligible for broadcast: ENABLED and BCAST in ACTIVE, and not in FAULT (R56). -/
def State.eligible (s : State) (b : BranchId) : Bool :=
  (s.branchSettings b).enabled && (s.branchSettings b).bcast && (s.branch b).state != .fault

/-- The eligible set (R56). -/
def State.eligibleSet (s : State) : Quad Bool := ⟨s.eligible .b0, s.eligible .b1, s.eligible .b2, s.eligible .b3⟩

/-- Step 11 for a broadcast (R56, R57). -/
def State.judgeBroadcast (s : State) (f : Frame) (k : ReqKind) : Verdict :=
  if k ≠ .command then .refuse .noBroadcast
  else if !shapeOk .command f.payload then .refuse .format
  else if emptySet s.eligibleSet then .refuse .noBroadcast
  else if s.table.tagHeld f.tag then .refuse .tagInUse
  else
    match s.table.lowestFree with
    | none => .refuse .busy
    | some slot =>
      if BranchId.all.any fun b => s.eligible b && decide (branchQueueSize ≤ (s.branch b).queue.length) then .refuse .busy
      else .broadcast s.eligibleSet slot

/-- The chain (R45): the first check that decides a frame ends it. -/
def State.judge (s : State) (f : Frame) : Verdict :=
  match ReqKind.ofOctet? f.kind with
  | none => .discard
  | some k =>
    if f.dest = 0#8 then .discard
    else if f.dest = s.own then if k = .manage then s.judgeManage f else .refuse .format
    else if k = .manage then .refuse .format
    else if s.sup.state ≠ .normal ∧ (k = .write ∨ k = .command) then .refuse .failsafe
    else if f.dest = 0xFF#8 then s.judgeBroadcast f k
    else s.judgeStation f k

/-! ### Admitting (R2, R54, R55, R57) -/

/-- The fields that every allocation fills alike (R2). -/
def freshEntry (slot : Nat) (f : Frame) (origin : Origin) (k : ReqKind) (now : Millis) : Entry :=
  { slot := slot, tag := f.tag, ctrl := f.src, origin := origin, kind := k, station := none, route := none, sets := none
    payload := f.payload, attempts := 0, lastCause := none, state := .queued, reply := none, admitted := now, seq := none }

/-- The entry of a station request, with the route copy from its record (R2). -/
def stationEntry (slot : Nat) (f : Frame) (k : ReqKind) (r : StationRecord) (now : Millis) : Entry :=
  { freshEntry slot f .station k now with
    station := some f.dest, route := some { branch := r.branch, timeout := r.timeout, retries := r.retries } }

/-- The entry of a broadcast: SPREADING with the eligible set pending (R2, R57). -/
def broadcastEntry (slot : Nat) (f : Frame) (eligible : Quad Bool) (now : Millis) : Entry :=
  { freshEntry slot f .broadcast .command now with
    state := .spreading
    sets := some { pending := eligible, sent := Quad.same false, notSent := Quad.same false } }

/-- Allocates an entry in the table. -/
def State.allocate (s : State) (e : Entry) : State := { s with table := s.table.allocate e }

/-- Appends an item at the tail of a branch's request queue. -/
def State.enqueue (s : State) (b : BranchId) (q : QueueItem) : State :=
  s.setBranch b { s.branch b with queue := (s.branch b).queue ++ [q] }

/-- Appends a share to the queue of a branch of the eligible set. -/
def State.enqueueShare (s : State) (slot : Nat) (eligible : Quad Bool) (b : BranchId) : State :=
  if eligible.get b then s.enqueue b (.share slot) else s

/-- The agent goes on with its queue: with an entry at its head the service timer starts with a fresh service time, and with
none the agent is IDLE (R139). -/
def State.serveNext (s : State) : State :=
  match s.agent.queue with
  | [] => { s with agent := { s.agent with service := .idle } }
  | _ :: _ => { s with agent := { s.agent with service := .serving (serviceTime s.free) } }.drawn

/-- Appends an entry to the agent queue; an empty queue takes the agent from IDLE to SERVING (R139). -/
def State.enqueueAgent (s : State) (slot : Nat) : State :=
  let s' := { s with agent := { s.agent with queue := s.agent.queue ++ [slot] } }
  match s.agent.queue with
  | [] => s'.serveNext
  | _ :: _ => s'

/-- Carries out the verdict of the chain on a frame (R46, R54, R55, R57, R58). -/
def State.carryOut (s : State) (f : Frame) : Verdict → State
  | .discard => { s with up := { s.up with counters := { s.up.counters with discard := bump s.up.counters.discard } } }
  | .refuse r => s.refuse f r
  | .station r k slot =>
    (((s.takeToken r).allocate (stationEntry slot f k r s.clock.ms)).enqueue r.branch (.station slot)).settle
  | .manage slot => (s.allocate (freshEntry slot f .manage .manage s.clock.ms)).enqueueAgent slot
  | .broadcast eligible slot =>
    (BranchId.all.foldl (fun t b => t.enqueueShare slot eligible b)
      (s.allocate (broadcastEntry slot f eligible s.clock.ms))).settle

/-- Admission of a VALID upstream frame (R45). -/
def State.admission (s : State) (f : Frame) : State := s.carryOut f (s.judge f)

end Sys2Proof.Machine
end

