-- ==== Sys2Proof/Machine/ConfigOps.lean ====
section
/-! DEFINITION. The configuration unit: editing SHADOW, validation, and the effects of a commit on every block that reads
ACTIVE (chapter 2); failsafe entry as a whole (R114). -/

namespace Sys2Proof.Machine

/-! ### Editing SHADOW (R29 to R33) -/

/-- A station map holds at most 64 records (R29). -/
def mapSize : Nat := 64

/-- Puts a record in its place in address order, in place of a record of the same address (R29, R30). -/
def insertRecord (r : StationRecord) : List StationRecord → List StationRecord
  | [] => [r]
  | x :: xs =>
    if r.addr = x.addr then r :: xs
    else if r.addr < x.addr then r :: x :: xs
    else x :: insertRecord r xs

/-- The configuration set with a record added or replaced. -/
def ConfigSet.put (c : ConfigSet) (r : StationRecord) : ConfigSet := { c with stations := insertRecord r c.stations }

/-- The configuration set without the record of an address. -/
def ConfigSet.drop (c : ConfigSet) (a : Octet) : ConfigSet := { c with stations := c.stations.filter fun r => r.addr != a }

/-! ### Validation (R35) -/

/-- Each window has first ≤ last. -/
def windowBoundsOk (ws : List Window) : Bool := ws.all fun w => decide (w.first ≤ w.last)

/-- The windows stand in strictly ascending order with no index common to two of them. -/
def windowOrderOk : List Window → Bool
  | [] => true
  | [_] => true
  | w :: x :: ws => decide (w.last < x.first) && windowOrderOk (x :: ws)

/-- The first condition a record breaks, by its reason code (R35). -/
def brokenCondition (c : Settings) (r : StationRecord) : Option Octet :=
  if !(c.branch.get r.branch).enabled then some 0x01#8
  else if r.addr = c.ownAddr then some 0x02#8
  else if !r.windows.all windowBoundsOk then some 0x03#8
  else if !r.windows.all windowOrderOk then some 0x04#8
  else if !r.failsafe.all FailsafeAction.shaped then some 0x05#8
  else none

/-- The first offending record in address order: its address and reason code; none where the set is valid (R35). -/
def ConfigSet.offence (c : ConfigSet) : Option (Octet × Octet) :=
  c.stations.findSome? fun r => (brokenCondition c.settings r).map fun reason => (r.addr, reason)

/-! ### The effects of a commit (R37 to R41) -/

/-- The token state of a budgeted station of the new ACTIVE (R39). -/
def State.tokensAfter (s : State) (old : ConfigSet) (a : Octet) (b : Budget) : TokenState :=
  match (old.record? a).bind fun r => r.budget, s.tokenState? a with
  | some _, some t =>
    let count := min t.count b.depth
    { addr := a, count := count, timer := if count = b.depth then none else some (refillPeriods b.refill) }
  | _, _ => { addr := a, count := b.depth, timer := none }

/-- A commit sets the token states (R39). -/
def State.commitTokens (s : State) (old : ConfigSet) : State :=
  { s with tokens := s.active.stations.filterMap fun r => r.budget.map fun b => s.tokensAfter old r.addr b }

/-- A kept slot under the new interval (R40): an unchanged interval leaves the schedule, as does an absent last poll time. -/
def ScanSlot.kept (x : ScanSlot) (now : Millis) (old new : Nat) : ScanSlot :=
  match x.lastPoll with
  | some last => if old = new then x else { x with schedule := scheduleFrom now last new }
  | none => x

/-- The slot of a scanned station of the new ACTIVE: kept where it was scanned before, created otherwise (R40). -/
def State.slotAfter (s : State) (old : ConfigSet) (a : Octet) (interval : Nat) : ScanSlot :=
  match old.scan? a, s.scan.find? a with
  | some before, some x => x.kept s.clock.ms before interval
  | _, _ => newSlot a s.clock.ms

/-- A bound poll whose slot the commit discards records nothing when it ends (R40, R107). -/
def Branch.orphaned (x : Branch) (scanned : Octet → Bool) : Branch :=
  match x.bound with
  | some (.poll p) => if scanned p.station then x else { x with bound := some (.poll { p with live := false }) }
  | _ => x

/-- A commit sets the slots, the change list and the bound polls against the new ACTIVE (R40). -/
def State.commitSlots (s : State) (old : ConfigSet) : State :=
  let scanned (a : Octet) : Bool := (s.active.scan? a).isSome
  { s with
    scan := { slots := s.active.stations.filterMap fun r => r.scan.map fun n => s.slotAfter old r.addr n
              changes := s.scan.changes.filter scanned }
    branches := s.branches.map fun x => x.orphaned scanned }

/-- A commit that changes SILENCE restarts the timer in NORMAL; outside NORMAL it is not running (R41). -/
def State.commitSilence (s : State) (old : ConfigSet) : State :=
  if old.settings.silence = s.active.settings.silence then s
  else if s.sup.state = .normal then s.restartSilence
  else s

/-- A commit at one branch (R37, R38): nothing where its ENABLED value does not change. -/
def State.commitBranch (s : State) (old : ConfigSet) (b : BranchId) : State × List Job :=
  match (old.settings.branch.get b).enabled, (s.branchSettings b).enabled with
  | true, false => s.disableBranch b
  | false, true => (s.enableBranch b, [])
  | _, _ => (s, [])

/-- Runs a per-branch effect on branches 0 to 3 and gathers its completions. -/
def State.eachBranch (s : State) (f : State → BranchId → State × List Job) : State × List Job :=
  let r0 := f s .b0
  let r1 := f r0.1 .b1
  let r2 := f r1.1 .b2
  let r3 := f r2.1 .b3
  (r3.1, r0.2 ++ r1.2 ++ r2.2 ++ r3.2)

/-- A successful commit: ACTIVE takes a copy of SHADOW, and every block takes its effects (R36 to R41). Answers the state and
the completions the commit makes besides its own entry's. -/
def State.replaceActive (s : State) : State × List Job :=
  let old := s.active
  let r := { s with active := s.shadow }.eachBranch fun t b => t.commitBranch old b
  let s1 := (((r.1.commitTokens old).commitSlots old).commitSilence old).heldIfDone
  (s1, r.2 ++ s1.doneJobs)

/-! ### Failsafe entry (R114 to R116) -/

/-- The failsafe item of a record's action (R116). -/
def failsafeItem (r : StationRecord) (a : FailsafeAction) : FailsafeItem :=
  { station := r.addr, kind := a.kind, payload := a.payload, timeout := r.timeout, retries := r.retries, attempts := 0 }

/-- The walk of the map reaches a record: a record with a failsafe action gets a report line, and an item on its branch's
list unless the branch is in FAULT (R116). -/
def State.listAction (s : State) (r : StationRecord) : State :=
  match r.failsafe with
  | none => s
  | some a =>
    let x := s.branch r.branch
    let outcome := if x.state = .fault then LineOutcome.skipped else .pending
    let s1 := { s with sup := { s.sup with lines := s.sup.lines ++
      [{ station := r.addr, branch := r.branch, outcome := outcome, attempts := 0 }] } }
    if x.state = .fault then s1
    else s1.setBranch r.branch { x with failsafe := x.failsafe ++ [failsafeItem r a] }

/-- Failsafe entry (R114): the timer stops, the report is cleared, STAT is asserted, controller work is claimed, the
failsafe items are listed, and the state becomes FAILSAFE_SENDING or FAILSAFE_HELD. Answers the state and the completions;
the arbiters run when those are made. -/
def State.failsafeEntry (s : State) (cause : EntryCause) : State × List Job :=
  let s1 := { s with sup := { s.sup with silence := none, cause := cause, lines := [], stat := true } }
  let r := s1.eachBranch State.failsafeClaim
  let s2 := s1.active.stations.foldl State.listAction r.1
  let st := if s2.failsafeLeft = 0 then SupState.failsafeHeld else .failsafeSending
  let s3 := { s2 with sup := { s2.sup with state := st } }
  (s3, r.2 ++ s3.doneJobs)

/-- The report lines with an outcome. -/
def Supervision.linesWith (v : Supervision) (o : LineOutcome) : Nat := (v.lines.filter fun l => l.outcome == o).length

end Sys2Proof.Machine
end

