-- ==== Sys2Proof/Machine/StartOps.lean ====
section
/-! DEFINITION. The image store and the start sequencer: classification, the beginning and end of a cold start, the warm
start, the reset held low (chapters 9 and 11, and the state after a start of every block). -/

namespace Sys2Proof.Machine

/-! ### The image store (R154 to R160) -/

/-- The slot in a place of the store. -/
def Store.slot? (st : Store) (k : Nat) : Option ImageSlot := st.slots[k]?

/-- Changes the slot in a place of the store. -/
def Store.update (st : Store) (k : Nat) (f : ImageSlot → ImageSlot) : Store := { st with slots := st.slots.modify k f }

/-- The slots of a state in the store record. -/
def Store.count (st : Store) (x : SlotState) : Nat := (st.slots.filter fun c => c.state == x).length

/-- The lowest-numbered BLANK slot (R157). -/
def Store.lowestBlank (st : Store) : Option Nat := st.slots.findIdx? fun c => c.state == .blank

/-- The check over the image is good. -/
def ImageSlot.checked (c : ImageSlot) : Bool := c.checkGood && c.image.isSome

/-- The state that classification reads from the marks of a slot (R155). -/
def ImageSlot.classified (c : ImageSlot) : SlotState :=
  if !c.header then .blank
  else if !c.verify || !c.checked then .spoiled
  else if c.retire then .retired
  else .valid

/-- A save is accepted: the header mark is written and the image begins to be written (R157). -/
def ImageSlot.saveBegun (c : ImageSlot) (image : ConfigSet) : ImageSlot :=
  { c with state := .writing, header := true, image := some image, checkGood := false, verify := false }

/-- A save ends (R158): image and check are written; the verify mark is written where verify found a match. DESIGN CHOICE
(assumption log 12): after a mismatch R158 leaves open what the cells then hold; the model keeps the image as it was given and
makes the check over it bad. Without its verify mark the slot is SPOILED whatever its check (R155). -/
def ImageSlot.saveEnded (c : ImageSlot) (verified : Bool) : ImageSlot :=
  { c with state := if verified then .valid else .spoiled, checkGood := verified, verify := verified }

/-- A retire ends: the retire mark is written (R159). -/
def ImageSlot.retireEnded (c : ImageSlot) : ImageSlot := { c with state := .retired, retire := true }

/-- A retire cut off: its mark is written whole or not at all (R160). -/
def ImageSlot.retireCut (c : ImageSlot) (written : Bool) : ImageSlot := { c with retire := c.retire || written }

/-- The slots from place `k` on as a cold start finds them: the check of a slot may have been lost since the last start, and
one that is lost stays lost (R155). -/
def agedFrom (holds : Nat → Bool) : Nat → List ImageSlot → List ImageSlot
  | _, [] => []
  | k, c :: cs => { c with checkGood := c.checkGood && holds k } :: agedFrom holds (k + 1) cs

/-- The store as a cold start finds it (R155); whether each slot still has its check is free (assumption log 12). -/
def Store.aged (st : Store) (holds : Nat → Bool) : Store := { st with slots := agedFrom holds 0 st.slots }

/-- Classification (R155): every slot's state is set from its marks, and the store is IDLE. -/
def Store.classify (st : Store) : Store :=
  { slots := st.slots.map fun c => { c with state := c.classified }, busy := .idle }

/-- The highest-numbered VALID slot from place `k` on, with its image (R163). -/
def newestFrom : Nat → List ImageSlot → Option (Nat × ConfigSet)
  | _, [] => none
  | k, c :: cs =>
    match newestFrom (k + 1) cs with
    | some best => some best
    | none =>
      match c.state, c.image with
      | .valid, some image => some (k, image)
      | _, _ => none

/-- The image that a cold start loads (R163). -/
def Store.newest (st : Store) : Option (Nat × ConfigSet) := newestFrom 0 st.slots

/-- A store operation in progress is cut off at the moment the reset begins (R160, R181): the slot of a save is left
without its verify mark, the mark of a retire may or may not have been written. -/
def State.cutStore (s : State) : State :=
  match s.store.busy with
  | .idle => s
  | .saving k =>
    { s with store := { s.store.update k (fun c => { c with state := .spoiled, verify := false }) with busy := .idle } }
  | .retiring k =>
    { s with store := { s.store.update k (fun c => c.retireCut (Config.retireMarkWritten s.free)) with busy := .idle } }.drawn

/-! ### The outputs and receivers of a part held reset or LOADING (R162, R180 to R182) -/

/-- A branch whose driver is off, whose line marks, with the frame that was being sent cut off, and whose receiver is off
(R181, R182). -/
def Branch.silenced (x : Branch) : Branch := { x with driver := false, rx := .off, frame := none, sendLeft := none }

/-- Every driver-enable output is low, STAT is low, the upstream line and every branch line mark, every receiver is off, and
the run state is LOADING: the part is held as in LOADING (R162, R181). -/
def State.quieted (s : State) : State :=
  { s with seq := { s.seq with run := .loading }
           up := { s.up with rx := .off, tx := .idle }
           branches := s.branches.map Branch.silenced
           sup := { s.sup with stat := false } }

/-- The reset begins: outputs and receivers go off and a store operation is cut off (R181). -/
def State.resetBegun (s : State) : State := s.cutStore.quieted

/-! ### Cold start (R163, R164) -/

/-- A cold start begins LOADING: the store is classified, with the checks that still hold, and the newest VALID image, or
the factory configuration, goes into ACTIVE and SHADOW alike (R155, R163). -/
def State.coldBegun (s : State) (cause : StartCause) : State :=
  let st := (s.store.aged (Config.checkHolds s.free)).classify
  let q := s.quieted.drawn
  let config := (st.newest.map fun best => best.2).getD factoryConfig
  { q with store := st, active := config, shadow := config
           seq := { q.seq with cause := cause, loaded := st.newest.map fun best => best.1 } }

/-- A branch controller right after a start (R94), with the counters given. -/
def Branch.started (c : BranchSettings) (own : Octet) (counters : BranchCounters) : Branch :=
  { Branch.reset with
    state := if c.enabled then .idle else .disabled
    rate := c.rate, addr := own, guardLen := c.guard
    rx := if c.enabled then .outside else .off
    counters := counters }

/-- The branch controllers right after a start. -/
def startedBranches (c : ConfigSet) (counters : Quad BranchCounters) : Quad Branch :=
  let one (b : BranchId) : Branch := Branch.started (c.settings.branch.get b) c.settings.ownAddr (counters.get b)
  ⟨one .b0, one .b1, one .b2, one .b3⟩

/-- The empty transaction table of a start (R21). -/
def startedTable (counters : TxnCounters) : Table :=
  { entries := [], returning := [], nextSeq := 0#16, counters := counters }

/-- The agent right after a start (R146). -/
def startedAgent : Agent := { queue := [], service := .idle, working := none }

/-- The supervision unit right after a cold start, but for its timer (R125). -/
def coldSupervision (m : StartMode) : Supervision :=
  match m with
  | .normal => { state := .normal, silence := none, cause := .none, lines := [], stat := false }
  | .held => { state := .failsafeHeld, silence := none, cause := .start, lines := [], stat := true }

/-- The slots right after a cold start (R109). -/
def coldSlots (c : ConfigSet) : List ScanSlot := c.stations.filterMap fun r => r.scan.map fun _ => newSlot r.addr 0#32

/-- The start record as a start rewrites it (R167). -/
def State.recordStart (s : State) (cause : StartCause) (loaded : Option Nat) : State :=
  { s with seq := { s.seq with record :=
      { cause := cause, loaded := loaded, spoiled := s.store.count .spoiled, sup := s.sup.state } } }

/-- LOADING ends: every block takes its cold values from the ACTIVE set just loaded, the start record is rewritten, and the
branches make their first picks (R164). -/
def State.coldEnded (s : State) : State :=
  let c := s.active
  let started : State :=
    { s with
      seq := { s.seq with run := .running }
      clock := { ms := 0#32, phase := 0 }
      tokens := fullTokens c
      table := startedTable TxnCounters.zero
      up := { rx := .outside, queue := [], tx := .idle, rate := c.settings.upRate, counters := UpCounters.zero }
      branches := startedBranches c (Quad.same BranchCounters.zero)
      scan := { slots := coldSlots c, changes := [] }
      sup := coldSupervision c.settings.startMode
      agent := startedAgent }
  ((started.restartSilence).recordStart s.seq.cause s.seq.loaded).settle

/-! ### Warm start (R166) -/

/-- A slot right after a warm start (R110). -/
def ScanSlot.warm (x : ScanSlot) : ScanSlot :=
  { x with pollBound := false, lastPoll := none, schedule := .overdue 0#32 }

/-- The attempts a failsafe item of a station has reached: those of the item bound on some branch, or 0 (R126). -/
def State.itemAttempts (s : State) (a : Octet) : Nat :=
  let of (b : BranchId) : Nat :=
    match (s.branch b).bound with
    | some (.failsafe f) => if f.station = a then f.attempts else 0
    | _ => 0
  of .b0 + of .b1 + of .b2 + of .b3

/-- A report line right after a warm start: PENDING becomes SKIPPED with the attempts its item had reached (R126). -/
def State.warmLine (s : State) (l : ReportLine) : ReportLine :=
  if l.outcome = .pending then { l with outcome := .skipped, attempts := s.itemAttempts l.station } else l

/-- The supervision unit right after a warm start, but for a restart of its timer (R126). -/
def State.warmSupervision (s : State) : Supervision :=
  match s.sup.state with
  | .normal => { s.sup with stat := false }
  | _ => { s.sup with state := .failsafeHeld, silence := none, lines := s.sup.lines.map s.warmLine, stat := true }

/-- The warm start, in the event that ends the transmission of a RESTART WARM answer (R166). The transmitter is left in
SPACING, timed at the rate in use after the start (R137). -/
def State.warmStart (s : State) : State :=
  let c := s.active
  let counters : Quad BranchCounters := s.branches.map fun x => x.counters
  let started : State :=
    { s with
      seq := { s.seq with run := .running }
      clock := { ms := 0#32, phase := 0 }
      tokens := fullTokens c
      table := startedTable s.table.counters
      up := { rx := .outside, queue := [], tx := .spacing (spacingChars * c.settings.upRate.charPeriods)
              rate := c.settings.upRate, counters := s.up.counters }
      branches := startedBranches c counters
      scan := { s.scan with slots := s.scan.slots.map ScanSlot.warm }
      sup := s.warmSupervision
      agent := startedAgent }
  ((started.restartSilence).recordStart .mgmtWarm none).settle

end Sys2Proof.Machine
end

