-- ==== Sys2Proof/Machine/AgentOps.lean ====
section
/-! DEFINITION. The management agent: the take event with its ordered checks (R139 to R145). -/

namespace Sys2Proof.Machine

/-- The outcome of a command. -/
abbrev Effect := Host.Outcome State Fault Refusal

/-- The answer of a management operation (R140): result, data, and the state its effect leaves. -/
structure Reply where
  result : Result
  data   : List Octet
  state  : State

/-- BAD_ARGUMENT: no data, no effect (R144). -/
def badArgument (s : State) : Reply := { result := .badArgument, data := [], state := s }

/-- OK with data and no effect. -/
def okData (data : List Octet) (s : State) : Reply := { result := .ok, data := data, state := s }

/-- The completion MANAGED of the entry taken, with the OWN_ADDR of the state given (R17). -/
def managedJob (s : State) (slot : Nat) (op : Octet) (result : Result) (data : List Octet) : Job :=
  { slot := slot, form := .managed s.own op result data }

/-- The entry at the head of the agent queue whose service timer has run out (R139). -/
def State.takeReady (s : State) : Option Nat :=
  if s.live then
    match s.agent.service, s.agent.queue with
    | .serving 0, slot :: _ => some slot
    | _, _ => none
  else none

/-- The head entry leaves the agent queue (R140). -/
def State.headTaken (s : State) : State := { s with agent := { s.agent with queue := s.agent.queue.tail } }

/-- What a take does with the entry: from its slot, its arguments and the state, the state after and the completions. -/
abbrev TakeAction := Nat → List Octet → State → State × List Job

/-- The take event (R139, R140): the head entry, if its payload is the one named, leaves the agent queue and is carried
out, the completions are made, and the agent goes on with its queue. -/
def takeHead (named : List Octet → Bool) (act : TakeAction) (s : State) : Effect :=
  match s.takeReady with
  | none => .refused .agentOtherwise
  | some slot =>
    match s.table.find? slot with
    | none => .fault .entryLost
    | some e =>
      if named e.payload then
        let r := act slot e.payload.tail s.headTaken
        .next (r.1.completeAll r.2).serveNext
      else .refused .agentOtherwise

/-- The CFGEN level as the agent samples it in a take: a level held for tCFG is read as it is, and one that changed later
may be read as either (R142, R181). Answers the level and the state with the free value used up. -/
def State.sampleCfgen (s : State) : Bool × State :=
  if cfgenSteady ≤ s.pins.cfgenAge then (s.pins.cfgen, s) else (Config.cfgenSample s.free, s.drawn)

/-- Orders 3 and 4 of R140: NOT_READY in RESTART_PENDING, LOCKED with CFGEN sampled low; then the operation itself. -/
def guardedAction (op : Op) (act : TakeAction) : TakeAction := fun slot args s =>
  if op.barredByRestart && s.seq.run == .restartPending then (s, [managedJob s slot op.octet .notReady []])
  else if op.locked then
    let r := s.sampleCfgen
    if r.1 then act slot args r.2 else (r.2, [managedJob s slot op.octet .locked []])
  else act slot args s

/-- The take of an entry whose payload names the operation. -/
def takeOp (op : Op) (act : TakeAction) (s : State) : Effect :=
  takeHead (fun p => p.head? == some op.octet) (guardedAction op act) s

/-- An operation carried out in one step (R141): effect, answer and completion all fall in the take event. The answer carries
the OWN_ADDR in force before the effect. -/
def oneStep (op : Op) (f : List Octet → State → Reply) : TakeAction := fun slot args s =>
  let r := f args s
  (r.state, [managedJob s slot op.octet r.result r.data])

/-- A refusal of an operation by its own conditions: the result and its data, without effect (R175). -/
def refusedBy (result : Result) (data : List Octet) (s : State) : Reply := { result := result, data := data, state := s }

/-- STORE_BUSY with the busy operation and its slot (R154). -/
def storeBusy (s : State) : Reply := refusedBy .storeBusy s.store.busy.octets s

/-- The configuration set that a bank selector chooses (R22). -/
def State.bank (s : State) (shadow : Bool) : ConfigSet := if shadow then s.shadow else s.active

end Sys2Proof.Machine
end

