-- ==== Sys2Proof/Machine/UpstreamEvents.lean ====
section
/-! DEFINITION. The events of the upstream line (chapter 7): reception, end of transmission, end of spacing. -/

namespace Sys2Proof.Machine

/-- Sets the upstream receiver. -/
def State.setUpRx (s : State) (r : Receiver) : State := { s with up := { s.up with rx := r } }

/-- Changes the counters of the group UPSTREAM. -/
def State.countUp (s : State) (f : UpCounters → UpCounters) : State := { s with up := { s.up with counters := f s.up.counters } }

/-- A VALID upstream frame (R134, R135): it is counted and restarts the silence timer; in RUNNING it is handed to
admission, in RESTART_PENDING it is counted DISCARD_RESTART and dropped. -/
def State.upstreamValid (s : State) (f : Frame) : State :=
  let s1 := (s.countUp fun c => { c with validIn := bump c.validIn }).restartSilence
  if s.seq.run = .restartPending then s1.countUp fun c => { c with discardRestart := bump c.discardRestart }
  else s1.admission f

/-- The frame in assembly ends GAP: it is counted and dropped (R133, R179). -/
def State.upstreamGapped (s : State) : State := (s.setUpRx .outside).countUp fun c => { c with gap := bump c.gap }

/-- An octet arrives on the upstream line, and the receiver gives it its effect (R133, R179): it is counted NOISE, starts a frame,
is stored in one, or ends one LENGTH, CHECK or VALID. A receiver that is off takes no octet (R180). -/
def State.upstreamOctet (s : State) (o : Octet) : State :=
  match s.up.rx.take o with
  | (.ignored, _) => s
  | (.noise, r) => (s.setUpRx r).countUp fun c => { c with noise := bump c.noise }
  | (.started, r) => s.setUpRx r
  | (.stored, r) => s.setUpRx r
  | (.length, r) => (s.setUpRx r).countUp fun c => { c with length := bump c.length }
  | (.check, r) => (s.setUpRx r).countUp fun c => { c with check := bump c.check }
  | (.valid f, r) => (s.setUpRx r).upstreamValid f

/-- VALID_IN (R134, R135, R179): the octet arrives that is the last CHECK octet and agrees. As for every octet, the receiver gives
the effect (assumption log 3). -/
def execValidIn (o : Octet) (s : State) : Effect := .next (s.upstreamOctet o)

/-- UPSTREAM_CHECK (R133): the octet arrives with which a frame ends CHECK, is counted and dropped. -/
def execUpstreamCheck (o : Octet) (s : State) : Effect := .next (s.upstreamOctet o)

/-- UPSTREAM_LENGTH (R179): the octet arrives with which a frame ends LENGTH, is counted and dropped. -/
def execUpstreamLength (o : Octet) (s : State) : Effect := .next (s.upstreamOctet o)

/-- UPSTREAM_NOISE (R133): an octet arrives outside a frame and is counted NOISE. -/
def execUpstreamNoise (o : Octet) (s : State) : Effect := .next (s.upstreamOctet o)

/-- UPSTREAM_FRAME_OCTET (R179): an octet arrives that starts a frame or is stored in one, and the gap timer restarts. -/
def execUpstreamFrameOctet (o : Octet) (s : State) : Effect := .next (s.upstreamOctet o)

/-- UPSTREAM_GAP (R179): the gap timer expires, 3 char at the rate in use with no further start bit; the frame ends GAP, is counted
and dropped. -/
def execUpstreamGap (s : State) : Effect :=
  if s.up.rx.gapReached s.up.rate.charPeriods then .next s.upstreamGapped else .refused .timerOtherwise

/-- The line takes UP_RATE of ACTIVE at the end of a COMMIT answer, in both directions; an octet under way is received at the old
rate (R132). -/
def State.rateChange (s : State) : ReleaseNote → State
  | .entryRate _ =>
    { s with up := { s.up with rate := s.active.settings.upRate, rx := s.up.rx.rerated s.up.rate.charPeriods } }
  | _ => s

/-- The transmitter enters SPACING for 2 char at the rate in use (R130). -/
def State.startSpacing (s : State) : State :=
  { s with up := { s.up with tx := .spacing (spacingChars * s.up.rate.charPeriods) } }

/-- The restart that the end of a RESTART answer sets off (R131, R165). -/
def State.restarted (s : State) : ReleaseNote → State
  | .entryRestart _ .warm => s.warmStart
  | .entryRestart _ .cold => s.coldBegun .mgmtCold
  | _ => s

/-- The head item leaves the queue and FRAMES_OUT counts (R131). The transmitter is in SPACING from here on. -/
def State.itemGone (s : State) : State :=
  { s with up := { s.up with queue := s.up.queue.tail, tx := .spacing 0
                             counters := { s.up.counters with framesOut := bump s.up.counters.framesOut } } }

/-- The end of transmission of an item (R131): its effects in their order. -/
def State.transmitted (s : State) (i : OutItem) : State :=
  (((((s.itemGone).release i.note).promote).rateChange i.note).startSpacing).restarted i.note

/-- END_OF_TRANSMISSION (R131): the frame's time on the line has run out. -/
def execEndOfTransmission (s : State) : Effect :=
  if s.live then
    match s.up.tx, s.up.queue with
    | .sending 0, i :: _ => .next (s.transmitted i)
    | _, _ => .refused .timerOtherwise
  else .refused .runStateOtherwise

/-- END_OF_SPACING (R130): the next head frame begins transmission, or the transmitter becomes IDLE. -/
def execEndOfSpacing (s : State) : Effect :=
  if s.live then
    match s.up.tx with
    | .spacing 0 => .next { s with up := s.up.beginHead }
    | _ => .refused .timerOtherwise
  else .refused .runStateOtherwise

end Sys2Proof.Machine
end

