-- ==== Sys2Proof/Machine/BranchEvents.lean ====
section
/-! DEFINITION. The events of the branch lines (chapter 4). -/

namespace Sys2Proof.Machine

/-! ### Octets and frames -/

/-- A VALID frame on a branch (R78, R81): matched in RECEIVING; in any other state it is counted STRAY and its octet is
line activity. -/
def State.branchValid (s : State) (b : BranchId) (f : Frame) : State :=
  if (s.branch b).state = .receiving then s.replyReceived b f
  else (s.setBranch b (s.branch b).countStray).lineActivity b

/-- A frame on a branch ends CHECK or LENGTH (R78, R81): in RECEIVING the attempt fails CORRUPT; in any other state the
octet is line activity only. -/
def State.branchBroken (s : State) (b : BranchId) : State :=
  if (s.branch b).state = .receiving then s.attemptFails b .corrupt else s.lineActivity b

/-- The octet with which a frame starts on a branch: it enters RECEIVING from AWAITING (R77), and is line activity in any other
state (R73, R88). -/
def State.branchStarted (s : State) (b : BranchId) : State :=
  if (s.branch b).state = .awaiting then s.setBranch b { s.branch b with state := .receiving } else s.lineActivity b

/-- The frame in assembly on a branch ends GAP: in RECEIVING the attempt fails CORRUPT (R78); in any other state nothing more
happens (R81). -/
def State.gapOn (s : State) (b : BranchId) : State :=
  let u := s.setRx b .outside
  if (s.branch b).state = .receiving then u.attemptFails b .corrupt else u

/-- An octet arrives on a branch, and the receiver gives it its effect (R73, R77, R78, R81, R88, R179): it is noise, starts
a frame, is stored in one, or ends one LENGTH, CHECK or VALID. A receiver that is off takes no octet (R64, R180). -/
def State.octetOn (s : State) (b : BranchId) (o : Octet) : State :=
  match (s.branch b).rx.take o with
  | (.ignored, _) => s
  | (.noise, r) => (s.setRx b r).lineActivity b
  | (.started, r) => (s.setRx b r).branchStarted b
  | (.stored, r) => (s.setRx b r).lineActivity b
  | (.length, r) => (s.setRx b r).branchBroken b
  | (.check, r) => (s.setRx b r).branchBroken b
  | (.valid f, r) => (s.setRx b r).branchValid b f

/-- BRANCH_OCTET (R77, R179): an octet arrives outside a frame, where it starts one or is noise. As for every octet, the receiver
gives the effect (assumption log 3). -/
def execBranchOctet (b : BranchId) (o : Octet) (s : State) : Effect := .next (s.octetOn b o)

/-- BRANCH_FRAME_OCTET (R73, R179): an octet arrives that is stored inside a frame, and is line activity. -/
def execBranchFrameOctet (b : BranchId) (o : Octet) (s : State) : Effect := .next (s.octetOn b o)

/-- BRANCH_FRAME_VALID (R78, R81): the octet arrives with which a frame ends VALID. -/
def execBranchFrameValid (b : BranchId) (o : Octet) (s : State) : Effect := .next (s.octetOn b o)

/-- BRANCH_FRAME_CHECK (R78): the octet arrives with which a frame ends CHECK. -/
def execBranchFrameCheck (b : BranchId) (o : Octet) (s : State) : Effect := .next (s.octetOn b o)

/-- BRANCH_FRAME_LENGTH (R78): the octet arrives with which a frame ends LENGTH. -/
def execBranchFrameLength (b : BranchId) (o : Octet) (s : State) : Effect := .next (s.octetOn b o)

/-- BRANCH_GAP (R78, R179): the gap timer expires, 3 char at the rate in use with no further start bit, and the frame ends GAP. -/
def execBranchGap (b : BranchId) (s : State) : Effect :=
  if (s.branch b).rx.gapReached (s.branch b).rate.charPeriods then .next (s.gapOn b) else .refused .timerOtherwise

/-! ### Guard and sending -/

/-- The guard timer of a branch has run out (R72). -/
def Branch.guardDone (x : Branch) : Bool := x.state == .guard && x.phase == .running 0

/-- The wait after an interruption has run out (R73). -/
def Branch.waitDone (x : Branch) : Bool := x.state == .guard && x.phase == .waiting 0

/-- The frame of a branch has been sent (R75). -/
def Branch.sendDone (x : Branch) : Bool := x.state == .sending && x.sendLeft == some 0

/-- The reply deadline of a branch expires: it has run out and has not been noted (R77, R78). -/
def Branch.deadlineDue (x : Branch) : Bool :=
  (x.state == .awaiting || x.state == .receiving) && x.deadline == some 0 && !x.deadlinePassed

/-- The probe timer of a branch has run out (R88). -/
def Branch.probeDue (x : Branch) : Bool := x.state == .fault && x.probeTimer == some 0

/-- The line was quiet for the whole guard length of a probe (R88). -/
def Branch.probeDone (x : Branch) : Bool := x.state == .fault && x.probeQuiet == some 0

/-- GUARD_COMPLETE (R72, R75): the frame of the attempt is built, the attempt is counted, and the branch enters SENDING. -/
def execGuardComplete (b : BranchId) (s : State) : Effect :=
  let x := s.branch b
  if s.live then
    if x.guardDone then
      match x.bound with
      | none => .refused .timerOtherwise
      | some item =>
        match s.attemptFrame x item with
        | none => .fault .entryLost
        | some f => .next ((s.countAttempt item).setBranch b (x.startSending item f s.clock.ms))
    else .refused .timerOtherwise
  else .refused .runStateOtherwise

/-- GUARD_QUIET_WAIT_EXPIRY (R73): the guard restarts with a fresh length. -/
def execGuardQuietWaitExpiry (b : BranchId) (s : State) : Effect :=
  if s.live then
    if (s.branch b).waitDone then .next (s.setBranch b ((s.branch b).beginGuard (s.branchSettings b)))
    else .refused .timerOtherwise
  else .refused .runStateOtherwise

/-- The end of sending of a share (R76): its branch moves from pending to sent, the share is unbound, and an entry whose
pending set that empties completes DONE. -/
def State.shareSent (s : State) (b : BranchId) (slot : Nat) : State :=
  let s1 := s.updateEntry slot (Entry.moveSent b)
  ((s1.freeBranch b).completeAll s1.doneJobs).settle

/-- BRANCH_END_OF_SENDING (R75, R76, R77): the driver goes off and the receiver on; a share ends, and any other item
enters AWAITING with its reply deadline. -/
def execBranchEndOfSending (b : BranchId) (s : State) : Effect :=
  let x := s.branch b
  if s.live then
    if x.sendDone then
      let s1 := s.setBranch b x.stopSending
      match x.bound with
      | some (.share slot) => .next (s1.shareSent b slot)
      | some item =>
        .next (s1.setBranch b { x.stopSending with
          state := .awaiting, deadline := some (timeoutPeriods (s.replyTimeout item)), deadlinePassed := false })
      | none => .refused .timerOtherwise
    else .refused .timerOtherwise
  else .refused .runStateOtherwise

/-- REPLY_DEADLINE_EXPIRY (R77, R78): in AWAITING the attempt fails SILENT; in RECEIVING the deadline-passed note is set. -/
def execReplyDeadlineExpiry (b : BranchId) (s : State) : Effect :=
  let x := s.branch b
  if s.live then
    if x.deadlineDue then
      if x.state = .awaiting then .next (s.attemptFails b .silent)
      else .next (s.setBranch b { x with deadlinePassed := true })
    else .refused .timerOtherwise
  else .refused .runStateOtherwise

/-! ### Recovery probes (R88) -/

/-- The branch with a probe begun: the probe timer starts again, rate and guard length are taken from ACTIVE, and the line
is watched for that guard length (R88). -/
def Branch.probeBegun (x : Branch) (c : BranchSettings) : Branch :=
  { x with probeTimer := some probePeriods, rate := c.rate, guardLen := c.guard, rx := x.rx.rerated x.rate.charPeriods
           probeQuiet := some (c.guard * c.rate.charPeriods) }

/-- PROBE_TIMER_EXPIRY (R88). -/
def execProbeTimerExpiry (b : BranchId) (s : State) : Effect :=
  if s.live then
    if (s.branch b).probeDue then .next (s.setBranch b ((s.branch b).probeBegun (s.branchSettings b)))
    else .refused .timerOtherwise
  else .refused .runStateOtherwise

/-- The branch recovered by a probe (R88). -/
def Branch.recovered (x : Branch) : Branch :=
  { x with state := .idle, probeTimer := none, probeQuiet := none, interrupts := 0, consec := 0
           counters := { x.counters with recoveries := bump x.counters.recoveries } }

/-- PROBE_QUIET_END (R88): the branch recovers to IDLE and its arbiter runs. -/
def execProbeQuietEnd (b : BranchId) (s : State) : Effect :=
  if s.live then
    if (s.branch b).probeDone then .next (s.setBranch b (s.branch b).recovered).settle
    else .refused .timerOtherwise
  else .refused .runStateOtherwise

end Sys2Proof.Machine
end

