-- ==== Sys2Proof/Machine/TimerEvents.lean ====
section
/-! DEFINITION. The expiries that belong to no line: a slot becoming due (R96), a refill (R60), silence (R113). -/

namespace Sys2Proof.Machine

/-- The slot is WAITING and its due time has been reached (R96). -/
def ScanSlot.dueReached (x : ScanSlot) (now : Millis) : Bool :=
  match x.schedule with
  | .waiting due => Millis.reached now due
  | .overdue _ => false

/-- The slot at a millisecond count: OVERDUE since its due time where that has been reached (R96). -/
def ScanSlot.atCount (now : Millis) (x : ScanSlot) : ScanSlot :=
  match x.schedule with
  | .waiting due => if Millis.reached now due then { x with schedule := .overdue due } else x
  | .overdue _ => x

/-- SLOT_DUE (R70, R96): the millisecond count has reached the due time of the slot. In this one event every slot whose due
time has been reached becomes OVERDUE and is offered to the arbiter of its branch. -/
def execSlotDue (a : Octet) (s : State) : Effect :=
  if s.live then
    match s.scan.find? a with
    | none => .refused .timerOtherwise
    | some x =>
      if x.dueReached s.clock.ms then
        .next { s with scan := { s.scan with slots := s.scan.slots.map (ScanSlot.atCount s.clock.ms) } }.settle
      else .refused .timerOtherwise
  else .refused .runStateOtherwise

/-- REFILL_EXPIRY (R60): the count rises by 1, and the timer restarts below depth and stops at depth. -/
def execRefillExpiry (a : Octet) (s : State) : Effect :=
  if s.live then
    match s.tokenState? a, (s.active.record? a).bind fun r => r.budget with
    | some t, some b =>
      if t.timer = some 0 then .next (s.updateTokens a fun t => t.refilled b) else .refused .timerOtherwise
    | _, _ => .refused .timerOtherwise
  else .refused .runStateOtherwise

/-- The silence timer has run out, in NORMAL, where alone it runs (R113). -/
def Supervision.silenceDue (v : Supervision) : Bool := v.state == .normal && v.silence == some 0

/-- SILENCE_EXPIRY (R113): failsafe entry with cause SILENCE. -/
def execSilenceExpiry (s : State) : Effect :=
  if s.live then
    if s.sup.silenceDue then
      let r := s.failsafeEntry .silence
      .next (r.1.completeAll r.2).settle
    else .refused .timerOtherwise
  else .refused .runStateOtherwise

end Sys2Proof.Machine
end

