-- ==== Sys2Proof/Machine/StartEvents.lean ====
section
/-! DEFINITION. The ends of store operations, the starts, the reset and supply events, and the CFGEN strap (chapters 9 and
11). -/

namespace Sys2Proof.Machine

/-- The operation number of a store operation (R176). -/
def StoreOp.octet : StoreOp → Octet
  | .save => Op.saveImage.octet
  | .retire => Op.retireImage.octet

/-- The WORKING entry completes: the agent builds the answer from its working reference and the store's result, which names
the image slot (R141, R158, R159). -/
def State.workingDone (s : State) (result : Result) (image : Nat) : State :=
  match s.agent.working with
  | none => s
  | some w =>
    { s with agent := { s.agent with working := none } }.completeAll [managedJob s w.slot w.op.octet result [oct image]]

/-- END_OF_SAVE (R158): the slot becomes VALID or SPOILED, the store IDLE, and the WORKING entry completes. -/
def execEndOfSave (verified : Bool) (s : State) : Effect :=
  if s.live then
    match s.store.busy with
    | .saving k =>
      let s1 := { s with store := { s.store.update k (fun c => c.saveEnded verified) with busy := .idle } }
      .next (s1.workingDone (if verified then .ok else .saveFailed) k)
    | _ => .refused .storeOtherwise
  else .refused .runStateOtherwise

/-- END_OF_RETIRE (R159): the slot becomes RETIRED, the store IDLE, and the WORKING entry completes OK. -/
def execEndOfRetire (s : State) : Effect :=
  if s.live then
    match s.store.busy with
    | .retiring k =>
      let s1 := { s with store := { s.store.update k ImageSlot.retireEnded with busy := .idle } }
      .next (s1.workingDone .ok k)
    | _ => .refused .storeOtherwise
  else .refused .runStateOtherwise

/-- POWER (R163, R181): the supply comes into its range and a cold start with cause POWER begins; a part that RSTN still
holds stays held (assumption log 10). -/
def execPower (s : State) : Effect :=
  if s.pins.supplyLow then
    let s1 := { s with pins := { s.pins with supplyLow := false } }
    if s.pins.rstnLow then .next s1 else .next (s1.coldBegun .power)
  else .refused .pinOtherwise

/-- SUPPLY_FALL (R181): acts as a reset held low. -/
def execSupplyFall (s : State) : Effect :=
  if s.pins.supplyLow then .refused .pinOtherwise
  else .next { s with pins := { s.pins with supplyLow := true } }.resetBegun

/-- RSTN_LOW (R181): the reset begins and is held. -/
def execRstnLow (s : State) : Effect :=
  if s.pins.rstnLow then .refused .pinOtherwise
  else .next { s with pins := { s.pins with rstnLow := true } }.resetBegun

/-- RSTN_RELEASE (R163, R181): a cold start with cause LINE begins, unless the supply is still below its range. -/
def execRstnRelease (s : State) : Effect :=
  if s.pins.rstnLow then
    let s1 := { s with pins := { s.pins with rstnLow := false } }
    if s.pins.supplyLow then .next s1 else .next (s1.coldBegun .line)
  else .refused .pinOtherwise

/-- END_OF_LOADING (R164). -/
def execEndOfLoading (s : State) : Effect :=
  if s.seq.run = .loading ∧ s.pins.supplyLow = false ∧ s.pins.rstnLow = false then .next s.coldEnded
  else .refused .runStateOtherwise

/-- CFGEN_CHANGE (R142): the strap changes level; it acts only on samples taken afterwards. -/
def execCfgenChange (s : State) : Effect :=
  .next { s with pins := { s.pins with cfgen := !s.pins.cfgen, cfgenAge := 0 } }

end Sys2Proof.Machine
end

