-- ==== Sys2Proof/Machine/ConfigOperations.lean ====
section
/-! DEFINITION. The management operations on the configuration sets (chapter 2): GET SETTINGS to COMMIT. -/

namespace Sys2Proof.Machine

/-- GET SETTINGS (R34): the settings of the chosen bank. -/
def getSettings (args : List Octet) (s : State) : Reply :=
  match args with
  | [bank] =>
    match bankOfOctet? bank with
    | some shadow => okData (s.bank shadow).settings.octets s
    | none => badArgument s
  | _ => badArgument s

def execGetSettings (s : State) : Effect := takeOp .getSettings (oneStep .getSettings getSettings) s

/-- PUT SETTINGS (R31): the settings of SHADOW are replaced as a group. -/
def putSettings (args : List Octet) (s : State) : Reply :=
  match settings? args with
  | some c => okData [] { s with shadow := { s.shadow with settings := c } }
  | none => badArgument s

def execPutSettings (s : State) : Effect := takeOp .putSettings (oneStep .putSettings putSettings) s

/-- GET STATION (R34): one record of the chosen bank. -/
def getStation (args : List Octet) (s : State) : Reply :=
  match args with
  | [bank, a] =>
    match bankOfOctet? bank with
    | some shadow =>
      if stationAddress a then
        match (s.bank shadow).record? a with
        | some r => okData r.octets s
        | none => refusedBy .noSuchStation [] s
      else badArgument s
    | none => badArgument s
  | _ => badArgument s

def execGetStation (s : State) : Effect := takeOp .getStation (oneStep .getStation getStation) s

/-- The PUT STATION dispositions (R174). -/
def addedOct : Octet := 0x00#8
def replacedOct : Octet := 0x01#8

/-- PUT STATION (R30): the record replaces one of the same address, is added, or finds the map full. -/
def putStation (args : List Octet) (s : State) : Reply :=
  match stationRecord? args with
  | none => badArgument s
  | some r =>
    if (s.shadow.record? r.addr).isSome then okData [r.addr, replacedOct] { s with shadow := s.shadow.put r }
    else if s.shadow.stations.length < mapSize then okData [r.addr, addedOct] { s with shadow := s.shadow.put r }
    else refusedBy .mapFull [] s

def execPutStation (s : State) : Effect := takeOp .putStation (oneStep .putStation putStation) s

/-- DROP STATION (R32): the record is removed from SHADOW, or there is none. -/
def dropStation (args : List Octet) (s : State) : Reply :=
  match args with
  | [a] =>
    if stationAddress a then
      if (s.shadow.record? a).isSome then okData [a] { s with shadow := s.shadow.drop a }
      else refusedBy .noSuchStation [] s
    else badArgument s
  | _ => badArgument s

def execDropStation (s : State) : Effect := takeOp .dropStation (oneStep .dropStation dropStation) s

/-- At most 16 addresses in one answer (R34). -/
def listSize : Nat := 16

/-- LIST STATIONS (R34): the first addresses of the chosen bank at or above the start address. -/
def listStations (args : List Octet) (s : State) : Reply :=
  match args with
  | [bank, start] =>
    match bankOfOctet? bank with
    | some shadow =>
      let found := (((s.bank shadow).stations.map fun r => r.addr).filter fun a => decide (start.toNat ≤ a.toNat)).take listSize
      okData (oct found.length :: found) s
    | none => badArgument s
  | _ => badArgument s

def execListStations (s : State) : Effect := takeOp .listStations (oneStep .listStations listStations) s

/-- REVERT SHADOW (R33): SHADOW becomes a copy of ACTIVE. -/
def revertShadow (args : List Octet) (s : State) : Reply :=
  match args with
  | [] => okData [oct s.active.stations.length] { s with shadow := s.active }
  | _ => badArgument s

def execRevertShadow (s : State) : Effect := takeOp .revertShadow (oneStep .revertShadow revertShadow) s

/-- CLEAR SHADOW (R33): every record leaves the SHADOW map. -/
def clearShadow (args : List Octet) (s : State) : Reply :=
  match args with
  | [] => okData [oct s.shadow.stations.length] { s with shadow := { s.shadow with stations := [] } }
  | _ => badArgument s

def execClearShadow (s : State) : Effect := takeOp .clearShadow (oneStep .clearShadow clearShadow) s

/-- COMMIT from order 5 of R140 on (R36): an argument is refused, a busy store, an invalid SHADOW; else ACTIVE is replaced, and
the COMMIT entry completes with the settings in force before the replacement, in its place among the others. -/
def commitAction : TakeAction := fun slot args s =>
  match args with
  | _ :: _ => (s, [managedJob s slot Op.commit.octet .badArgument []])
  | [] =>
    if s.store.busy ≠ .idle then (s, [managedJob s slot Op.commit.octet .storeBusy s.store.busy.octets])
    else
      match s.shadow.offence with
      | some (a, reason) => (s, [managedJob s slot Op.commit.octet .invalidShadow [a, reason]])
      | none =>
        let r := s.replaceActive
        (r.1.settle, r.2 ++ [managedJob s slot Op.commit.octet .ok [oct s.shadow.stations.length]])

/-- COMMIT (R36). -/
def execCommit (s : State) : Effect := takeOp .commit commitAction s

end Sys2Proof.Machine
end

