-- ==== Sys2Proof/Machine/StatusOperations.lean ====
section
/-! DEFINITION. The management operations on scanning, counters, branches, transactions and supervision (chapters 5, 6 and
8). -/

namespace Sys2Proof.Machine

/-! ### Errors and identity -/

/-- BAD_OPERATION (R143): the payload is empty, answered BAD_ARGUMENT with operation 00h echoed, or its operation number
names no operation, answered BAD_OPERATION with the number echoed. -/
def badOperationAction : List Octet → TakeAction := fun payload slot _ s =>
  match payload with
  | [] => (s, [managedJob s slot 0x00#8 .badArgument []])
  | op :: _ => (s, [managedJob s slot op .badOperation []])

/-- The payload is empty or names no operation (R143). -/
def namesNoOperation (p : List Octet) : Bool :=
  match p with
  | [] => true
  | op :: _ => (Op.ofOctet? op).isNone

/-- The payload of the entry at the head of the agent queue. -/
def State.headPayload (s : State) : List Octet :=
  match s.agent.queue with
  | slot :: _ => ((s.table.find? slot).map fun e => e.payload).getD []
  | [] => []

/-- BAD_OPERATION (R143). -/
def execBadOperation (s : State) : Effect := takeHead namesNoOperation (badOperationAction s.headPayload) s

/-- The identity (R148): vendor code 4Fh, part code 4120h, the revision letter and the serial number of the part. -/
def identityOctets : List Octet :=
  [0x4F#8, 0x41#8, 0x20#8, oct (0x41 + Config.revision.val)]
    ++ twoOct (Config.serialNumber.toNat / 65536) ++ twoOct (Config.serialNumber.toNat % 65536)

/-- GET IDENTITY (R148). -/
def getIdentity (args : List Octet) (s : State) : Reply :=
  match args with
  | [] => okData identityOctets s
  | _ => badArgument s

def execGetIdentity (s : State) : Effect := takeOp .getIdentity (oneStep .getIdentity getIdentity) s

/-! ### Status scanning (R104, R105) -/

/-- The flags octet of a GET CHANGES item: bit 0 where the word is absent (R176). -/
def changeFlags (x : ScanSlot) : Octet := oct (bitAt x.word.isNone 0)

/-- The five octets of a GET CHANGES item (R176). -/
def changeItem (x : ScanSlot) : List Octet := [x.addr, x.state.octet, changeFlags x] ++ wordField x.word

/-- The items of several addresses, in list order. -/
def Scan.changeItems (c : Scan) (as : List Octet) : List Octet :=
  as.flatMap fun a => match c.find? a with | some x => changeItem x | none => []

/-- A slot as its collection leaves it (R104). -/
def ScanSlot.collected (x : ScanSlot) : ScanSlot := { x with collState := x.state, collWord := x.word, mark := false }

/-- The scan unit after the collection of the first `n` items of the change list (R104). -/
def Scan.collect (c : Scan) (n : Nat) : Scan :=
  { slots := c.slots.map fun x => if (c.changes.take n).contains x.addr then x.collected else x
    changes := c.changes.drop n }

/-- GET CHANGES (R104): up to max items leave the head of the change list and are reported. -/
def getChanges (args : List Octet) (s : State) : Reply :=
  match args with
  | [max] =>
    if 1 ≤ max.toNat ∧ max.toNat ≤ 8 then
      let reported := s.scan.changes.take max.toNat
      let left := s.scan.changes.drop max.toNat
      okData (oct reported.length :: s.scan.changeItems reported ++ [oct left.length])
        { s with scan := s.scan.collect max.toNat }
    else badArgument s
  | _ => badArgument s

def execGetChanges (s : State) : Effect := takeOp .getChanges (oneStep .getChanges getChanges) s

/-- The time to the next poll in ms: that left to the due time of a WAITING slot, 0 once it is reached and for an OVERDUE
slot (R105). -/
def ScanSlot.timeToPoll (x : ScanSlot) (now : Millis) : Nat :=
  match x.schedule with
  | .waiting due => if Millis.reached now due then 0 else (due - now).toNat
  | .overdue _ => 0

/-- The flags octet of PEEK STATUS (R176). -/
def peekFlags (x : ScanSlot) : Octet :=
  oct (bitAt x.word.isNone 0 + bitAt x.collWord.isNone 1 + bitAt x.mark 2 + bitAt x.pollBound 3)

/-- The data of PEEK STATUS (R105, R176). -/
def peekOctets (x : ScanSlot) (branch : BranchId) (now : Millis) : List Octet :=
  [x.addr, oct branch.toNat, x.state.octet] ++ wordField x.word ++ [x.collState.octet] ++ wordField x.collWord
    ++ [peekFlags x, oct x.misses] ++ twoOct (x.timeToPoll now)

/-- PEEK STATUS (R105). -/
def peekStatus (args : List Octet) (s : State) : Reply :=
  match args with
  | [a] =>
    if stationAddress a then
      match s.scan.find? a, s.active.record? a with
      | some x, some r => okData (peekOctets x r.branch s.clock.ms) s
      | _, _ => refusedBy .noSuchStation [] s
    else badArgument s
  | _ => badArgument s

def execPeekStatus (s : State) : Effect := takeOp .peekStatus (oneStep .peekStatus peekStatus) s

/-! ### Counters (R149, R150) -/

/-- The values of a counter group in answer order; none for ALL (R149, R150). -/
def State.groupValues (s : State) : CounterGroup → List Word16
  | .upstream => s.up.counters.values
  | .branch b => (s.branch b).counters.values
  | .transactions => s.table.counters.values
  | .all => []

/-- The counters of the group UPSTREAM at 0. -/
def State.clearUp (s : State) : State := { s with up := { s.up with counters := UpCounters.zero } }

/-- The counters of a group BRANCH n at 0. -/
def State.clearBranch (s : State) (b : BranchId) : State :=
  s.setBranch b { s.branch b with counters := BranchCounters.zero }

/-- The counters of the group TRANSACTIONS at 0. -/
def State.clearTxn (s : State) : State := { s with table := { s.table with counters := TxnCounters.zero } }

/-- The counters of a group, or of all groups, at 0 (R150). -/
def State.clearGroup (s : State) : CounterGroup → State
  | .upstream => s.clearUp
  | .branch b => s.clearBranch b
  | .transactions => s.clearTxn
  | .all => (BranchId.all.foldl State.clearBranch s).clearUp.clearTxn

/-- GET COUNTERS (R149): ALL is refused. -/
def getCounters (args : List Octet) (s : State) : Reply :=
  match args with
  | [g] =>
    match CounterGroup.ofOctet? g with
    | none => badArgument s
    | some .all => badArgument s
    | some group => okData (g :: (s.groupValues group).flatMap wordOct) s
  | _ => badArgument s

def execGetCounters (s : State) : Effect := takeOp .getCounters (oneStep .getCounters getCounters) s

/-- CLEAR COUNTERS (R150): the values before the clearing, none for ALL. -/
def clearCounters (args : List Octet) (s : State) : Reply :=
  match args with
  | [g] =>
    match CounterGroup.ofOctet? g with
    | none => badArgument s
    | some group => okData (g :: (s.groupValues group).flatMap wordOct) (s.clearGroup group)
  | _ => badArgument s

def execClearCounters (s : State) : Effect := takeOp .clearCounters (oneStep .clearCounters clearCounters) s

/-! ### Branch and transaction views (R151, R152) -/

/-- Bound kind, bound station and bound attempts of GET BRANCH (R93, R151, R174). -/
def State.boundOctets (s : State) : Option BoundItem → List Octet
  | none => [0x00#8, absentOct, 0x00#8]
  | some (.station slot) =>
    [0x01#8, ((s.table.find? slot).bind fun e => e.station).getD absentOct,
     oct (((s.table.find? slot).map fun e => e.attempts).getD 0)]
  | some (.share _) => [0x02#8, 0xFF#8, 0x00#8]
  | some (.poll p) => [0x03#8, p.station, oct p.attempts]
  | some (.failsafe f) => [0x04#8, f.station, oct f.attempts]

/-- The data of GET BRANCH (R93, R176). -/
def State.branchOctets (s : State) (b : BranchId) : List Octet :=
  let x := s.branch b
  [oct b.toNat, x.state.octet, oct x.queue.length, oct x.failsafe.length] ++ s.boundOctets x.bound
    ++ [oct x.interrupts, oct x.consec, oct (s.overdueClaims b).length]

/-- GET BRANCH (R151). -/
def getBranch (args : List Octet) (s : State) : Reply :=
  match args with
  | [n] =>
    match BranchId.ofNat? n.toNat with
    | some b => okData (s.branchOctets b) s
    | none => badArgument s
  | _ => badArgument s

def execGetBranch (s : State) : Effect := takeOp .getBranch (oneStep .getBranch getBranch) s

/-- The six octets of an entry in GET TRANSACTIONS (R152, R176). -/
def Entry.view (e : Entry) : List Octet :=
  [oct e.slot, e.tag, e.origin.octet, e.state.octet, e.station.getD absentOct, oct e.attempts]

/-- At most 10 entries in one answer (R152). -/
def viewSize : Nat := 10

/-- GET TRANSACTIONS (R152): the occupied total and the first entries at or above the first slot. -/
def getTransactions (args : List Octet) (s : State) : Reply :=
  match args with
  | [first] =>
    if first.toNat < tableSize then
      let shown := (s.table.entries.filter fun e => decide (first.toNat ≤ e.slot)).take viewSize
      okData ([oct s.table.entries.length, oct shown.length] ++ shown.flatMap Entry.view) s
    else badArgument s
  | _ => badArgument s

def execGetTransactions (s : State) : Effect := takeOp .getTransactions (oneStep .getTransactions getTransactions) s

/-! ### Supervision (R121 to R123) -/

/-- RESUME (R121). -/
def resume (args : List Octet) (s : State) : Reply :=
  match args with
  | [] =>
    match s.sup.state with
    | .failsafeHeld => okData [] { s with sup := { s.sup with state := .normal, stat := false } }.restartSilence
    | .failsafeSending => refusedBy .notReady [oct s.failsafeLeft] s
    | .normal => refusedBy .stateMismatch [s.sup.state.octet] s
  | _ => badArgument s

def execResume (s : State) : Effect := takeOp .resume (oneStep .resume resume) s

/-- FORCE FAILSAFE from order 5 of R140 on (R122): in NORMAL failsafe entry with cause FORCED, its entry completing among the
others in admission order (R114). -/
def forceFailsafeAction : TakeAction := fun slot args s =>
  match args with
  | _ :: _ => (s, [managedJob s slot Op.forceFailsafe.octet .badArgument []])
  | [] =>
    if s.sup.state = .normal then
      let r := s.failsafeEntry .forced
      let v := r.1.sup
      (r.1.settle,
        r.2 ++ [managedJob s slot Op.forceFailsafe.octet .ok [oct (v.linesWith .pending), oct (v.linesWith .skipped)]])
    else (s, [managedJob s slot Op.forceFailsafe.octet .stateMismatch [s.sup.state.octet]])

/-- FORCE FAILSAFE (R122). -/
def execForceFailsafe (s : State) : Effect := takeOp .forceFailsafe forceFailsafeAction s

/-- The four octets of a report line (R176). -/
def ReportLine.view (l : ReportLine) : List Octet := [l.station, oct l.branch.toNat, l.outcome.octet, oct l.attempts]

/-- At most 12 lines in one answer (R123). -/
def reportSize : Nat := 12

/-- GET FAILSAFE REPORT (R123). -/
def getFailsafeReport (args : List Octet) (s : State) : Reply :=
  match args with
  | [start] =>
    let shown := (s.sup.lines.filter fun l => decide (start.toNat ≤ l.station.toNat)).take reportSize
    okData ([s.sup.state.octet, s.sup.cause.octet, oct s.sup.lines.length, oct shown.length] ++ shown.flatMap ReportLine.view) s
  | _ => badArgument s

def execGetFailsafeReport (s : State) : Effect :=
  takeOp .getFailsafeReport (oneStep .getFailsafeReport getFailsafeReport) s

end Sys2Proof.Machine
end

