-- ==== Sys2Proof/Machine/StoreOperations.lean ====
section
/-! DEFINITION. The management operations on the image store and the start sequencer (chapter 9). -/

namespace Sys2Proof.Machine

/-- The octet of a slot number that may be absent (R174). -/
def slotOct (k : Option Nat) : Octet := (k.map oct).getD absentOct

/-- GET START RECORD (R167). -/
def getStartRecord (args : List Octet) (s : State) : Reply :=
  match args with
  | [] =>
    let r := s.seq.record
    okData [r.cause.octet, slotOct r.loaded, oct r.spoiled, r.sup.octet] s
  | _ => badArgument s

def execGetStartRecord (s : State) : Effect := takeOp .getStartRecord (oneStep .getStartRecord getStartRecord) s

/-- GET STORE (R161). -/
def getStore (args : List Octet) (s : State) : Reply :=
  match args with
  | [] => okData ((s.store.slots.map fun c => c.state.octet) ++ s.store.busy.octets ++ [slotOct s.seq.record.loaded]) s
  | _ => badArgument s

def execGetStore (s : State) : Effect := takeOp .getStore (oneStep .getStore getStore) s

/-- The entry of an accepted store operation is left WORKING, and the agent refers to it (R141). -/
def State.leftWorking (s : State) (w : Working) : State :=
  { s.updateEntry w.slot (fun e => { e with state := .working }) with agent := { s.agent with working := some w } }

/-- SAVE IMAGE from order 5 of R140 on (R157). -/
def saveImageAction : TakeAction := fun slot args s =>
  match args with
  | _ :: _ => (s, [managedJob s slot Op.saveImage.octet .badArgument []])
  | [] =>
    if s.store.busy ≠ .idle then (s, [managedJob s slot Op.saveImage.octet .storeBusy s.store.busy.octets])
    else
      match s.store.lowestBlank with
      | none => (s, [managedJob s slot Op.saveImage.octet .storeFull []])
      | some k =>
        let store := { s.store.update k (fun c => c.saveBegun s.active) with busy := .saving k }
        ({ s with store := store }.leftWorking { slot := slot, op := .save, image := k }, [])

/-- SAVE IMAGE (R157). -/
def execSaveImage (s : State) : Effect := takeOp .saveImage saveImageAction s

/-- The number of image slots (R154). -/
def storeSize : Nat := 8

/-- RETIRE IMAGE from order 5 of R140 on (R159). -/
def retireImageAction : TakeAction := fun slot args s =>
  match args with
  | [n] =>
    if n.toNat < storeSize then
      if s.store.busy ≠ .idle then (s, [managedJob s slot Op.retireImage.octet .storeBusy s.store.busy.octets])
      else
        match s.store.slot? n.toNat with
        | some c =>
          if c.state = .valid then
            ({ s with store := { s.store with busy := .retiring n.toNat } }.leftWorking
              { slot := slot, op := .retire, image := n.toNat }, [])
          else (s, [managedJob s slot Op.retireImage.octet .slotState [n, c.state.octet]])
        | none => (s, [managedJob s slot Op.retireImage.octet .badArgument []])
    else (s, [managedJob s slot Op.retireImage.octet .badArgument []])
  | _ => (s, [managedJob s slot Op.retireImage.octet .badArgument []])

/-- RETIRE IMAGE (R159). -/
def execRetireImage (s : State) : Effect := takeOp .retireImage retireImageAction s

/-- RESTART from order 5 of R140 on (R165): the run state becomes RESTART_PENDING; the restart follows the answer. -/
def restart (args : List Octet) (s : State) : Reply :=
  match args with
  | [arg] =>
    match RestartKind.ofOctet? arg with
    | none => badArgument s
    | some _ =>
      if s.store.busy ≠ .idle then storeBusy s
      else okData [arg] { s with seq := { s.seq with run := .restartPending } }
  | _ => badArgument s

/-- RESTART (R165). -/
def execRestart (s : State) : Effect := takeOp .restart (oneStep .restart restart) s

end Sys2Proof.Machine
end

