-- ==== Sys2Proof/Machine/ClockOps.lean ====
section
/-! DEFINITION. The clock: what one period does to every timer, and the part's own events that are due (assumption log 4).
An event that the part itself brings about is due when its timer has run out. Octets, pins, and the ends of LOADING and of
store operations come from outside. -/

namespace Sys2Proof.Machine

/-- A timer with one period less, stopping at 0. -/
def tickTimer : Option Nat → Option Nat
  | some n => some (n - 1)
  | none => none

/-- The millisecond count advances by 1 each millisecond and wraps (R2). -/
def Clock.tick (c : Clock) : Clock :=
  if c.phase + 1 < msPeriods then { c with phase := c.phase + 1 } else { ms := c.ms + 1#32, phase := 0 }

/-- One period at the transmitter. -/
def Transmitter.tick : Transmitter → Transmitter
  | .sending n => .sending (n - 1)
  | .spacing n => .spacing (n - 1)
  | .idle => .idle

/-- One period of a guard or of the wait after an interruption. -/
def GuardPhase.tick : GuardPhase → GuardPhase
  | .running n => .running (n - 1)
  | .waiting n => .waiting (n - 1)
  | .stopped => .stopped

/-- One period at a branch controller. -/
def Branch.tick (x : Branch) : Branch :=
  { x with phase := x.phase.tick, sendLeft := tickTimer x.sendLeft, deadline := tickTimer x.deadline
           probeTimer := tickTimer x.probeTimer, probeQuiet := tickTimer x.probeQuiet, rx := x.rx.tick }

/-- One period of the service timer. -/
def Service.tick : Service → Service
  | .serving n => .serving (n - 1)
  | .idle => .idle

/-- One period at the CFGEN input: a level held counts as steady from tCFG on (R181). -/
def Pins.tick (p : Pins) : Pins := { p with cfgenAge := min cfgenSteady (p.cfgenAge + 1) }

/-- One period of the 18.432 MHz clock. While the part is held reset or LOADING none of its timers advances (R181). -/
def State.tick (s : State) : State :=
  let t := { s with pins := s.pins.tick }
  if s.live then
    { t with
      clock := s.clock.tick
      tokens := s.tokens.map fun x => { x with timer := tickTimer x.timer }
      up := { s.up with rx := s.up.rx.tick, tx := s.up.tx.tick }
      branches := s.branches.map Branch.tick
      sup := { s.sup with silence := tickTimer s.sup.silence }
      agent := { s.agent with service := s.agent.service.tick } }
  else t

/-- The command of the take of an operation. -/
def Op.instr : Op → Instr
  | .getIdentity => .getIdentity
  | .getStartRecord => .getStartRecord
  | .getSettings => .getSettings
  | .putSettings => .putSettings
  | .getStation => .getStation
  | .putStation => .putStation
  | .dropStation => .dropStation
  | .listStations => .listStations
  | .revertShadow => .revertShadow
  | .clearShadow => .clearShadow
  | .commit => .commit
  | .getChanges => .getChanges
  | .peekStatus => .peekStatus
  | .getCounters => .getCounters
  | .clearCounters => .clearCounters
  | .getBranch => .getBranch
  | .getTransactions => .getTransactions
  | .saveImage => .saveImage
  | .retireImage => .retireImage
  | .getStore => .getStore
  | .resume => .resume
  | .forceFailsafe => .forceFailsafe
  | .getFailsafeReport => .getFailsafeReport
  | .restart => .restart

/-- The command of the take of an entry, from its payload (R143). -/
def takeInstr (payload : List Octet) : Instr :=
  match payload with
  | [] => .badOperation
  | op :: _ =>
    match Op.ofOctet? op with
    | some o => o.instr
    | none => .badOperation

/-- A command where its condition holds. -/
def dueIf (c : Bool) (i : Instr) : List Instr := if c then [i] else []

/-- The events of a branch whose timers have run out. -/
def dueAtBranch (x : Branch) (b : BranchId) : List Instr :=
  dueIf x.guardDone (.guardComplete b) ++ dueIf x.waitDone (.guardQuietWaitExpiry b)
    ++ dueIf x.sendDone (.branchEndOfSending b) ++ dueIf x.deadlineDue (.replyDeadlineExpiry b)
    ++ dueIf x.probeDue (.probeTimerExpiry b) ++ dueIf x.probeDone (.probeQuietEnd b)

/-- The events at the transmitter whose time has run out. -/
def dueAtTransmitter : Transmitter → List Instr
  | .sending 0 => [.endOfTransmission]
  | .spacing 0 => [.endOfSpacing]
  | _ => []

/-- The take that is due at the agent. -/
def State.dueTake (s : State) : List Instr :=
  match s.takeReady with
  | some _ => [takeInstr s.headPayload]
  | none => []

/-- The lines with a receiver: the upstream line, `none`, and the four branch lines. -/
def lines : List (Option BranchId) := none :: BranchId.all.map some

/-- What a test says of the receiver of a line, with the periods of a char at its rate in use. -/
def State.atReceiver (s : State) (test : Receiver → Nat → Bool) : Option BranchId → Bool
  | none => test s.up.rx s.up.rate.charPeriods
  | some b => test (s.branch b).rx (s.branch b).rate.charPeriods

/-- The lines whose gap timers have run out (R179). -/
def State.gapLines (s : State) : List (Option BranchId) := lines.filter (s.atReceiver Receiver.gapReached)

/-- The expiry of the gap timer of a line (R179). -/
def gapInstr : Option BranchId → Instr
  | none => .upstreamGap
  | some b => .branchGap b

/-- The start bit of an octet is taken on a line before the expiry of its gap timer (R179). -/
def State.startBit (s : State) : Option BranchId → State
  | none => s.setUpRx s.up.rx.begin
  | some b => s.setRx b (s.branch b).rx.begin

/-- The part's own events whose timers have run out. -/
def State.due (s : State) : List Instr :=
  if s.live then
    dueAtTransmitter s.up.tx ++ (BranchId.all.flatMap fun b => dueAtBranch (s.branch b) b)
      ++ ((s.scan.slots.filter fun x => x.dueReached s.clock.ms).map fun x => Instr.slotDue x.addr)
      ++ ((s.tokens.filter fun t => t.timer == some 0).map fun t => Instr.refillExpiry t.addr)
      ++ dueIf s.sup.silenceDue .silenceExpiry ++ s.dueTake ++ s.gapLines.map gapInstr
  else []

/-- On some line an octet begun has reached its end, so that it arrives before any more time passes (assumption log 6). -/
def State.octetAwaited (s : State) : Bool := s.live && lines.any (s.atReceiver Receiver.octetAwaited)

/-- What the part may do next of itself. -/
inductive Own where
  /-- An event whose timer has run out. -/
  | event (c : Instr)
  /-- The start bit of an octet that meets the expiry of the gap timer of a line is taken first (R179). -/
  | startBit (line : Option BranchId)
  /-- One clock period passes. -/
  | period
  /-- No time passes before the octet begun on some line has arrived. -/
  | wait
deriving DecidableEq, Repr

/-- What the part may do next of itself: an event that is due, or the start bit that meets a gap timer's expiry; and with nothing
due one clock period passes, unless an octet is to arrive first. -/
def State.choices (s : State) : List Own :=
  if s.due = [] then [if s.octetAwaited then .wait else .period]
  else s.due.map .event ++ s.gapLines.map .startBit

/-- What the part does next of itself, and the state it does it in; of several choices a free value takes one, since the spec
fixes no order (0.6-5, R179). -/
def State.nextDue (s : State) : Own × State :=
  match s.choices with
  | [c] => (c, s)
  | cs => (cs.getD (Config.eventOrder s.free % cs.length) .wait, s.drawn)

end Sys2Proof.Machine
end

