-- ==== Sys2Proof/Machine/Dispatch.lean ====
section
/-! DEFINITION. One arm per command: the meaning of each row of spec/opcode_table.json. -/

namespace Sys2Proof.Machine

def exec (i : Instr) (s : State) : Host.Outcome State Fault Refusal :=
  match i with
  | .validIn o => Sys2Proof.Machine.execValidIn o s
  | .upstreamCheck o => Sys2Proof.Machine.execUpstreamCheck o s
  | .upstreamLength o => Sys2Proof.Machine.execUpstreamLength o s
  | .upstreamGap => Sys2Proof.Machine.execUpstreamGap s
  | .upstreamNoise o => Sys2Proof.Machine.execUpstreamNoise o s
  | .endOfTransmission => Sys2Proof.Machine.execEndOfTransmission s
  | .endOfSpacing => Sys2Proof.Machine.execEndOfSpacing s
  | .guardComplete b => Sys2Proof.Machine.execGuardComplete b s
  | .branchOctet b o => Sys2Proof.Machine.execBranchOctet b o s
  | .guardQuietWaitExpiry b => Sys2Proof.Machine.execGuardQuietWaitExpiry b s
  | .branchEndOfSending b => Sys2Proof.Machine.execBranchEndOfSending b s
  | .replyDeadlineExpiry b => Sys2Proof.Machine.execReplyDeadlineExpiry b s
  | .branchFrameValid b o => Sys2Proof.Machine.execBranchFrameValid b o s
  | .branchFrameCheck b o => Sys2Proof.Machine.execBranchFrameCheck b o s
  | .branchFrameLength b o => Sys2Proof.Machine.execBranchFrameLength b o s
  | .branchGap b => Sys2Proof.Machine.execBranchGap b s
  | .probeTimerExpiry b => Sys2Proof.Machine.execProbeTimerExpiry b s
  | .probeQuietEnd b => Sys2Proof.Machine.execProbeQuietEnd b s
  | .slotDue a => Sys2Proof.Machine.execSlotDue a s
  | .refillExpiry a => Sys2Proof.Machine.execRefillExpiry a s
  | .silenceExpiry => Sys2Proof.Machine.execSilenceExpiry s
  | .endOfSave verified => Sys2Proof.Machine.execEndOfSave verified s
  | .endOfRetire => Sys2Proof.Machine.execEndOfRetire s
  | .power => Sys2Proof.Machine.execPower s
  | .supplyFall => Sys2Proof.Machine.execSupplyFall s
  | .rstnLow => Sys2Proof.Machine.execRstnLow s
  | .rstnRelease => Sys2Proof.Machine.execRstnRelease s
  | .endOfLoading => Sys2Proof.Machine.execEndOfLoading s
  | .cfgenChange => Sys2Proof.Machine.execCfgenChange s
  | .badOperation => Sys2Proof.Machine.execBadOperation s
  | .getIdentity => Sys2Proof.Machine.execGetIdentity s
  | .getStartRecord => Sys2Proof.Machine.execGetStartRecord s
  | .getSettings => Sys2Proof.Machine.execGetSettings s
  | .putSettings => Sys2Proof.Machine.execPutSettings s
  | .getStation => Sys2Proof.Machine.execGetStation s
  | .putStation => Sys2Proof.Machine.execPutStation s
  | .dropStation => Sys2Proof.Machine.execDropStation s
  | .listStations => Sys2Proof.Machine.execListStations s
  | .revertShadow => Sys2Proof.Machine.execRevertShadow s
  | .clearShadow => Sys2Proof.Machine.execClearShadow s
  | .commit => Sys2Proof.Machine.execCommit s
  | .getChanges => Sys2Proof.Machine.execGetChanges s
  | .peekStatus => Sys2Proof.Machine.execPeekStatus s
  | .getCounters => Sys2Proof.Machine.execGetCounters s
  | .clearCounters => Sys2Proof.Machine.execClearCounters s
  | .getBranch => Sys2Proof.Machine.execGetBranch s
  | .getTransactions => Sys2Proof.Machine.execGetTransactions s
  | .saveImage => Sys2Proof.Machine.execSaveImage s
  | .retireImage => Sys2Proof.Machine.execRetireImage s
  | .getStore => Sys2Proof.Machine.execGetStore s
  | .resume => Sys2Proof.Machine.execResume s
  | .forceFailsafe => Sys2Proof.Machine.execForceFailsafe s
  | .getFailsafeReport => Sys2Proof.Machine.execGetFailsafeReport s
  | .restart => Sys2Proof.Machine.execRestart s
  | .upstreamFrameOctet o => Sys2Proof.Machine.execUpstreamFrameOctet o s
  | .branchFrameOctet b o => Sys2Proof.Machine.execBranchFrameOctet b o s

end Sys2Proof.Machine
end

