-- ==== Sys2Proof/Machine/Step.lean ====
section
/-! DEFINITION. One step: the command at the front of the queue, or, with none waiting, the part's own time. -/

namespace Sys2Proof.Machine

/-- One step. A waiting command is taken from the front of the queue and carried out with the queue's rest. With none
waiting, the part goes on of itself: an event of its own, or one clock period passes (assumption log 4). -/
def step (s : State) : Host.Outcome State Fault Refusal :=
  match s.pending with
  | c :: rest => exec c { s with pending := rest }
  | [] =>
    match s.nextDue with
    | (.event c, t) => exec c t
    | (.startBit line, t) => .next (t.startBit line)
    | (.period, t) => .next t.tick
    | (.wait, t) => .next t

/-- The state with the command that a word spells put at the front of its queue; unchanged where the word spells none, as
every word does here: the table gives its rows no bits. -/
def State.withFetchWord (s : State) (nbits w : Nat) : State :=
  match decodeTableWord nbits w with
  | some c => { s with pending := c :: s.pending }
  | none => s

end Sys2Proof.Machine
end

