-- ==== Sys2Proof/Safety.lean ====
section
/-! DEFINITION. The terms in which the claims speak: how a frame arrives, how an entry completes, how the agent answers; and
the conditions that a run of the part keeps. -/

namespace Sys2Proof.Machine

/-! ### Frames that arrive -/

/-- The receiver has taken the frame up to the first CHECK octet `hi`, and waits for its last octet (R170, R179). -/
def AwaitsLast (r : Receiver) (f : Frame) (hi : Octet) : Prop :=
  f.payload.length ≤ 64 ∧ ∃ quiet straddle begun, r = .inside (startOctet :: f.body ++ [hi]) quiet straddle begun

/-- With the octet `o` the frame is complete and its CHECK agrees (R171, R179). -/
def ArrivesWith (r : Receiver) (f : Frame) (o : Octet) : Prop :=
  ∃ hi, AwaitsLast r f hi ∧ wordOct (crc f.body) = [hi, o]

/-- With the octet `o` the frame is complete and its CHECK differs (R171, R179). -/
def BreaksWith (r : Receiver) (f : Frame) (o : Octet) : Prop :=
  ∃ hi, AwaitsLast r f hi ∧ wordOct (crc f.body) ≠ [hi, o]

/-- With the octet `o` the frame arrives VALID on the upstream line. -/
def Upstream.Arrives (u : Upstream) (f : Frame) (o : Octet) : Prop := ArrivesWith u.rx f o

/-- With the octet `o` the frame ends CHECK on the upstream line. -/
def Upstream.Breaks (u : Upstream) (f : Frame) (o : Octet) : Prop := BreaksWith u.rx f o

/-- With the octet `o` the frame arrives VALID on a branch line. -/
def Branch.Arrives (x : Branch) (f : Frame) (o : Octet) : Prop := ArrivesWith x.rx f o

/-- With the octet `o` the frame ends CHECK on a branch line. -/
def Branch.Breaks (x : Branch) (f : Frame) (o : Octet) : Prop := BreaksWith x.rx f o

/-- The receiver after a change of rate, a char having lasted `char` clock periods before it: the frame stays in assembly, and an
octet whose start bit came before, within 3 such char of quiet, ends 1 such char after it (R132, R179, R180). That the time gone is
kept as time, and the latest end of that octet beside it, is the model's choice (assumption log 6). -/
def Receiver.overChange (r : Receiver) (char : Nat) : Receiver :=
  match r with
  | .inside os quiet straddle begun => .inside os quiet (max straddle (min quiet (3 * char) + char)) begun
  | .off => .off
  | .outside => .outside

/-- Octets one after another at a receiver: what each does, and the receiver after them. -/
def Receiver.feed (r : Receiver) : List Octet → List Reception × Receiver
  | [] => ([], r)
  | o :: os =>
    let x := r.take o
    let y := x.2.feed os
    (x.1 :: y.1, y.2)

/-- The silence timer started afresh, in clock periods: SILENCE × 100 ms in NORMAL, stopped otherwise or with SILENCE 0
(R112). -/
def State.freshSilence (s : State) : Option Nat :=
  if s.sup.state = .normal ∧ s.active.settings.silence ≠ 0 then some (s.active.settings.silence * 100 * 18432) else none

/-- The state in which a VALID upstream frame is judged: VALID_IN has counted and the silence timer has been restarted
(R134). -/
def State.heard (s : State) : State :=
  { s with
    up := { s.up with rx := .outside, counters := { s.up.counters with validIn := bump s.up.counters.validIn } }
    sup := { s.sup with silence := s.freshSilence } }

/-- The state after a refusal with a reason code: the REFUSED frame appended and REFUSALS_SENT counted, or with no room the
frame dropped and REFUSAL_DROPPED counted (R58). -/
def State.refusedWith (s : State) (f : Frame) (code : Octet) : State :=
  if s.up.queue.length < 8 then
    { s with up := { s.up.append { frame := { dest := f.src, src := f.dest, tag := f.tag, kind := 0x30#8, payload := [code] }
                                   note := .refusal } with
                     counters := { s.up.counters with refusalsSent := bump s.up.counters.refusalsSent } } }
  else { s with up := { s.up with counters := { s.up.counters with refusalDropped := bump s.up.counters.refusalDropped } } }

/-! ### Completion and the agent -/

/-- From `s` to `t` the entry `e` of a slot completes with an answer frame (R12 to R14): it takes the number of the counter,
and goes OUTBOUND where the outbound queue has room and nothing is RETURNING, and to the end of the RETURNING list
otherwise. All other entries stay. -/
def Completes (s t : State) (slot : Nat) (e : Entry) (answer : Frame) (note : ReleaseNote)
    (count : TxnCounters → TxnCounters) : Prop :=
  t.table.nextSeq = s.table.nextSeq + 1#16 ∧ t.table.counters = count s.table.counters
  ∧ (∀ k, k ≠ slot → t.table.find? k = s.table.find? k)
  ∧ (if s.up.queue.length < 8 ∧ s.table.returning = [] then
      t.table.find? slot = some { e with state := .outbound, seq := some s.table.nextSeq, reply := some answer }
      ∧ t.table.returning = [] ∧ t.up = s.up.append { frame := answer, note := note }
    else
      t.table.find? slot = some { e with state := .returning, seq := some s.table.nextSeq, reply := some answer }
      ∧ t.table.returning = s.table.returning ++ [slot] ∧ t.up = s.up)

/-- The service timer of the agent has run out with the QUEUED entry `e` at the head of its queue (R139). -/
def Takes (s : State) (slot : Nat) (e : Entry) (payload : List Octet) : Prop :=
  s.seq.run ≠ .loading ∧ s.agent.service = .serving 0 ∧ s.agent.queue.head? = some slot ∧ s.table.find? slot = some e
  ∧ e.state = .queued ∧ e.origin = .manage ∧ e.payload = payload

/-- The agent has let go of its head entry, and serves the next one with a fresh service time of 10 µs to 100 µs (a free
value, assumption log 2, of 185 to 1843 clock periods, assumption log 14), or is IDLE (R139). -/
def AgentGoesOn (s t : State) : Prop :=
  t.agent.queue = s.agent.queue.tail
  ∧ (s.agent.queue.tail = [] → t.agent.service = .idle ∧ t.free = s.free)
  ∧ (s.agent.queue.tail ≠ [] →
      t.agent.service = .serving (185 + (Config.serviceSlack s.free).val) ∧ t.free = s.free + 1)

/-- From `s` to `t` the agent answers the entry `e` with a result code and data, in the name of `own`, and goes on (R12, R17,
R139, R140); nothing but the table, the upstream line and the agent changes. -/
def Answers (s t : State) (slot : Nat) (e : Entry) (own op code : Octet) (data : List Octet) (note : ReleaseNote) : Prop :=
  Completes s t slot e { dest := e.ctrl, src := own, tag := e.tag, kind := 0x3F#8, payload := op :: code :: data } note
    (fun c => { c with managed := bump c.managed })
  ∧ AgentGoesOn s t ∧ t.agent.working = s.agent.working
  ∧ t = { s with table := t.table, up := t.up, agent := t.agent, free := t.free }

/-- The entry of a slot has completed with an answer, which waits to be sent (R12, R14). -/
def Answered (t : State) (slot : Nat) (answer : Frame) : Prop :=
  ∃ e, t.table.find? slot = some e ∧ (e.state = .outbound ∨ e.state = .returning) ∧ e.reply = some answer

/-- In an event that completes the entries of both slots, that of `a` completes before that of `b`: it was admitted earlier, or at
the same time in a lower slot (R13). Admission times lie within one wrap of the count (R2). -/
def CompletesBefore (s : State) (a b : Nat) : Prop :=
  ∀ x y, s.table.find? a = some x → s.table.find? b = some y →
    (s.clock.ms - y.admitted).toNat < (s.clock.ms - x.admitted).toNat
    ∨ ((s.clock.ms - x.admitted).toNat = (s.clock.ms - y.admitted).toNat ∧ a < b)

/-- The counter of TRANSACTIONS that a completion with an answer counts: RELAYED, NO_ANSWER, ABORTED, DONE or MANAGED, by the kind
of the answer (R20). -/
def TxnCounters.countAnswer (c : TxnCounters) (f : Frame) : TxnCounters :=
  if f.kind = 0x20#8 then { c with relayed := bump c.relayed }
  else if f.kind = 0x31#8 then { c with noAnswer := bump c.noAnswer }
  else if f.kind = 0x32#8 then { c with aborted := bump c.aborted }
  else if f.kind = 0x33#8 then { c with done := bump c.done }
  else if f.kind = 0x3F#8 then { c with managed := bump c.managed }
  else c

/-- The answer frame that the entry of a slot holds. -/
def State.replyOf (s : State) (slot : Nat) : Option Frame := (s.table.find? slot).bind fun e => e.reply

/-- The slot whose entry a release note frees; none for a refusal (R131). -/
def ReleaseNote.slot? : ReleaseNote → Option Nat
  | .entry k | .entryRate k | .entryRestart k _ => some k
  | .refusal => none

/-- In one event from `s` to `t` the entries that complete do so in the order of R13: they take consecutive numbers from the
completion counter, each counts under its kind (R20), and their answers go to the tail of the outbound queue in that order as long as
it has room and nothing is RETURNING, and the others to the end of the RETURNING list (R12, R14). -/
def CompletesInOrder (s t : State) : Prop :=
  ∃ order : List Nat,
    let room := if s.table.returning = [] then 8 - s.up.queue.length else 0
    (∀ slot, slot ∈ order ↔ ∃ e e', s.table.find? slot = some e ∧ e.state.isOpen = true ∧ t.table.find? slot = some e'
      ∧ e'.state.isOpen = false)
    ∧ order.Pairwise (CompletesBefore s)
    ∧ (∀ i slot, order[i]? = some slot → ∃ e, t.table.find? slot = some e ∧ e.reply.isSome = true
        ∧ e.seq = some (s.table.nextSeq + BitVec.ofNat 16 i) ∧ e.state = if i < room then .outbound else .returning)
    ∧ t.table.nextSeq = s.table.nextSeq + BitVec.ofNat 16 order.length
    ∧ t.table.counters = (order.filterMap t.replyOf).foldl TxnCounters.countAnswer s.table.counters
    ∧ t.table.returning = s.table.returning ++ order.drop room
    ∧ ∃ items : List OutItem, items.map (fun i => (i.note.slot?, some i.frame)) = (order.take room).map (fun k => (some k, t.replyOf k))
        ∧ t.up = items.foldl Upstream.append s.up

/-- CFGEN has been high for tCFG at least (R181). -/
def Unlocked (s : State) : Prop := s.pins.cfgen = true ∧ 19 ≤ s.pins.cfgenAge

/-- CFGEN has been low for tCFG at least (R181). -/
def LockedOut (s : State) : Prop := s.pins.cfgen = false ∧ 19 ≤ s.pins.cfgenAge

/-! ### What the branch events leave -/

/-- The branch right after a pick, but for the list the item came from, the item and the consecutive-controller count: rate
and address in use from ACTIVE, the mark clear, a guard begun, and an octet under way still to come at the old rate (R71, R72,
R180; what the receiver keeps of it is the model's choice, assumption log 6). -/
def Branch.pickedFor (x : Branch) (c : BranchSettings) (own : Octet) (item : BoundItem) : Branch :=
  { x with state := .guard, bound := some item, rate := c.rate, addr := own, finalMark := false, guardLen := c.guard
           rx := x.rx.overChange x.rate.charPeriods, phase := .running (c.guard * c.rate.charPeriods) }

/-- The branch right after the completion of its guard, sending the frame `f` of 8 + LEN char (R72, R75). -/
def Branch.sendingFrame (x : Branch) (f : Frame) : Branch :=
  { x with state := .sending, phase := .stopped, interrupts := 0, expectedTag := f.tag, frame := some f
           sendLeft := some ((8 + f.payload.length) * x.rate.charPeriods)
           counters := { x.counters with attempts := bump x.counters.attempts }, driver := true, rx := .off }

/-- The branch with its item unbound: IDLE where it is ENABLED, DISABLED with its receiver off otherwise (R83, R89). -/
def Branch.itemEnded (x : Branch) (enabled : Bool) : Branch :=
  { x with state := if enabled then .idle else .disabled, bound := none, finalMark := false, deadline := none
           deadlinePassed := false, phase := .stopped, rx := if enabled then x.rx else .off }

/-- A command by which an octet reaches branch `b` outside RECEIVING, the receiver after it, and whether the octet ends a VALID
frame, which counts STRAY there (R73, R81, R179). -/
def OctetReaches (s : State) (b : BranchId) (c : Instr) (rx : Receiver) (stray : Bool) : Prop :=
  (∃ o, c = .branchOctet b o ∧ (s.branch b).rx = .outside ∧ rx = (if o = 0xC3#8 then .inside [o] 0 0 false else .outside)
    ∧ stray = false)
  ∨ (∃ o os quiet straddle begun, c = .branchFrameOctet b o ∧ (s.branch b).rx = .inside os quiet straddle begun
      ∧ (os.length = 5 → o.toNat ≤ 64) ∧ (6 ≤ os.length → os.length + 1 ≠ 8 + (os.getD 5 0#8).toNat)
      ∧ rx = .inside (os ++ [o]) 0 0 false ∧ stray = false)
  ∨ (∃ f o, c = .branchFrameValid b o ∧ (s.branch b).Arrives f o ∧ rx = .outside ∧ stray = true)
  ∨ (∃ f o, c = .branchFrameCheck b o ∧ (s.branch b).Breaks f o ∧ rx = .outside ∧ stray = false)
  ∨ (∃ o os quiet straddle begun, c = .branchFrameLength b o ∧ (s.branch b).rx = .inside os quiet straddle begun
      ∧ os.length = 5 ∧ 64 < o.toNat ∧ rx = .outside ∧ stray = false)

/-- The sets of a broadcast after the shares on the branches of `gone` were aborted: those of them still pending move to
not-sent (R8). -/
def BroadcastSets.without (x : BroadcastSets) (gone : BranchId → Bool) : BroadcastSets :=
  let left (b : BranchId) : Bool := x.pending.get b && !gone b
  let lost (b : BranchId) : Bool := x.notSent.get b || (x.pending.get b && gone b)
  { x with pending := ⟨left .b0, left .b1, left .b2, left .b3⟩, notSent := ⟨lost .b0, lost .b1, lost .b2, lost .b3⟩ }

/-- In `t` the broadcast entry `e` with the sets `x` has had its shares on the branches of `gone` aborted: with nothing left
pending it has completed DONE in the name of `own` with its sent and not-sent sets, and else it stands as it did but for its
sets (R8, R9, R17). -/
def SharesMoved (t : State) (slot : Nat) (e : Entry) (x : BroadcastSets) (own : Octet) (gone : BranchId → Bool) : Prop :=
  let y := x.without gone
  if emptySet y.pending then
    Answered t slot { dest := e.ctrl, src := own, tag := e.tag, kind := 0x33#8
                      payload := [branchSetOct y.sent, branchSetOct y.notSent] }
  else t.table.find? slot = some { e with sets := some y }

/-- A command by which the attempt in progress on branch `b` fails with a cause, and the receiver after it (R77, R78): the
deadline expires in AWAITING, or a frame ends CHECK, LENGTH or GAP in RECEIVING. -/
def AttemptFailsBy (s : State) (b : BranchId) (c : Instr) (cause : Cause) (rx : Receiver) : Prop :=
  (c = .replyDeadlineExpiry b ∧ s.seq.run ≠ .loading ∧ (s.branch b).state = .awaiting ∧ (s.branch b).deadline = some 0
    ∧ (s.branch b).deadlinePassed = false ∧ cause = .silent ∧ rx = (s.branch b).rx)
  ∨ ((s.branch b).state = .receiving ∧ cause = .corrupt ∧ rx = .outside
    ∧ ((∃ f o, c = .branchFrameCheck b o ∧ (s.branch b).Breaks f o)
      ∨ (∃ o os quiet straddle begun, c = .branchFrameLength b o ∧ (s.branch b).rx = .inside os quiet straddle begun
          ∧ os.length = 5 ∧ 64 < o.toNat)
      ∨ (∃ os quiet straddle, c = .branchGap b ∧ (s.branch b).rx = .inside os quiet straddle false
          ∧ 3 * (s.branch b).rate.charPeriods ≤ quiet)))

/-- The branch with its reply window closed and the failure counted under its cause (R82). -/
def Branch.windowClosed (x : Branch) (cause : Cause) (rx : Receiver) : Branch :=
  { x with rx := rx, deadline := none, deadlinePassed := false
           counters := match cause with
             | .silent => { x.counters with silent := bump x.counters.silent }
             | .corrupt => { x.counters with corrupt := bump x.counters.corrupt } }

/-- The state of an image slot by the table of R155, from its header mark, its verify mark, its check and its retire mark. -/
def stateByMarks (header verify check retire : Bool) : SlotState :=
  match header, verify && check, retire with
  | false, _, _ => .blank
  | true, false, _ => .spoiled
  | true, true, false => .valid
  | true, true, true => .retired

/-- A cold start with a cause has begun LOADING (R155, R162, R163): every slot has the state its marks give, with its check
lost or not as a free value says (assumption log 12), the highest VALID image, or with none the factory configuration, is in
ACTIVE and SHADOW alike, drivers, receivers and STAT are off, and the lines mark. Everything else stands as it did. That all this
falls in the event that begins the cold start is the model's reading (assumption log 11). -/
def ColdStartBegun (s t : State) (cause : StartCause) : Prop :=
  t.seq.run = .loading ∧ t.seq.cause = cause ∧ t.seq.record = s.seq.record
  ∧ t.store.busy = .idle ∧ t.store.slots.length = s.store.slots.length
  ∧ (∀ k c, s.store.slot? k = some c →
      let good := c.checkGood && Config.checkHolds s.free k
      t.store.slot? k = some { c with
        checkGood := good, state := stateByMarks c.header c.verify (good && c.image.isSome) c.retire })
  ∧ (∀ k c image, t.store.slot? k = some c → c.state = .valid → c.image = some image →
      (∀ j d, k < j → t.store.slot? j = some d → d.state ≠ .valid) →
      t.active = image ∧ t.shadow = image ∧ t.seq.loaded = some k)
  ∧ ((∀ c ∈ t.store.slots, c.state ≠ .valid) →
      t.active = factoryConfig ∧ t.shadow = factoryConfig ∧ t.seq.loaded = none)
  ∧ (∀ b, t.branch b = { s.branch b with driver := false, rx := .off, frame := none, sendLeft := none })
  ∧ t.up = { s.up with rx := .off, tx := .idle } ∧ t.sup = { s.sup with stat := false }
  ∧ t = { s with seq := t.seq, store := t.store, active := t.active, shadow := t.shadow, branches := t.branches, up := t.up
                 sup := t.sup, free := t.free }

/-- The part is held reset (R181): drivers, receivers and STAT are off, the upstream line and every branch line mark, a frame
that a branch was sending being cut off (R182), and a store operation in progress is
cut off: a save leaves its slot without a verify mark, a retire may or may not have written its mark (R160). -/
def HeldReset (s t : State) : Prop :=
  t.seq = { s.seq with run := .loading }
  ∧ (∀ b, t.branch b = { s.branch b with driver := false, rx := .off, frame := none, sendLeft := none })
  ∧ t.up = { s.up with rx := .off, tx := .idle } ∧ t.sup = { s.sup with stat := false }
  ∧ t.store.busy = .idle
  ∧ (s.store.busy = .idle → t.store = s.store)
  ∧ (∀ k c, s.store.busy = .saving k → s.store.slot? k = some c →
      t.store.slot? k = some { c with state := .spoiled, verify := false })
  ∧ (∀ k c, s.store.busy = .retiring k → s.store.slot? k = some c →
      t.store.slot? k = some { c with retire := c.retire || Config.retireMarkWritten s.free })
  ∧ (∀ j k, s.store.busy = .saving k ∨ s.store.busy = .retiring k → j ≠ k → t.store.slot? j = s.store.slot? j)
  ∧ t = { s with pins := t.pins, seq := t.seq, branches := t.branches, up := t.up, sup := t.sup, store := t.store
                 free := t.free }

/-! ### Conditions that every step keeps -/

/-- The queues hold what they may: 8 frames outbound (R128), 8 items per branch (R66), 4 entries at the agent (R138); a
transmitter that sends has a frame to send, and one that is IDLE in a live part has none (R130). -/
def QueuesBounded (s : State) : Prop :=
  s.up.queue.length ≤ 8 ∧ (∀ b, (s.branch b).queue.length ≤ 8) ∧ s.agent.queue.length ≤ 4
  ∧ (∀ n, s.up.tx = .sending n → s.up.queue ≠ []) ∧ (s.seq.run ≠ .loading → s.up.tx = .idle → s.up.queue = [])

/-- The table: entries in ascending slot order below 24, no two with one tag (R1, R3). -/
def TagsDistinct (s : State) : Prop :=
  (s.table.entries.map fun e => e.slot).Pairwise (· < ·) ∧ (∀ e ∈ s.table.entries, e.slot < 24)
  ∧ (s.table.entries.map fun e => e.tag).Nodup

/-- The fields of an entry follow its origin (R2, R4, R5, R8, R10): its states, its station and route copy, its sets; and an
entry has its answer frame and its number exactly once it has completed (R12). -/
def Entry.shaped (e : Entry) : Prop :=
  (e.origin = .station → e.station.isSome = true ∧ e.route.isSome = true ∧ e.sets = none ∧ e.kind ≠ .manage
    ∧ e.state ≠ .spreading ∧ e.state ≠ .working)
  ∧ (e.origin = .broadcast → e.kind = .command ∧ e.station = none ∧ e.state ≠ .queued ∧ e.state ≠ .onLine ∧ e.state ≠ .working
    ∧ ∃ x, e.sets = some x ∧ (e.state = .spreading → emptySet x.pending = false))
  ∧ (e.origin = .manage → e.kind = .manage ∧ e.station = none ∧ e.sets = none ∧ e.state ≠ .onLine ∧ e.state ≠ .spreading)
  ∧ (e.state = .queued → e.attempts = 0)
  ∧ (e.state.isOpen = true → e.reply = none ∧ e.seq = none)
  ∧ (e.state.isOpen = false → e.reply.isSome = true ∧ e.seq.isSome = true)

/-- In a live part every occupied entry stands in exactly the place its state names, and every place names such an entry: a
QUEUED STATION entry in the queue of its route branch, an ON_LINE one bound there (R5, R66), a SPREADING one with a share queued
or bound on each pending branch, bound in GUARD or SENDING alone (R8, R76), a QUEUED MANAGE entry in the agent queue, a WORKING one
in the working reference with the store busy for it (R10, R11, R138), a RETURNING one in the RETURNING list (R14), and an OUTBOUND
one under its frame in the outbound queue (R18, R128). No place names an entry twice. -/
def EntriesPlaced (s : State) : Prop :=
  s.seq.run ≠ .loading →
    (∀ e ∈ s.table.entries, e.shaped)
    ∧ (∀ b, (s.branch b).queue.Nodup
      ∧ (∀ slot, .station slot ∈ (s.branch b).queue ↔ ∃ e r, s.table.find? slot = some e ∧ e.origin = .station
          ∧ e.state = .queued ∧ e.route = some r ∧ r.branch = b)
      ∧ (∀ slot, (s.branch b).bound = some (.station slot) ↔ ∃ e r, s.table.find? slot = some e ∧ e.origin = .station
          ∧ e.state = .onLine ∧ e.route = some r ∧ r.branch = b)
      ∧ (∀ slot, .share slot ∈ (s.branch b).queue ∨ (s.branch b).bound = some (.share slot) ↔ ∃ e x,
          s.table.find? slot = some e ∧ e.origin = .broadcast ∧ e.state = .spreading ∧ e.sets = some x
          ∧ x.pending.get b = true)
      ∧ ∀ slot, (s.branch b).bound = some (.share slot) →
          .share slot ∉ (s.branch b).queue ∧ ((s.branch b).state = .guard ∨ (s.branch b).state = .sending))
    ∧ s.agent.queue.Nodup
    ∧ (∀ slot, slot ∈ s.agent.queue ↔ ∃ e, s.table.find? slot = some e ∧ e.origin = .manage ∧ e.state = .queued)
    ∧ (∀ slot, (∃ w, s.agent.working = some w ∧ w.slot = slot)
        ↔ ∃ e, s.table.find? slot = some e ∧ e.origin = .manage ∧ e.state = .working)
    ∧ (∀ w, s.agent.working = some w → s.store.busy = match w.op with | .save => .saving w.image | .retire => .retiring w.image)
    ∧ s.table.returning.Nodup
    ∧ (∀ slot, slot ∈ s.table.returning ↔ ∃ e, s.table.find? slot = some e ∧ e.state = .returning)
    ∧ (s.up.queue.filterMap fun i => i.note.slot?).Nodup
    ∧ (∀ slot, slot ∈ (s.up.queue.filterMap fun i => i.note.slot?) ↔ ∃ e, s.table.find? slot = some e ∧ e.state = .outbound)
    ∧ ∀ i ∈ s.up.queue, ∀ slot e, i.note.slot? = some slot → s.table.find? slot = some e → e.reply = some i.frame

/-- In a live part nothing waits RETURNING while the outbound queue has a free slot (R14, R18). -/
def ReturningWaits (s : State) : Prop := s.seq.run ≠ .loading → s.table.returning ≠ [] → 8 ≤ s.up.queue.length

/-- A branch line carries a frame exactly while the driver-enable output is high, in SENDING; else it marks (R75, R181, R182). -/
def FramesFollowDrivers (s : State) : Prop :=
  ∀ b, ((s.branch b).frame.isSome = (s.branch b).driver) ∧ ((s.branch b).sendLeft.isSome = (s.branch b).driver)

/-- A branch controller stands as the table of R64 says: an item is bound in GUARD, SENDING, AWAITING and RECEIVING alone,
the driver-enable output is active in SENDING alone, and the receiver is off in DISABLED and SENDING alone; while the part
is held reset or LOADING, drivers and receivers are off (R180 to R182). -/
def LinesFollowStates (s : State) : Prop :=
  ∀ b,
    ((s.branch b).bound.isSome = true ↔
      (s.branch b).state = .guard ∨ (s.branch b).state = .sending ∨ (s.branch b).state = .awaiting
        ∨ (s.branch b).state = .receiving)
    ∧ (if s.seq.run = .loading then (s.branch b).driver = false ∧ (s.branch b).rx = .off
       else ((s.branch b).driver = true ↔ (s.branch b).state = .sending)
         ∧ ((s.branch b).rx = .off ↔ (s.branch b).state = .sending ∨ (s.branch b).state = .disabled))

/-- The counts of a branch and the misses of a slot lie in their ranges (R63, R95): the interrupted-guard count reaches 8 in
FAULT or DISABLED alone. -/
def CountsInRange (s : State) : Prop :=
  (∀ b, (s.branch b).consec ≤ 15 ∧ (s.branch b).interrupts ≤ 8
    ∧ ((s.branch b).interrupts = 8 → (s.branch b).state = .fault ∨ (s.branch b).state = .disabled))
  ∧ ∀ x ∈ s.scan.slots, x.misses ≤ 3

/-- No IDLE branch of a live part has a claimant (R68). -/
def NoIdleClaim (s : State) : Prop :=
  s.seq.run ≠ .loading → ∀ b, (s.branch b).state = .idle →
    (s.branch b).failsafe = [] ∧ (s.branch b).queue = [] ∧ s.overdueClaims b = []

/-- STAT is asserted exactly in the failsafe states, and released while the part is held reset or LOADING (R124). -/
def StatFollows (s : State) : Prop :=
  (s.seq.run ≠ .loading → (s.sup.stat = true ↔ s.sup.state ≠ .normal)) ∧ (s.seq.run = .loading → s.sup.stat = false)

/-- Failsafe items exist in FAILSAFE_SENDING, and there alone (R111, R119). -/
def SendingHasItems (s : State) : Prop := s.sup.state = .failsafeSending ↔ 0 < s.failsafeLeft

/-- The work that failsafe entry must have taken away: outside NORMAL no broadcast share and no controller WRITE or COMMAND is
queued or bound in GUARD, and one that is bound carries the final-attempt mark (R115, R117). -/
def WritesHeldBack (s : State) : Prop :=
  s.sup.state ≠ .normal → ∀ b,
    (∀ q ∈ (s.branch b).queue, s.failsafeTakes q = false)
    ∧ (∀ slot, (s.branch b).bound = some (.share slot) → (s.branch b).state ≠ .guard)
    ∧ (∀ slot, (s.branch b).bound = some (.station slot) → s.claimedByFailsafe slot = true →
        (s.branch b).state ≠ .guard ∧ (s.branch b).finalMark = true)

/-- A station map holds at most 64 records in strictly ascending address order (R29). -/
def MapOrdered (c : ConfigSet) : Prop :=
  c.stations.length ≤ 64 ∧ (c.stations.map fun r => r.addr.toNat).Pairwise (· < ·)

/-- Both sets, and every image of the store, hold an ordered map (R29). -/
def MapsOrdered (s : State) : Prop :=
  MapOrdered s.active ∧ MapOrdered s.shadow ∧ ∀ c ∈ s.store.slots, ∀ image, c.image = some image → MapOrdered image

/-- ACTIVE satisfies validation, as does every image of the store, which was once ACTIVE (R36, R163). -/
def ActiveValid (s : State) : Prop :=
  s.active.offence = none ∧ ∀ c ∈ s.store.slots, ∀ image, c.image = some image → image.offence = none

/-- In a live part the token states are those of the budgeted stations of ACTIVE, in map order, each count at most its depth
(R59). -/
def TokensBounded (s : State) : Prop :=
  s.seq.run ≠ .loading →
    s.tokens.map (fun t => t.addr) = (s.active.stations.filter fun r => r.budget.isSome).map (fun r => r.addr)
    ∧ ∀ t ∈ s.tokens, ∀ r b, s.active.record? t.addr = some r → r.budget = some b → t.count ≤ b.depth

/-- In a live part the slots are those of the scanned stations of ACTIVE, in map order (R95). -/
def SlotsFollowMap (s : State) : Prop :=
  s.seq.run ≠ .loading →
    s.scan.slots.map (fun x => x.addr) = (s.active.stations.filter fun r => r.scan.isSome).map (fun r => r.addr)

/-- The change list holds each station at most once, and exactly those whose slot has its mark set; a slot without a mark
holds what was last collected (R102, R103). -/
def ChangesFollowMarks (s : State) : Prop :=
  (s.scan.slots.map fun x => x.addr).Nodup ∧ s.scan.changes.Nodup
  ∧ (∀ a, a ∈ s.scan.changes ↔ ∃ x ∈ s.scan.slots, x.addr = a ∧ x.mark = true)
  ∧ ∀ x ∈ s.scan.slots, x.mark = false → x.state = x.collState ∧ x.word = x.collWord

/-- The store record agrees with the marks: a slot is BLANK exactly where its header mark is absent, eight slots in all; a save
in progress has its slot WRITING, a retire its slot VALID (R154, R155). -/
def StoreConsistent (s : State) : Prop :=
  s.store.slots.length = 8 ∧ (∀ c ∈ s.store.slots, c.state = .blank ↔ c.header = false)
  ∧ (∀ k, s.store.busy = .saving k → ∃ c, s.store.slot? k = some c ∧ c.state = .writing)
  ∧ (∀ k, s.store.busy = .retiring k → ∃ c, s.store.slot? k = some c ∧ c.state = .valid)

/-- Each slot of the store record follows its marks (R154, R155, R158, R159): a BLANK slot holds none of them; a WRITING one
has its header mark, no verify mark and no retire mark, and is the slot of the save in progress; and a VALID, RETIRED or SPOILED
one is what the table of R155 reads from its marks, but that a VALID slot may hold the retire mark of a cut-off retire while the
part is held reset (R160). The model's choice: a check is lost only at the classification that finds it so, and a cut-off save leaves
WRITING at once (assumption log 12). -/
def MarksAgree (s : State) : Prop :=
  ∀ k c, s.store.slot? k = some c →
    (c.state = .blank → c.header = false ∧ c.verify = false ∧ c.checkGood = false ∧ c.retire = false)
    ∧ (c.state = .writing → c.header = true ∧ c.verify = false ∧ c.retire = false ∧ c.image.isSome = true
        ∧ s.store.busy = .saving k)
    ∧ (c.state = .valid → c.header = true ∧ c.verify = true ∧ c.checkGood = true ∧ c.image.isSome = true
        ∧ (c.retire = true → s.pins.supplyLow = true ∨ s.pins.rstnLow = true))
    ∧ (c.state = .retired → c.header = true ∧ c.verify = true ∧ c.checkGood = true ∧ c.image.isSome = true ∧ c.retire = true)
    ∧ (c.state = .spoiled → c.header = true ∧ (c.verify = false ∨ c.checkGood = false ∨ c.image = none))

/-- The BLANK slots of the store record (R156). -/
def State.blankSlots (s : State) : Nat := s.store.count .blank

end Sys2Proof.Machine
end

