-- ==== Sys2Proof/Certificates/Slice0/Obligations.lean ====
section
/-! DEFINITION. The statements for the provers. -/

open Sys2Proof Sys2Proof.Machine

/-! ### The step -/

/-- A waiting command is taken from the front of the queue and carried out with the queue's rest. -/
def Obligations.StepRunsTheFrontCommand : Prop :=
  ∀ (s : State) (c : Instr) (rest : List Instr), s.pending = c :: rest → step s = exec c { s with pending := rest }

/-- The command of the take of each operation, by its number (R142). -/
def takeCommands : List (Octet × Instr) :=
  [(0x01#8, .getIdentity), (0x02#8, .getStartRecord), (0x03#8, .getSettings), (0x04#8, .putSettings), (0x05#8, .getStation),
   (0x06#8, .putStation), (0x07#8, .dropStation), (0x08#8, .listStations), (0x09#8, .revertShadow), (0x0A#8, .clearShadow),
   (0x0B#8, .commit), (0x0C#8, .getChanges), (0x0D#8, .peekStatus), (0x0E#8, .getCounters), (0x0F#8, .clearCounters),
   (0x10#8, .getBranch), (0x11#8, .getTransactions), (0x12#8, .saveImage), (0x13#8, .retireImage), (0x14#8, .getStore),
   (0x15#8, .resume), (0x16#8, .forceFailsafe), (0x17#8, .getFailsafeReport), (0x18#8, .restart)]

/-- In a live part the own events are due exactly where their timers have run out: silence and refill timers, due times, the
transmitter, guards and waits, sendings, deadlines and probes; the take of the agent where its service timer has run out; and the GAP
of a frame 3 char after its last octet, with no further start bit taken (R60, R72, R73, R75, R78, R88, R96, R113, R130, R131, R139,
R179). -/
def ExpiredTimersAreDue (s : State) : Prop :=
  (.silenceExpiry ∈ s.due ↔ s.sup.state = .normal ∧ s.sup.silence = some 0)
  ∧ (∀ a, .refillExpiry a ∈ s.due ↔ ∃ x ∈ s.tokens, x.addr = a ∧ x.timer = some 0)
  ∧ (∀ a, .slotDue a ∈ s.due ↔
      ∃ x ∈ s.scan.slots, x.addr = a ∧ ∃ due, x.schedule = .waiting due ∧ (s.clock.ms - due).toNat < 2 ^ 31)
  ∧ (.endOfTransmission ∈ s.due ↔ s.up.tx = .sending 0) ∧ (.endOfSpacing ∈ s.due ↔ s.up.tx = .spacing 0)
  ∧ (∀ slot e op c args, (op, c) ∈ takeCommands → Takes s slot e (op :: args) → c ∈ s.due)
  ∧ (∀ slot e p, (p = [] ∨ ∃ op args, p = op :: args ∧ ∀ c, (op, c) ∉ takeCommands) → Takes s slot e p → .badOperation ∈ s.due)
  ∧ (.upstreamGap ∈ s.due ↔
      ∃ os quiet straddle, s.up.rx = .inside os quiet straddle false ∧ 3 * s.up.rate.charPeriods ≤ quiet)
  ∧ ∀ b, let x := s.branch b
    (.guardComplete b ∈ s.due ↔ x.state = .guard ∧ x.phase = .running 0)
    ∧ (.guardQuietWaitExpiry b ∈ s.due ↔ x.state = .guard ∧ x.phase = .waiting 0)
    ∧ (.branchEndOfSending b ∈ s.due ↔ x.state = .sending ∧ x.sendLeft = some 0)
    ∧ (.replyDeadlineExpiry b ∈ s.due ↔
        (x.state = .awaiting ∨ x.state = .receiving) ∧ x.deadline = some 0 ∧ x.deadlinePassed = false)
    ∧ (.probeTimerExpiry b ∈ s.due ↔ x.state = .fault ∧ x.probeTimer = some 0)
    ∧ (.probeQuietEnd b ∈ s.due ↔ x.state = .fault ∧ x.probeQuiet = some 0)
    ∧ (.branchGap b ∈ s.due ↔ ∃ os quiet straddle, x.rx = .inside os quiet straddle false ∧ 3 * x.rate.charPeriods ≤ quiet)

/-- From `r` to `t` the receiver has had one clock period more of quiet since the last octet of its frame (R179); outside a frame, or
off, it is as it was. -/
def QuietGrows (r t : Receiver) : Prop :=
  (∀ os quiet straddle begun, r = .inside os quiet straddle begun → t = .inside os (quiet + 1) straddle begun)
  ∧ (r = .outside → t = .outside) ∧ (r = .off → t = .off)

/-- From `s` to `t` one clock period passes in a live part: every timer has one period less, stopping at 0, what is stopped stays
so, and the millisecond count advances with each 18432 periods (R2). -/
def PeriodPasses (s t : State) : Prop :=
  (s.clock.phase + 1 < 18432 → t.clock = { s.clock with phase := s.clock.phase + 1 })
  ∧ (18432 ≤ s.clock.phase + 1 → t.clock = { ms := s.clock.ms + 1#32, phase := 0 })
  ∧ t.sup = { s.sup with silence := s.sup.silence.map fun n => n - 1 }
  ∧ t.tokens = s.tokens.map (fun x => { x with timer := x.timer.map fun n => n - 1 })
  ∧ (∀ b, let x := s.branch b
      (∀ n, x.phase = .running n → (t.branch b).phase = .running (n - 1))
      ∧ (∀ n, x.phase = .waiting n → (t.branch b).phase = .waiting (n - 1))
      ∧ (x.phase = .stopped → (t.branch b).phase = .stopped)
      ∧ QuietGrows x.rx (t.branch b).rx
      ∧ t.branch b = { x with
          phase := (t.branch b).phase, rx := (t.branch b).rx, sendLeft := x.sendLeft.map (fun n => n - 1)
          deadline := x.deadline.map (fun n => n - 1), probeTimer := x.probeTimer.map (fun n => n - 1)
          probeQuiet := x.probeQuiet.map (fun n => n - 1) })
  ∧ (∀ n, s.up.tx = .sending n → t.up.tx = .sending (n - 1)) ∧ (∀ n, s.up.tx = .spacing n → t.up.tx = .spacing (n - 1))
  ∧ (s.up.tx = .idle → t.up.tx = .idle)
  ∧ QuietGrows s.up.rx t.up.rx ∧ t.up = { s.up with rx := t.up.rx, tx := t.up.tx }
  ∧ (∀ n, s.agent.service = .serving n → t.agent.service = .serving (n - 1))
  ∧ (s.agent.service = .idle → t.agent.service = .idle)
  ∧ t.agent = { s.agent with service := t.agent.service }
  ∧ t = { s with clock := t.clock, sup := t.sup, tokens := t.tokens, branches := t.branches, up := t.up
                 agent := t.agent, pins := { s.pins with cfgenAge := min 19 (s.pins.cfgenAge + 1) } }

/-- From `s` to `t` the start bit of the next octet is taken on a line whose gap timer expires just then, before the expiry: the octet
belongs to the frame, and the timer no longer runs (R179). -/
def StartBitIsTaken (s t : State) : Prop :=
  (∃ os quiet straddle, .upstreamGap ∈ s.due ∧ s.up.rx = .inside os quiet straddle false
    ∧ t = { s with up := { s.up with rx := .inside os quiet straddle true } })
  ∨ ∃ b os quiet straddle, .branchGap b ∈ s.due ∧ (s.branch b).rx = .inside os quiet straddle false
    ∧ t = s.setBranch b { s.branch b with rx := .inside os quiet straddle true }

/-- The octet whose start bit was taken on some line has reached its end: 1 char after the 3 char of the gap timer, or at the latest end
of an octet from before a change of rate (R169, R179; assumption log 6). -/
def OctetIsAwaited (s : State) : Prop :=
  (∃ os quiet straddle, s.up.rx = .inside os quiet straddle true ∧ max (4 * s.up.rate.charPeriods) straddle ≤ quiet)
  ∨ ∃ b os quiet straddle, (s.branch b).rx = .inside os quiet straddle true
    ∧ max (4 * (s.branch b).rate.charPeriods) straddle ≤ quiet

/-- With no command waiting, one own event that is due is carried out, and with none due one clock period passes: every timer
of a live part has one period less, and the millisecond count advances each 18432 periods (R2). In a part held reset or LOADING no
timer advances (R181); only how long CFGEN has kept its level counts on, a fact of the pin (assumption logs 4 and 14). Every timer that has run out makes
its event due: silence, refill, guard and wait, sending, deadline, probe, transmitter and service timers, and the due times of
slots, compared modulo 2^32 (the model's reading, assumption log 7). The gap timer of a frame expires exactly 3 char after its last
octet, and no time passes before its GAP or the start bit that meets it has been taken: which of the two is first a free value decides,
once for that octet (R179). An octet so begun belongs to the frame, and time waits at its end for the command that brings it. The step
on an empty queue is the model's choice (assumption logs 4 and 6). -/
def Obligations.IdleStepsTakeEventsOrTime : Prop :=
  ∀ s : State, s.pending = [] →
    let u : State := { s with free := s.free + 1 }
    (∀ c, s.due = [c] → c ≠ .upstreamGap → (∀ b, c ≠ .branchGap b) → step s = exec c s)
    ∧ (2 ≤ s.due.length ∨ .upstreamGap ∈ s.due ∨ (∃ b, .branchGap b ∈ s.due) →
        (∃ c ∈ s.due, step s = exec c u) ∨ ∃ t, step s = .next t ∧ StartBitIsTaken u t)
    ∧ (s.seq.run ≠ .loading → ExpiredTimersAreDue s)
    ∧ (s.due = [] → s.seq.run ≠ .loading → OctetIsAwaited s → step s = .next s)
    ∧ (s.due = [] → s.seq.run ≠ .loading → ¬ OctetIsAwaited s → ∃ t, step s = .next t ∧ PeriodPasses s t)
    ∧ (s.seq.run = .loading → step s = .next { s with pins := { s.pins with cfgenAge := min 19 (s.pins.cfgenAge + 1) } })

/-- An event that is due by the timers is never refused: it is carried out, or stops where a slot that
is named is free. The premises are the conditions of the statements `StepsKeepLines`, `StepsKeepQueues`,
`StepsKeepConfigurations`, `StepsKeepTokens` and `StepsKeepSlotsAndChanges`. Where every entry stands in its place, the condition
of `StepsKeepTagsDistinct`, it is always carried out. Which events are due is the model's reading (assumption log 4). -/
def Obligations.DueEventsComeAbout : Prop :=
  ∀ (s : State) (c : Instr), LinesFollowStates s → QueuesBounded s → MapsOrdered s → TokensBounded s → SlotsFollowMap s →
    c ∈ s.due → ((∃ t, exec c s = .next t) ∨ exec c s = .fault .entryLost) ∧ (EntriesPlaced s → ∃ t, exec c s = .next t)

/-- Whatever a command does, it leaves the queue of the waiting commands alone. The spec has no such queue, and 0.6 says
only that events take place one at a time: the queue is the model's own, and that no command changes it is the model's choice
(assumption log 20). -/
def Obligations.CommandsLeaveTheQueue : Prop :=
  ∀ (c : Instr) (s t : State), exec c s = .next t → t.pending = s.pending

/-! ### Frames and layouts -/

/-- The octets of a frame as sent, taken one after another by a receiver outside a frame, end VALID with that frame at the last
octet and at none before, and leave the receiver outside a frame (R170, R171, R179). -/
def Obligations.FramesRoundTrip : Prop :=
  ∀ f : Frame, f.payload.length ≤ 64 → ∃ first : List Reception,
    Receiver.feed .outside f.octets = (first ++ [.valid f], .outside)
    ∧ first.head? = some .started ∧ ∀ x ∈ first.tail, x = .stored

/-- The codes of the fields that name a state or a choice (R169, R174). -/
def FieldCodes : Prop :=
  [SupState.normal, .failsafeSending, .failsafeHeld].map SupState.octet = [0x00#8, 0x01#8, 0x02#8]
  ∧ [EntryCause.none, .silence, .forced, .start].map EntryCause.octet = [0x00#8, 0x01#8, 0x02#8, 0x03#8]
  ∧ [LineOutcome.pending, .ok, .noAnswer, .skipped].map LineOutcome.octet = [0x00#8, 0x01#8, 0x02#8, 0x03#8]
  ∧ [ScanState.unknown, .online, .offline].map ScanState.octet = [0x00#8, 0x01#8, 0x02#8]
  ∧ [BranchState.disabled, .idle, .guard, .sending, .awaiting, .receiving, .fault].map BranchState.octet
      = [0x00#8, 0x01#8, 0x02#8, 0x03#8, 0x04#8, 0x05#8, 0x06#8]
  ∧ [Origin.station, .broadcast, .manage].map Origin.octet = [0x00#8, 0x01#8, 0x02#8]
  ∧ [EntryState.queued, .onLine, .spreading, .working, .returning, .outbound].map EntryState.octet
      = [0x00#8, 0x01#8, 0x02#8, 0x03#8, 0x04#8, 0x05#8]
  ∧ [SlotState.blank, .writing, .valid, .retired, .spoiled].map SlotState.octet = [0x00#8, 0x01#8, 0x02#8, 0x03#8, 0x04#8]
  ∧ [StartCause.power, .line, .mgmtCold, .mgmtWarm].map StartCause.octet = [0x01#8, 0x02#8, 0x03#8, 0x04#8]
  ∧ [Busy.idle, .saving 6, .retiring 7].map Busy.octets = [[0x00#8, 0xFF#8], [0x01#8, 0x06#8], [0x02#8, 0x07#8]]
  ∧ [ReqKind.read, .write, .command, .status, .manage].map ReqKind.octet = [0x10#8, 0x11#8, 0x12#8, 0x13#8, 0x1F#8]
  ∧ [ActionKind.write, .command].map ActionKind.octet = [0x11#8, 0x12#8]
  ∧ [UpRate.r115200, .r230400, .r460800, .r921600, .r1843200].map UpRate.octet = [0x00#8, 0x01#8, 0x02#8, 0x03#8, 0x04#8]
  ∧ [BranchRate.r9600, .r19200, .r38400, .r57600, .r115200, .r230400, .r460800].map BranchRate.octet
      = [0x00#8, 0x01#8, 0x02#8, 0x03#8, 0x04#8, 0x05#8, 0x06#8]

/-- CHECK over the nine characters "123456789" is 29B1h, and the STATUS poll of station 33 with tag 07h from FEh is eight
octets, START first, LEN 0, CHECK last (R170, R171). The codes of R169 and R174, table by table; and the octets of the factory
settings and of one record with all its optional parts (R23, R177, R178). -/
def Obligations.CheckOfTheExample : Prop :=
  crc [0x31#8, 0x32#8, 0x33#8, 0x34#8, 0x35#8, 0x36#8, 0x37#8, 0x38#8, 0x39#8] = 0x29B1#16
  ∧ (Frame.octets { dest := 33#8, src := 0xFE#8, tag := 0x07#8, kind := 0x13#8, payload := [] }).take 6
      = [0xC3#8, 33#8, 0xFE#8, 0x07#8, 0x13#8, 0x00#8]
  ∧ (Frame.octets { dest := 33#8, src := 0xFE#8, tag := 0x07#8, kind := 0x13#8, payload := [] }).length = 8
  ∧ FieldCodes
  ∧ factoryConfig.settings.octets =
      [0xFE#8, 0x02#8, 0x01#8, 0x04#8, 0x04#8, 0x04#8, 0x01#8, 0x04#8, 0x04#8, 0x04#8, 0x01#8, 0x04#8, 0x04#8, 0x04#8,
       0x01#8, 0x04#8, 0x04#8, 0x04#8, 0x00#8, 0x00#8, 0x00#8]
  ∧ StationRecord.octets
      { addr := 33#8, branch := .b2, classes := ⟨true, false, true, false⟩, timeout := 300, retries := 3, budget := some ⟨5, 200⟩
        windows := some [⟨1, 258⟩], scan := some 600, failsafe := some ⟨.command, [0x09#8, 0x08#8]⟩ } =
      [0x21#8, 0x02#8, 0x05#8, 0x01#8, 0x2C#8, 0x03#8, 0x0F#8, 0x05#8, 0xC8#8, 0x01#8, 0x00#8, 0x01#8, 0x01#8, 0x02#8,
       0x02#8, 0x58#8, 0x12#8, 0x02#8, 0x09#8, 0x08#8]

/-- The settings layout carries every settings group whose settings are in range, and reads back to it (R23, R177). The
record layout carries every record whose fields are in range, and reads back to it; 7 to 62 octets (R24 to R28, R178). -/
def Obligations.LayoutsRoundTrip : Prop :=
  (∀ c : Settings, c.inRange = true → settings? c.octets = some c ∧ c.octets.length = 21)
  ∧ (∀ r : StationRecord, r.inRange = true →
      stationRecord? r.octets = some r ∧ 7 ≤ r.octets.length ∧ r.octets.length ≤ 62)


/-- The request shapes of R50, kind by kind, and the window check of R51. -/
def Obligations.RequestShapesAndWindows : Prop :=
  (∀ p, shapeOk .read p = true ↔ ∃ hi lo count : Octet, p = [hi, lo, count] ∧ 1 ≤ count.toNat ∧ count.toNat ≤ 30
      ∧ hi.toNat * 256 + lo.toNat + count.toNat - 1 ≤ 65535)
  ∧ (∀ p, shapeOk .write p = true ↔ ∃ (hi lo count : Octet) (values : List Octet), p = hi :: lo :: count :: values
      ∧ p.length = 3 + 2 * count.toNat ∧ 1 ≤ count.toNat ∧ count.toNat ≤ 30
      ∧ hi.toNat * 256 + lo.toNat + count.toNat - 1 ≤ 65535)
  ∧ (∀ p, shapeOk .command p = true ↔ 1 ≤ p.length ∧ p.length ≤ 33)
  ∧ (∀ p, shapeOk .status p = true ↔ p = [])
  ∧ (∀ p, windowsAllow none p = true)
  ∧ (∀ p, windowsAllow (some []) p = false)
  ∧ ∀ (ws : List Window) (hi lo count : Octet) (values : List Octet),
      shapeOk .write (hi :: lo :: count :: values) = true →
      (windowsAllow (some ws) (hi :: lo :: count :: values) = true ↔
        ∃ w ∈ ws, w.first ≤ hi.toNat * 256 + lo.toNat ∧ hi.toNat * 256 + lo.toNat + count.toNat - 1 ≤ w.last)

/-! ### Upstream reception -/

/-- UPSTREAM_FRAME_OCTET: an octet C3h outside a frame starts one; an octet inside a frame that does not decide it is stored;
either sets the gap timer to the full 3 char (kept as elapsed quiet, the model's choice, assumption log 6). UPSTREAM_NOISE,
UPSTREAM_LENGTH, UPSTREAM_CHECK and UPSTREAM_GAP: the octet or frame is counted under its outcome and dropped; nothing else changes,
the silence timer included (R112, R133, R179). A receiver that is off takes no octet (the model's reading, assumption log 19). The five
octet commands do the same with the same octet, whichever outcome they name, and the octet of a command belongs to the frame in
assembly, its start bit having come before the expiry; UPSTREAM_GAP is refused outside a frame, before 3 char have passed, and after
the start bit of the next octet (the model's choice, assumption logs 3 and 6). -/
def Obligations.UpstreamReceptionCounts : Prop :=
  (∀ s : State,
      (s.up.rx = .outside →
        exec (.upstreamFrameOctet 0xC3#8) s = .next { s with up := { s.up with rx := .inside [0xC3#8] 0 0 false } })
      ∧ (∀ os quiet straddle begun o, s.up.rx = .inside os quiet straddle begun →
          (os.length = 5 → o.toNat ≤ 64) → (6 ≤ os.length → os.length + 1 ≠ 8 + (os.getD 5 0#8).toNat) →
          exec (.upstreamFrameOctet o) s = .next { s with up := { s.up with rx := .inside (os ++ [o]) 0 0 false } })
      ∧ (∀ o c, c ∈ [Instr.validIn o, .upstreamCheck o, .upstreamLength o, .upstreamNoise o, .upstreamFrameOctet o] →
          (s.up.rx = .off → exec c s = .next s) ∧ exec c s = exec (.upstreamNoise o) s)
      ∧ ((∀ os quiet straddle, s.up.rx = .inside os quiet straddle false → quiet < 3 * s.up.rate.charPeriods) →
          exec .upstreamGap s = .refused .timerOtherwise))
  ∧ (∀ s : State,
      (∀ o, s.up.rx = .outside → o ≠ 0xC3#8 → exec (.upstreamNoise o) s =
        .next { s with up := { s.up with counters := { s.up.counters with noise := bump s.up.counters.noise } } })
      ∧ (∀ os quiet straddle begun o, s.up.rx = .inside os quiet straddle begun → os.length = 5 → 64 < o.toNat →
        exec (.upstreamLength o) s =
          .next { s with up := { s.up with rx := .outside
                                           counters := { s.up.counters with length := bump s.up.counters.length } } })
      ∧ (∀ f o, s.up.Breaks f o → exec (.upstreamCheck o) s =
        .next { s with up := { s.up with rx := .outside
                                         counters := { s.up.counters with check := bump s.up.counters.check } } })
      ∧ (∀ os quiet straddle, s.up.rx = .inside os quiet straddle false → 3 * s.up.rate.charPeriods ≤ quiet →
        exec .upstreamGap s = .next { s with up := { s.up with rx := .outside, counters := { s.up.counters with gap := bump s.up.counters.gap } } }))


/-- VALID_IN in RESTART_PENDING: the frame is counted VALID_IN and DISCARD_RESTART, restarts the silence timer, and does
nothing else (R135). VALID_IN: a frame whose DEST is 0 or whose KIND is none of 10h, 11h, 12h, 13h and 1Fh changes,
beyond its reception, nothing but the DISCARD counter (R46). -/
def Obligations.FramesWithoutEffectAreDropped : Prop :=
  (∀ (s : State) (f : Frame) (o : Octet), s.seq.run = .restartPending → s.up.Arrives f o →
      exec (.validIn o) s = .next { s.heard with up := { s.heard.up with
        counters := { s.heard.up.counters with discardRestart := bump s.up.counters.discardRestart } } })
  ∧ (∀ (s : State) (f : Frame) (o : Octet), s.seq.run = .running → s.up.Arrives f o →
      (f.dest = 0#8 ∨ f.kind ∉ [0x10#8, 0x11#8, 0x12#8, 0x13#8, 0x1F#8]) →
      exec (.validIn o) s = .next { s.heard with up := { s.heard.up with
        counters := { s.heard.up.counters with discard := bump s.up.counters.discard } } })

/-! ### Admission -/


/-- VALID_IN: steps 2 and 3 of the chain. A request to OWN_ADDR that is not MANAGE, and a MANAGE to any other address, are
refused FORMAT; outside NORMAL a WRITE or COMMAND to any other address is refused FAILSAFE (R47, R48, R58). -/
def Obligations.DestinationAndFailsafeRefusals : Prop :=
  ∀ (s : State) (f : Frame) (o : Octet), s.seq.run = .running → s.up.Arrives f o → f.dest ≠ 0#8 →
    (f.kind ∈ [0x10#8, 0x11#8, 0x12#8, 0x13#8] → f.dest = s.active.settings.ownAddr →
      exec (.validIn o) s = .next (s.heard.refusedWith f 0x03#8))
    ∧ (f.kind = 0x1F#8 → f.dest ≠ s.active.settings.ownAddr →
      exec (.validIn o) s = .next (s.heard.refusedWith f 0x03#8))
    ∧ (f.kind ∈ [0x11#8, 0x12#8] → f.dest ≠ s.active.settings.ownAddr → s.sup.state ≠ .normal →
      exec (.validIn o) s = .next (s.heard.refusedWith f 0x09#8))

/-- A station request has passed steps 1 to 4 of the chain: kind `k`, neither to 0, to 255 nor to OWN_ADDR, and no WRITE or
COMMAND outside NORMAL. -/
def StationRequest (s : State) (f : Frame) (o : Octet) (k : ReqKind) : Prop :=
  s.seq.run = .running ∧ s.up.Arrives f o ∧ k ≠ .manage ∧ f.kind = k.octet ∧ f.dest ≠ 0#8 ∧ f.dest ≠ 0xFF#8
  ∧ f.dest ≠ s.active.settings.ownAddr ∧ (s.sup.state = .normal ∨ k = .read ∨ k = .status)

/-- VALID_IN: steps 5 to 9d of the chain for a station request, each refusal with its reason where every check before it has
passed: UNKNOWN_STATION, CLASS, FORMAT, WINDOW, LINE_FAULT, TAG_IN_USE, BUSY, RATE (R49 to R54, R58). -/
def Obligations.StationRequestRefusals : Prop :=
  ∀ (s : State) (f : Frame) (o : Octet) (k : ReqKind), StationRequest s f o k →
    (s.active.record? f.dest = none → exec (.validIn o) s = .next (s.heard.refusedWith f 0x01#8))
    ∧ ∀ r, s.active.record? f.dest = some r →
      (r.classes.allows k = false → exec (.validIn o) s = .next (s.heard.refusedWith f 0x02#8))
      ∧ (r.classes.allows k = true →
        (shapeOk k f.payload = false → exec (.validIn o) s = .next (s.heard.refusedWith f 0x03#8))
        ∧ (shapeOk k f.payload = true →
          (k = .write → windowsAllow r.windows f.payload = false →
            exec (.validIn o) s = .next (s.heard.refusedWith f 0x04#8))
          ∧ ((k = .write → windowsAllow r.windows f.payload = true) →
            ((s.branch r.branch).state = .fault ∨ (s.branch r.branch).state = .disabled →
              exec (.validIn o) s = .next (s.heard.refusedWith f 0x05#8))
            ∧ ((s.branch r.branch).state ≠ .fault → (s.branch r.branch).state ≠ .disabled →
              ((∃ e ∈ s.table.entries, e.tag = f.tag) → exec (.validIn o) s = .next (s.heard.refusedWith f 0x06#8))
              ∧ ((∀ e ∈ s.table.entries, e.tag ≠ f.tag) →
                ((∀ n, n < 24 → ∃ e ∈ s.table.entries, e.slot = n) ∨ 8 ≤ (s.branch r.branch).queue.length →
                  exec (.validIn o) s = .next (s.heard.refusedWith f 0x07#8))
                ∧ (∀ slot, slot < 24 → (∀ e ∈ s.table.entries, e.slot ≠ slot) →
                  (s.branch r.branch).queue.length < 8 → r.budget.isSome = true → s.tokenCount f.dest = 0 →
                  exec (.validIn o) s = .next (s.heard.refusedWith f 0x08#8)))))))

/-- The slot is the lowest-numbered free one (R1). -/
def LowestFree (s : State) (slot : Nat) : Prop :=
  slot < 24 ∧ (∀ e ∈ s.table.entries, e.slot ≠ slot) ∧ ∀ n, n < slot → ∃ e ∈ s.table.entries, e.slot = n

/-- The fields that allocation fills (R2). -/
def allocated (s : State) (slot : Nat) (f : Frame) (origin : Origin) (k : ReqKind) (station : Option Octet)
    (route : Option Route) (sets : Option BroadcastSets) (st : EntryState) : Entry :=
  { slot := slot, tag := f.tag, ctrl := f.src, origin := origin, kind := k, station := station, route := route, sets := sets
    payload := f.payload, attempts := 0, lastCause := none, state := st, reply := none, admitted := s.clock.ms, seq := none }

/-- From `s` to `t` one entry has been allocated, and ADMITTED has counted (R1, R20). -/
def Allocates (s t : State) (e : Entry) : Prop :=
  t.table.find? e.slot = some e ∧ (∀ n, n ≠ e.slot → t.table.find? n = s.table.find? n)
  ∧ t.table.returning = s.table.returning ∧ t.table.nextSeq = s.table.nextSeq
  ∧ t.table.counters = { s.table.counters with admitted := bump s.table.counters.admitted }

/-- VALID_IN: a station request that passes every check is admitted (R54, R2, R60, R68, R71): one token is taken where there is
a budget, the lowest free slot is filled, and the entry stands at the tail of its branch's queue QUEUED, or, where the branch
was IDLE, is picked at once, ON_LINE in GUARD. The premise on IDLE branches is `NoIdleClaim`. What a pick leaves of a frame in
assembly on the branch is the model's choice (assumption log 6). -/
def Obligations.StationRequestIsAdmitted : Prop :=
  ∀ (s : State) (f : Frame) (o : Octet) (k : ReqKind) (r : StationRecord) (slot : Nat), StationRequest s f o k →
    NoIdleClaim s → s.active.record? f.dest = some r → r.classes.allows k = true → shapeOk k f.payload = true →
    (k = .write → windowsAllow r.windows f.payload = true) →
    (s.branch r.branch).state ≠ .fault → (s.branch r.branch).state ≠ .disabled →
    (∀ e ∈ s.table.entries, e.tag ≠ f.tag) → LowestFree s slot → (s.branch r.branch).queue.length < 8 →
    (r.budget.isSome = true → 1 ≤ s.tokenCount f.dest) →
    ∃ t, exec (.validIn o) s = .next t
      ∧ t = { s.heard with table := t.table, tokens := t.tokens, branches := t.branches }
      ∧ (r.budget = none → t.tokens = s.tokens)
      ∧ (∀ b, r.budget = some b → t.tokens = s.tokens.map fun x =>
          if x.addr = f.dest then
            { x with count := x.count - 1
                     timer := if x.count = b.depth then some (b.refill * 10 * 18432) else x.timer }
          else x)
      ∧ (∀ b, b ≠ r.branch → t.branch b = s.branch b)
      ∧ ((s.branch r.branch).state ≠ .idle →
          Allocates s t (allocated s slot f .station k (some f.dest) (some ⟨r.branch, r.timeout, r.retries⟩) none .queued)
          ∧ t.branch r.branch = { s.branch r.branch with queue := (s.branch r.branch).queue ++ [.station slot] })
      ∧ ((s.branch r.branch).state = .idle →
          Allocates s t (allocated s slot f .station k (some f.dest) (some ⟨r.branch, r.timeout, r.retries⟩) none .onLine)
          ∧ t.branch r.branch =
              { (s.branch r.branch).pickedFor (s.branchSettings r.branch) s.active.settings.ownAddr (.station slot) with
                consec := min 15 ((s.branch r.branch).consec + 1) })

/-- VALID_IN: a management request is refused TAG_IN_USE or BUSY in that order, or is admitted to the tail of the agent queue,
whose first entry starts a service time of 10 µs to 100 µs (R55, R139). That the time is a free value is the model's choice
(assumption log 2), and that its range is 185 to 1843 periods of the clock is the model's reading (assumption log 14). -/
def Obligations.ManagementRequestAdmission : Prop :=
  ∀ (s : State) (f : Frame) (o : Octet), s.seq.run = .running → s.up.Arrives f o → f.dest ≠ 0#8 →
    f.dest = s.active.settings.ownAddr → f.kind = 0x1F#8 →
    ((∃ e ∈ s.table.entries, e.tag = f.tag) → exec (.validIn o) s = .next (s.heard.refusedWith f 0x06#8))
    ∧ ((∀ e ∈ s.table.entries, e.tag ≠ f.tag) →
      ((∀ n, n < 24 → ∃ e ∈ s.table.entries, e.slot = n) ∨ 4 ≤ s.agent.queue.length →
        exec (.validIn o) s = .next (s.heard.refusedWith f 0x07#8))
      ∧ (∀ slot, LowestFree s slot → s.agent.queue.length < 4 →
        ∃ t, exec (.validIn o) s = .next t
          ∧ t = { s.heard with table := t.table, agent := t.agent, free := t.free }
          ∧ Allocates s t (allocated s slot f .manage .manage none none none .queued)
          ∧ t.agent.queue = s.agent.queue ++ [slot] ∧ t.agent.working = s.agent.working
          ∧ (s.agent.queue ≠ [] → t.agent.service = s.agent.service ∧ t.free = s.free)
          ∧ (s.agent.queue = [] →
              t.agent.service = .serving (185 + (Config.serviceSlack s.free).val) ∧ t.free = s.free + 1)))

/-- VALID_IN: a broadcast that passes steps 1 to 3 is refused NO_BROADCAST, FORMAT, NO_BROADCAST, TAG_IN_USE or BUSY in that
order, or is admitted SPREADING with a share at the tail of the queue of every eligible branch, or picked at once where that
branch was IDLE (R56, R57, R68, R71). The premise on IDLE branches is `NoIdleClaim`. What a pick leaves of a frame in
assembly on the branch is the model's choice (assumption log 6). -/
def Obligations.BroadcastAdmission : Prop :=
  ∀ (s : State) (f : Frame) (o : Octet) (k : ReqKind), s.seq.run = .running → s.up.Arrives f o → k ≠ .manage →
    f.kind = k.octet → f.dest = 0xFF#8 → f.dest ≠ s.active.settings.ownAddr →
    (s.sup.state = .normal ∨ k = .read ∨ k = .status) →
    let eligible (b : BranchId) : Bool :=
      (s.branchSettings b).enabled && (s.branchSettings b).bcast && (s.branch b).state != .fault
    let refusal (code : Octet) : Prop := exec (.validIn o) s = .next (s.heard.refusedWith f code)
    (k ≠ .command → refusal 0x0A#8)
    ∧ (k = .command → (f.payload = [] ∨ 33 < f.payload.length) → refusal 0x03#8)
    ∧ (k = .command → f.payload ≠ [] → f.payload.length ≤ 33 →
      ((∀ b, eligible b = false) → refusal 0x0A#8)
      ∧ ((∃ b, eligible b = true) →
        ((∃ e ∈ s.table.entries, e.tag = f.tag) → refusal 0x06#8)
        ∧ ((∀ e ∈ s.table.entries, e.tag ≠ f.tag) →
          ((∀ n, n < 24 → ∃ e ∈ s.table.entries, e.slot = n)
              ∨ (∃ b, eligible b = true ∧ 8 ≤ (s.branch b).queue.length) → refusal 0x07#8)
          ∧ (∀ slot, LowestFree s slot → (∀ b, eligible b = true → (s.branch b).queue.length < 8) → NoIdleClaim s →
            ∃ t, exec (.validIn o) s = .next t ∧ t = { s.heard with table := t.table, branches := t.branches }
              ∧ Allocates s t (allocated s slot f .broadcast .command none none
                  (some { pending := ⟨eligible .b0, eligible .b1, eligible .b2, eligible .b3⟩
                          sent := Quad.same false, notSent := Quad.same false }) .spreading)
              ∧ ∀ b, (eligible b = false → t.branch b = s.branch b)
                ∧ (eligible b = true → (s.branch b).state ≠ .idle →
                    t.branch b = { s.branch b with queue := (s.branch b).queue ++ [.share slot] })
                ∧ (eligible b = true → (s.branch b).state = .idle →
                    t.branch b =
                      { (s.branch b).pickedFor (s.branchSettings b) s.active.settings.ownAddr (.share slot) with
                        consec := min 15 ((s.branch b).consec + 1) })))))

/-! ### The transmitter and the starts -/

/-- END_OF_TRANSMISSION of an answer or a refusal (R18, R131, R132): the item leaves the queue, FRAMES_OUT counts, the
entry of an answer is freed, the line takes UP_RATE of ACTIVE after a COMMIT answer, in both directions, with a frame in
assembly left so and an octet under way received at the old rate (R180), 2 char of spacing begin; and the oldest RETURNING
entry, if there is one, goes to the tail of the queue (R14). How the receiver keeps that, the time gone since its last octet kept as
time and a latest end for the octet under way, is the model's choice (assumption log 6). END_OF_SPACING: transmission of the head
frame, 8 + LEN char, begins, or the transmitter becomes IDLE (R130). -/
def Obligations.TransmissionAndSpacingEnd : Prop :=
  (∀ (s : State) (i : OutItem) (rest : List OutItem), s.seq.run ≠ .loading → s.up.tx = .sending 0 → s.up.queue = i :: rest →
      (∀ k x, i.note ≠ .entryRestart k x) →
      let rate := match i.note with
        | .entryRate _ => s.active.settings.upRate
        | _ => s.up.rate
      let entries := match i.note with
        | .entry k | .entryRate k => s.table.entries.filter fun e => e.slot != k
        | _ => s.table.entries
      let rx := match i.note with
        | .entryRate _ => s.up.rx.overChange s.up.rate.charPeriods
        | _ => s.up.rx
      let line (queue : List OutItem) : Upstream :=
        { s.up with queue := queue, rate := rate, rx := rx, tx := .spacing (2 * rate.charPeriods)
                    counters := { s.up.counters with framesOut := bump s.up.counters.framesOut } }
      (s.table.returning = [] → exec .endOfTransmission s =
        .next { s with table := { s.table with entries := entries }, up := line rest })
      ∧ (∀ slot more e g, s.table.returning = slot :: more → entries.find? (fun e => e.slot == slot) = some e →
          e.reply = some g → exec .endOfTransmission s =
        .next { s with
          table := { s.table with
            entries := entries.map (fun x => if x.slot = slot then { x with state := .outbound } else x), returning := more }
          up := line (rest ++ [{ frame := g, note := releaseNote e g }]) }))
  ∧ (∀ s : State, s.seq.run ≠ .loading → s.up.tx = .spacing 0 →
      (s.up.queue = [] → exec .endOfSpacing s = .next { s with up := { s.up with tx := .idle } })
      ∧ ∀ i rest, s.up.queue = i :: rest → exec .endOfSpacing s =
        .next { s with up := { s.up with tx := .sending ((8 + i.frame.payload.length) * s.up.rate.charPeriods) } })


/-- END_OF_TRANSMISSION of the answer to RESTART WARM: the warm start of R166, block by block (R2, R21, R59, R94, R110, R126,
R137, R146, R167), a branch with its receiver outside a frame, or off where it is not ENABLED, and nothing bound but a poll picked in
the same event, each report line still PENDING made SKIPPED with the attempts its item had reached, 0 for one only listed, and
the other lines kept; the answer to RESTART COLD: a cold start with cause MGMT_COLD begins (R163). The model's choices: the
millisecond count begins with a whole millisecond, clock.phase 0 (assumption log 4), which slots still have their check is a free
value (assumption log 12), and the frame that a branch sends is kept in the branch and gone after a start and in LOADING, where the
deadline-passed note is clear after a start (assumption log 8). The
model's reading: the event that begins the cold start classifies and loads at once, and the blocks keep their last values during
LOADING (assumption log 11). -/
def Obligations.RestartsFollowTheirAnswers : Prop :=
  ∀ (s : State) (i : OutItem) (rest : List OutItem) (k : Nat), s.seq.run ≠ .loading → s.up.tx = .sending 0 →
    s.up.queue = i :: rest →
    (i.note = .entryRestart k .warm → ∃ t, exec .endOfTransmission s = .next t
      ∧ t.seq.run = .running ∧ t.clock = { ms := 0#32, phase := 0 }
      ∧ t.table = { entries := [], returning := [], nextSeq := 0#16, counters := s.table.counters }
      ∧ t.up = { rx := .outside, queue := [], rate := s.active.settings.upRate
                 tx := .spacing (2 * s.active.settings.upRate.charPeriods)
                 counters := { s.up.counters with framesOut := bump s.up.counters.framesOut } }
      ∧ t.agent = { queue := [], service := .idle, working := none }
      ∧ t.tokens = s.active.stations.filterMap (fun r => r.budget.map fun b => ⟨r.addr, b.depth, none⟩)
      ∧ t.scan.changes = s.scan.changes
      ∧ t.scan.slots.map (fun x => { x with pollBound := false })
          = s.scan.slots.map (fun x => { x with pollBound := false, lastPoll := none, schedule := .overdue 0#32 })
      ∧ (s.sup.state = .normal → t.sup = { s.sup with stat := false, silence := s.freshSilence })
      ∧ (s.sup.state ≠ .normal → t.sup.state = .failsafeHeld ∧ t.sup.stat = true ∧ t.sup.silence = none
          ∧ t.sup.cause = s.sup.cause
          ∧ ∃ reached : Octet → Nat,
            t.sup.lines = s.sup.lines.map (fun l =>
              if l.outcome = .pending then { l with outcome := .skipped, attempts := reached l.station } else l)
            ∧ (∀ a, (∀ b f, (s.branch b).bound = some (.failsafe f) → f.station ≠ a) → reached a = 0)
            ∧ ∀ b f, (s.branch b).bound = some (.failsafe f) →
                (∀ c g, c ≠ b → (s.branch c).bound = some (.failsafe g) → g.station ≠ f.station) →
                reached f.station = f.attempts)
      ∧ t.seq.record = { cause := .mgmtWarm, loaded := none, spoiled := s.store.count .spoiled, sup := t.sup.state }
      ∧ (∀ b, (t.branch b).counters = (s.branch b).counters ∧ (t.branch b).queue = [] ∧ (t.branch b).failsafe = []
          ∧ (t.branch b).rate = (s.branchSettings b).rate ∧ (t.branch b).addr = s.active.settings.ownAddr
          ∧ (t.branch b).interrupts = 0 ∧ (t.branch b).consec = 0 ∧ (t.branch b).pollTag = 0#8
          ∧ (t.branch b).finalMark = false ∧ (t.branch b).deadline = none ∧ (t.branch b).deadlinePassed = false
          ∧ (t.branch b).probeTimer = none ∧ (t.branch b).probeQuiet = none
          ∧ (t.branch b).driver = false ∧ (t.branch b).frame = none ∧ (t.branch b).sendLeft = none
          ∧ ((s.branchSettings b).enabled = false →
              (t.branch b).state = .disabled ∧ (t.branch b).rx = .off ∧ (t.branch b).bound = none)
          ∧ ((s.branchSettings b).enabled = true → (t.branch b).rx = .outside
              ∧ (((t.branch b).state = .idle ∧ (t.branch b).bound = none)
                ∨ ((t.branch b).state = .guard ∧ ∃ p, (t.branch b).bound = some (.poll p) ∧ p.attempts = 0 ∧ p.sentAt = none
                    ∧ p.live = true ∧ ∃ r, s.active.record? p.station = some r ∧ r.branch = b ∧ p.timeout = r.timeout))))
      ∧ t = { s with seq := t.seq, clock := t.clock, tokens := t.tokens, table := t.table, up := t.up
                     branches := t.branches, scan := t.scan, sup := t.sup, agent := t.agent })
    ∧ (i.note = .entryRestart k .cold → ∃ u t, exec .endOfTransmission s = .next t ∧ ColdStartBegun u t .mgmtCold
      ∧ u = { s with table := u.table, up := u.up }
      ∧ u.up.counters = { s.up.counters with framesOut := bump s.up.counters.framesOut })

/-- POWER, SUPPLY_FALL, RSTN_LOW and RSTN_RELEASE: the part is held reset while the supply or RSTN is low, with every driver
off and every line marking, and a cold start with cause POWER or LINE begins when neither is (R160, R162, R163, R181). Which
slots still have their check when a cold start classifies them is a free value (R155; the model's choice, assumption log 12). The
model's readings: the later of the two to rise gives the cause (assumption log 10), a cut-off store operation leaves the store
record at once as classification will find it (assumption log 12), and the event that begins the cold start classifies and loads at
once, while the blocks keep their last values when held and in LOADING (assumption log 11). That the frame a branch sends is kept
in the branch, and is gone here, is the model's choice (assumption log 8). CFGEN_CHANGE: the strap has its other level, held for no
time yet; nothing else changes (R142, R181); that the command carries no level and toggles is the model's choice (assumption log
20). -/
def Obligations.PinsActAtOnce : Prop :=
  (∀ s : State,
      (s.pins.rstnLow = false → ∃ t, exec .rstnLow s = .next t ∧ HeldReset s t
        ∧ t.pins = { s.pins with rstnLow := true })
      ∧ (s.pins.supplyLow = false → ∃ t, exec .supplyFall s = .next t ∧ HeldReset s t
        ∧ t.pins = { s.pins with supplyLow := true })
      ∧ (s.pins.rstnLow = true → s.pins.supplyLow = false → ∃ t, exec .rstnRelease s = .next t
        ∧ ColdStartBegun { s with pins := { s.pins with rstnLow := false } } t .line)
      ∧ (s.pins.supplyLow = true → s.pins.rstnLow = false → ∃ t, exec .power s = .next t
        ∧ ColdStartBegun { s with pins := { s.pins with supplyLow := false } } t .power)
      ∧ (s.pins.rstnLow = true → s.pins.supplyLow = true →
        exec .rstnRelease s = .next { s with pins := { s.pins with rstnLow := false } }
        ∧ exec .power s = .next { s with pins := { s.pins with supplyLow := false } }))
  ∧ (∀ s : State, ∃ t, exec .cfgenChange s = .next t ∧ t.pins.cfgen = !s.pins.cfgen ∧ t.pins.cfgenAge = 0
      ∧ t = { s with pins := { s.pins with cfgen := t.pins.cfgen, cfgenAge := t.pins.cfgenAge } })

/-- END_OF_LOADING: the part is RUNNING, and every block has its cold values from the ACTIVE set loaded (R164 with R2, R21,
R59, R94, R109, R125, R137, R146, R167). A branch has its final-attempt mark clear, no reply deadline, its probe timer stopped and
nothing bound but a poll picked in the same event. The model's choices, where no rule gives a value: the deadline-passed note is
clear, the frame and the time left of a sending are absent (assumption log 8), and the millisecond count begins with a whole
millisecond, clock.phase 0 (assumption log 4). -/
def Obligations.LoadingEnds : Prop :=
  ∀ s : State, s.seq.run = .loading → s.pins.supplyLow = false → s.pins.rstnLow = false → ∃ t, exec .endOfLoading s = .next t
    ∧ t.seq.run = .running ∧ t.clock = { ms := 0#32, phase := 0 }
    ∧ t.table = { entries := [], returning := [], nextSeq := 0#16, counters := TxnCounters.zero }
    ∧ t.up = { rx := .outside, queue := [], tx := .idle, rate := s.active.settings.upRate, counters := UpCounters.zero }
    ∧ t.agent = { queue := [], service := .idle, working := none }
    ∧ t.tokens = s.active.stations.filterMap (fun r => r.budget.map fun b => ⟨r.addr, b.depth, none⟩)
    ∧ t.scan.changes = []
    ∧ t.scan.slots.map (fun x => { x with pollBound := false })
        = s.active.stations.filterMap (fun r => r.scan.map fun _ =>
            { addr := r.addr, state := .unknown, word := none, collState := .unknown, collWord := none, misses := 0
              schedule := .overdue 0#32, pollBound := false, lastPoll := none, mark := false })
    ∧ (s.active.settings.startMode = .normal → t.sup.state = .normal ∧ t.sup.cause = .none ∧ t.sup.lines = []
        ∧ t.sup.stat = false
        ∧ t.sup.silence = if s.active.settings.silence = 0 then none else some (s.active.settings.silence * 100 * 18432))
    ∧ (s.active.settings.startMode = .held → t.sup = { state := .failsafeHeld, silence := none, cause := .start, lines := []
                                                       stat := true })
    ∧ t.seq.record = { cause := s.seq.cause, loaded := s.seq.loaded, spoiled := s.store.count .spoiled, sup := t.sup.state }
    ∧ (∀ b, (t.branch b).counters = BranchCounters.zero ∧ (t.branch b).queue = [] ∧ (t.branch b).failsafe = []
        ∧ (t.branch b).rate = (s.branchSettings b).rate ∧ (t.branch b).addr = s.active.settings.ownAddr
        ∧ (t.branch b).interrupts = 0 ∧ (t.branch b).consec = 0 ∧ (t.branch b).pollTag = 0#8
        ∧ (t.branch b).driver = false ∧ (t.branch b).frame = none ∧ (t.branch b).sendLeft = none
        ∧ (t.branch b).finalMark = false ∧ (t.branch b).deadline = none ∧ (t.branch b).deadlinePassed = false
        ∧ (t.branch b).probeTimer = none ∧ (t.branch b).probeQuiet = none
        ∧ ((s.branchSettings b).enabled = false →
            (t.branch b).state = .disabled ∧ (t.branch b).rx = .off ∧ (t.branch b).bound = none)
        ∧ ((s.branchSettings b).enabled = true → (t.branch b).rx = .outside
            ∧ (((t.branch b).state = .idle ∧ (t.branch b).bound = none)
              ∨ ((t.branch b).state = .guard ∧ ∃ p, (t.branch b).bound = some (.poll p) ∧ p.attempts = 0 ∧ p.sentAt = none
                  ∧ p.live = true ∧ ∃ r, s.active.record? p.station = some r ∧ r.branch = b ∧ p.timeout = r.timeout))))
    ∧ t = { s with seq := t.seq, clock := t.clock, tokens := t.tokens, table := t.table, up := t.up, branches := t.branches
                   scan := t.scan, sup := t.sup, agent := t.agent }


/-! ### The branch lines -/

/-- GUARD_COMPLETE: the frame of the attempt is built from the bound item, the attempt and the poll tag are counted, the driver
is on and the receiver off, and nothing else changes (R6, R67, R72, R75). That the sending of a broadcast share sets the expected
tag, as R75 says of every sending, is the model's choice beside the table of R63 (assumption log 8). -/
def Obligations.GuardCompletes : Prop :=
  ∀ (s : State) (b : BranchId), s.seq.run ≠ .loading → (s.branch b).state = .guard → (s.branch b).phase = .running 0 →
    let x := s.branch b
    (∀ slot e a, x.bound = some (.station slot) → s.table.find? slot = some e → e.station = some a →
      exec (.guardComplete b) s = .next ((s.updateEntry slot fun e => { e with attempts := e.attempts + 1 }).setBranch b
        (x.sendingFrame { dest := a, src := x.addr, tag := e.tag, kind := e.kind.octet, payload := e.payload })))
    ∧ (∀ slot e, x.bound = some (.share slot) → s.table.find? slot = some e →
      exec (.guardComplete b) s = .next (s.setBranch b
        (x.sendingFrame { dest := 0xFF#8, src := x.addr, tag := e.tag, kind := 0x12#8, payload := e.payload })))
    ∧ (∀ p, x.bound = some (.poll p) →
      exec (.guardComplete b) s = .next (s.setBranch b
        { x.sendingFrame { dest := p.station, src := x.addr, tag := x.pollTag, kind := 0x13#8, payload := [] } with
          pollTag := x.pollTag + 1#8
          bound := some (.poll { p with attempts := p.attempts + 1, sentAt := some s.clock.ms }) }))
    ∧ (∀ i, x.bound = some (.failsafe i) →
      exec (.guardComplete b) s = .next (s.setBranch b
        { x.sendingFrame { dest := i.station, src := x.addr, tag := x.pollTag, kind := i.kind.octet, payload := i.payload } with
          pollTag := x.pollTag + 1#8, bound := some (.failsafe { i with attempts := i.attempts + 1 }) }))

/-- BRANCH_OCTET and BRANCH_FRAME_OCTET (R73, R77, R88, R179): with `r` the receiver after the octet, a C3h in AWAITING enters
RECEIVING; in a guard the octet interrupts it below the eighth time, in the wait it prolongs the wait, in FAULT it ends the
probe, and in the other states it has no effect of its own. A receiver that is off takes no octet (the model's reading,
assumption log 19). The five octet commands of a branch do the same with the same octet, whichever outcome they name, and the octet of
a command belongs to the frame in assembly, its start bit having come before the expiry of the gap timer; BRANCH_GAP is refused outside
a frame, before 3 char have passed, and after the start bit of the next octet (the model's choice, assumption logs 3 and 6). -/
def Obligations.OctetsOnABranch : Prop :=
  ∀ (s : State) (b : BranchId) (o : Octet) (c : Instr) (r : Receiver),
    let x := s.branch b
    (c ∈ [Instr.branchOctet b o, .branchFrameOctet b o, .branchFrameValid b o, .branchFrameCheck b o, .branchFrameLength b o] →
      (x.rx = .off → exec c s = .next s) ∧ exec c s = exec (.branchOctet b o) s)
    ∧ ((∀ os quiet straddle, x.rx = .inside os quiet straddle false → quiet < 3 * x.rate.charPeriods) →
      exec (.branchGap b) s = .refused .timerOtherwise)
    ∧ (((c = .branchOctet b o ∧ x.rx = .outside ∧ r = (if o = 0xC3#8 then .inside [o] 0 0 false else .outside))
        ∨ (∃ os quiet straddle begun, c = .branchFrameOctet b o ∧ x.rx = .inside os quiet straddle begun
            ∧ (os.length = 5 → o.toNat ≤ 64) ∧ (6 ≤ os.length → os.length + 1 ≠ 8 + (os.getD 5 0#8).toNat)
            ∧ r = .inside (os ++ [o]) 0 0 false)) →
      (∀ n, x.state = .guard → x.phase = .running n → x.interrupts < 7 → exec c s = .next (s.setBranch b
        { x with rx := r, phase := .waiting x.rate.charPeriods, interrupts := x.interrupts + 1
                 counters := { x.counters with guardInterrupts := bump x.counters.guardInterrupts } }))
      ∧ (∀ n, x.state = .guard → x.phase = .waiting n →
          exec c s = .next (s.setBranch b { x with rx := r, phase := .waiting x.rate.charPeriods }))
      ∧ (x.state = .fault → exec c s = .next (s.setBranch b { x with rx := r, probeQuiet := none }))
      ∧ (x.state = .awaiting → c = .branchOctet b o → o = 0xC3#8 →
          exec c s = .next (s.setBranch b { x with rx := r, state := .receiving }))
      ∧ (x.state = .idle ∨ x.state = .receiving ∨ (x.state = .awaiting ∧ c = .branchOctet b o ∧ o ≠ 0xC3#8) →
          exec c s = .next (s.setBranch b { x with rx := r })))

/-- GUARD_QUIET_WAIT_EXPIRY: the guard restarts with a fresh length (R72, R73). PROBE_TIMER_EXPIRY begins a probe with
RATE and GUARD of ACTIVE, with a frame in assembly left so (R180); how the receiver keeps it over the change of rate, the time gone
kept as time and a latest end for an octet under way, is the model's choice (assumption log 6). PROBE_QUIET_END recovers the branch
to IDLE with both counts at 0, counts RECOVERIES, and its arbiter runs (R88); that each arbiter then runs once is the model's reading
(assumption log 16). -/
def Obligations.WaitsAndProbesEnd : Prop :=
  (∀ (s : State) (b : BranchId), s.seq.run ≠ .loading → (s.branch b).state = .guard → (s.branch b).phase = .waiting 0 →
      exec (.guardQuietWaitExpiry b) s = .next (s.setBranch b
        { s.branch b with guardLen := (s.branchSettings b).guard
                          phase := .running ((s.branchSettings b).guard * (s.branch b).rate.charPeriods) }))
  ∧ (∀ (s : State) (b : BranchId), s.seq.run ≠ .loading → (s.branch b).state = .fault →
      ((s.branch b).probeTimer = some 0 → exec (.probeTimerExpiry b) s = .next (s.setBranch b
        { s.branch b with
          probeTimer := some (1000 * 18432), rate := (s.branchSettings b).rate, guardLen := (s.branchSettings b).guard
          rx := (s.branch b).rx.overChange (s.branch b).rate.charPeriods
          probeQuiet := some ((s.branchSettings b).guard * (s.branchSettings b).rate.charPeriods) }))
      ∧ ((s.branch b).probeQuiet = some 0 → exec (.probeQuietEnd b) s = .next (s.setBranch b
        { s.branch b with
          state := .idle, probeTimer := none, probeQuiet := none, interrupts := 0, consec := 0
          counters := { (s.branch b).counters with recoveries := bump (s.branch b).counters.recoveries } }).settle))

/-- An octet on a branch in its guard, whichever of BRANCH_OCTET, BRANCH_FRAME_OCTET, BRANCH_FRAME_VALID, BRANCH_FRAME_CHECK and
BRANCH_FRAME_LENGTH brings it, as the eighth interruption in a row: the branch goes to FAULT, or to DISABLED where ACTIVE has it
not ENABLED; its queue, its failsafe list and its bound item are gone, FAULTS counts, the probe timer runs 1000 ms. Each STATION
entry that was queued or bound there has its answer ABORTED LINE_FAULT with its attempts; each share there moves to not-sent, and
a broadcast with nothing left pending is DONE; a poll bound there is released, its slot as it was; the line of each failsafe item
there becomes SKIPPED with its attempts, and FAILSAFE_SENDING becomes FAILSAFE_HELD with the last item. The entries complete in
ascending order of admission, with consecutive numbers, and each counts under its kind. Entries without an item there stay as they
are, and so do the other branches but for an IDLE one, which may pick a poll released here (R7, R8, R9, R13, R14, R16, R20, R73,
R81, R85, R86, R101, R118, R119). -/
def Obligations.EighthInterruptionFaults : Prop :=
  ∀ (s : State) (b : BranchId) (c : Instr) (r : Receiver) (stray : Bool) (n : Nat), NoIdleClaim s →
    OctetReaches s b c r stray → (s.branch b).state = .guard → (s.branch b).phase = .running n →
    (s.branch b).interrupts = 7 →
    let x := s.branch b
    let on := (s.branchSettings b).enabled
    let items : List FailsafeItem := (match x.bound with | some (.failsafe f) => [f] | _ => []) ++ x.failsafe
    ∃ t, exec c s = .next t
      ∧ t.branch b = { x with
          state := if on then .fault else .disabled, queue := [], failsafe := [], bound := none, phase := .stopped
          finalMark := false, interrupts := 8, probeTimer := if on then some (1000 * 18432) else none, probeQuiet := none
          rx := if on then r else .off
          counters := { x.counters with
            stray := if stray then bump x.counters.stray else x.counters.stray
            guardInterrupts := bump x.counters.guardInterrupts, faults := bump x.counters.faults } }
      ∧ (∀ slot e a, x.bound = some (.station slot) ∨ .station slot ∈ x.queue →
          s.table.find? slot = some e → e.state.isOpen = true → e.station = some a → e.sets = none →
          Answered t slot { dest := e.ctrl, src := a, tag := e.tag, kind := 0x32#8, payload := [0x03#8, oct e.attempts] })
      ∧ (TagsDistinct s → CompletesInOrder s t)
      ∧ (TagsDistinct s → s.seq.run ≠ .loading → EntriesPlaced s → ∀ slot e sets, s.table.find? slot = some e → e.state = .spreading →
          e.sets = some sets →
          SharesMoved t slot e sets s.active.settings.ownAddr fun a =>
            a == b && (x.bound == some (.share slot) || x.queue.contains (.share slot)))
      ∧ (∀ slot e, s.table.find? slot = some e → (∀ y ∈ s.table.entries, y.slot = slot → y = e) → e.spreadOut = false →
          x.bound ≠ some (.station slot) → x.bound ≠ some (.share slot) →
          .station slot ∉ x.queue → .share slot ∉ x.queue → t.table.find? slot = some e)
      ∧ (∀ p, x.bound = some (.poll p) → p.live = true →
          t.scan.slots.map (fun y => { y with pollBound := false }) = s.scan.slots.map (fun y => { y with pollBound := false })
          ∧ ∀ y, s.scan.find? p.station = some y →
              (∀ rec, s.active.record? p.station = some rec → rec.branch = b ∨ (s.branch rec.branch).state ≠ .idle) →
              t.scan.find? p.station = some { y with pollBound := false })
      ∧ ((∀ p, x.bound = some (.poll p) → p.live = false) → t.scan = s.scan)
      ∧ t.sup = { s.sup with
          lines := s.sup.lines.map fun l =>
            match items.find? fun f => f.station == l.station with
            | some f => if l.outcome = .pending then { l with outcome := .skipped, attempts := f.attempts } else l
            | none => l
          state := if s.sup.state = .failsafeSending ∧ s.failsafeLeft = items.length then .failsafeHeld else s.sup.state }
      ∧ (∀ a, a ≠ b → (s.branch a).state ≠ .idle → t.branch a = s.branch a)
      ∧ t.up = { s.up with queue := t.up.queue, tx := t.up.tx } ∧ t.scan.changes = s.scan.changes
      ∧ t = { s with table := t.table, up := t.up, branches := t.branches, scan := t.scan, sup := t.sup }

/-- BRANCH_END_OF_SENDING: the driver goes off and the receiver on in the same event, and an item other than a share
awaits its reply until its timeout after the end of sending (R65, R75, R77). BRANCH_END_OF_SENDING of a broadcast
share: the branch moves from pending to sent and the attempt counts; the branch is unbound, and its arbiter runs.
While other branches are pending that is all; with the last one the entry completes DONE with its sent and not-sent
sets (R8, R9, R17, R76). That the arbiters of branches 0 to 3 each run once is the model's reading (assumption log 16). -/
def Obligations.SendingEnds : Prop :=
  (∀ (s : State) (b : BranchId) (ms : Nat), s.seq.run ≠ .loading → (s.branch b).state = .sending →
      (s.branch b).sendLeft = some 0 →
      ((∃ slot e r, (s.branch b).bound = some (.station slot) ∧ s.table.find? slot = some e ∧ e.route = some r ∧ r.timeout = ms)
        ∨ (∃ p, (s.branch b).bound = some (.poll p) ∧ p.timeout = ms)
        ∨ (∃ i, (s.branch b).bound = some (.failsafe i) ∧ i.timeout = ms)) →
      exec (.branchEndOfSending b) s = .next (s.setBranch b
        { s.branch b with state := .awaiting, frame := none, sendLeft := none, driver := false, rx := .outside
                          deadline := some (ms * 18432), deadlinePassed := false }))
  ∧ (∀ (s : State) (b : BranchId) (slot : Nat) (e : Entry) (sets : BroadcastSets), s.seq.run ≠ .loading →
      (s.branch b).state = .sending → (s.branch b).sendLeft = some 0 → (s.branch b).bound = some (.share slot) →
      s.table.find? slot = some e → e.origin = .broadcast → e.state = .spreading → e.sets = some sets →
      sets.pending.get b = true →
      (∀ x ∈ s.table.entries, x.slot = slot → x = e) → (∀ x ∈ s.table.entries, x.spreadOut = false) →
      let moved : BroadcastSets := { sets with pending := sets.pending.set b false, sent := sets.sent.set b true }
      let e' : Entry := { e with sets := some moved, attempts := e.attempts + 1 }
      let u := (s.updateEntry slot fun _ => e').setBranch b
        (Branch.itemEnded { s.branch b with frame := none, sendLeft := none, driver := false, rx := .outside }
          (s.branchSettings b).enabled)
      (emptySet moved.pending = false → exec (.branchEndOfSending b) s = .next u.settle)
      ∧ (emptySet moved.pending = true → ∃ v, exec (.branchEndOfSending b) s = .next v.settle
        ∧ v = { u with table := v.table, up := v.up }
        ∧ Completes u v slot e' { dest := e.ctrl, src := s.active.settings.ownAddr, tag := e.tag, kind := 0x33#8
                                  payload := [branchSetOct moved.sent, branchSetOct moved.notSent] } (.entry slot)
            (fun c => { c with done := bump c.done })))


/-- REPLY_DEADLINE_EXPIRY in AWAITING, and BRANCH_FRAME_CHECK, BRANCH_FRAME_LENGTH and BRANCH_GAP in RECEIVING, with a further
attempt to make: the failure is counted, a STATION entry notes its cause, and the same item re-enters the guard with a fresh
length (R6, R77, R78, R82). In RECEIVING the expiry of the deadline only sets the deadline-passed note (R78). -/
def Obligations.FailedAttemptIsRetried : Prop :=
  ∀ (s : State) (b : BranchId) (c : Instr) (cause : Cause) (rx : Receiver),
    let x := s.branch b
    let again : Branch :=
      { x.windowClosed cause rx with
        state := .guard, guardLen := (s.branchSettings b).guard
        phase := .running ((s.branchSettings b).guard * x.rate.charPeriods) }
    (AttemptFailsBy s b c cause rx → x.finalMark = false →
      (∀ slot e r, x.bound = some (.station slot) → s.table.find? slot = some e → e.route = some r →
        e.attempts < 1 + r.retries →
        exec c s = .next ((s.updateEntry slot fun e => { e with lastCause := some cause }).setBranch b again))
      ∧ (∀ i, x.bound = some (.failsafe i) → i.attempts < 1 + i.retries → exec c s = .next (s.setBranch b again)))
    ∧ (s.seq.run ≠ .loading → x.state = .receiving → x.deadline = some 0 → x.deadlinePassed = false →
        exec (.replyDeadlineExpiry b) s = .next (s.setBranch b { x with deadlinePassed := true }))

/-- The same commands with no further attempt to make, no attempts left or the final-attempt mark set: final failure (R83). A
STATION entry completes NO_ANSWER with its last cause and its attempts; a poll is recorded as a miss in its slot, or nowhere where
a commit has discarded the slot; a failsafe item's report line becomes NO_ANSWER, and FAILSAFE_SENDING becomes FAILSAFE_HELD with
the last item. The branch is freed, and its arbiter runs (R6, R16, R40, R82, R84, R107, R119); that the arbiters of
branches 0 to 3 each run once is the model's reading (assumption log 16). -/
def Obligations.FailedAttemptEndsTheItem : Prop :=
  ∀ (s : State) (b : BranchId) (c : Instr) (cause : Cause) (rx : Receiver), AttemptFailsBy s b c cause rx →
    let x := s.branch b
    let freed := (x.windowClosed cause rx).itemEnded (s.branchSettings b).enabled
    (∀ slot e a r, SendingHasItems s → x.bound = some (.station slot) → s.table.find? slot = some e → e.state.isOpen = true →
      e.station = some a → e.route = some r → (x.finalMark = true ∨ 1 + r.retries ≤ e.attempts) →
      ∃ u, exec c s = .next (u.setBranch b freed).settle ∧ u = { s with table := u.table, up := u.up }
        ∧ Completes s u slot { e with lastCause := some cause }
            { dest := e.ctrl, src := a, tag := e.tag, kind := 0x31#8
              payload := [(match cause with | .silent => 0x01#8 | .corrupt => 0x02#8), oct e.attempts] }
            (.entry slot) (fun n => { n with noAnswer := bump n.noAnswer }))
    ∧ (∀ p sent, SendingHasItems s → x.bound = some (.poll p) → p.live = true → p.sentAt = some sent →
      exec c s = .next ((s.recordPoll p.station none sent).setBranch b freed).settle)
    ∧ (∀ p, SendingHasItems s → x.bound = some (.poll p) → p.live = false → exec c s = .next (s.setBranch b freed).settle)
    ∧ (∀ i, x.bound = some (.failsafe i) → (x.finalMark = true ∨ 1 + i.retries ≤ i.attempts) →
      ∃ v : State, exec c s = .next v.settle
        ∧ v.sup.lines = s.sup.lines.map (fun l =>
            if l.station = i.station ∧ l.outcome = .pending then { l with outcome := .noAnswer, attempts := i.attempts } else l)
        ∧ v.sup.state = (if s.sup.state = .failsafeSending ∧ s.failsafeLeft = 1 then .failsafeHeld else s.sup.state)
        ∧ v = { s.setBranch b freed with sup := { s.sup with lines := v.sup.lines, state := v.sup.state } })

/-- BRANCH_FRAME_VALID with a matching reply in RECEIVING: DEST the address in use, SRC the station of the item, TAG the
expected tag and KIND 20h (R79). REPLIES counts, and a STATION entry completes RELAYED with the reply's payload; a poll is
recorded with the word of the first two payload octets, or fails CORRUPT with fewer, and is recorded nowhere where a commit has
discarded its slot; a failsafe item's report line becomes OK. The branch is freed, and its arbiter runs (R15, R40, R80, R98, R107,
R119); that the arbiters of branches 0 to 3 each run once is the model's reading (assumption log 16). -/
def Obligations.MatchingReplySucceeds : Prop :=
  ∀ (s : State) (b : BranchId) (f : Frame) (o : Octet), (s.branch b).state = .receiving → (s.branch b).Arrives f o →
    let x := s.branch b
    f.dest = x.addr → f.tag = x.expectedTag → f.kind = 0x20#8 →
    let freed := Branch.itemEnded { x with rx := .outside, counters := { x.counters with replies := bump x.counters.replies } }
      (s.branchSettings b).enabled
    (∀ slot e, SendingHasItems s → x.bound = some (.station slot) → s.table.find? slot = some e → e.state.isOpen = true →
      e.origin = .station → e.station = some f.src →
      ∃ u, exec (.branchFrameValid b o) s = .next (u.setBranch b freed).settle ∧ u = { s with table := u.table, up := u.up }
        ∧ Completes s u slot e { dest := e.ctrl, src := f.src, tag := e.tag, kind := 0x20#8, payload := f.payload }
            (.entry slot) (fun n => { n with relayed := bump n.relayed }))
    ∧ (∀ p sent hi lo more, SendingHasItems s → x.bound = some (.poll p) → p.live = true → p.sentAt = some sent →
      p.station = f.src → f.payload = hi :: lo :: more →
      exec (.branchFrameValid b o) s = .next ((s.recordPoll p.station (some (hi ++ lo)) sent).setBranch b freed).settle)
    ∧ (∀ p sent, SendingHasItems s → x.bound = some (.poll p) → p.live = true → p.sentAt = some sent → p.station = f.src →
      f.payload.length < 2 →
      exec (.branchFrameValid b o) s = .next ((s.recordPoll p.station none sent).setBranch b
        ((x.windowClosed .corrupt .outside).itemEnded (s.branchSettings b).enabled)).settle)
    ∧ (∀ p, SendingHasItems s → x.bound = some (.poll p) → p.live = false → p.station = f.src →
      exec (.branchFrameValid b o) s = .next (s.setBranch b
        (if 2 ≤ f.payload.length then freed
         else (x.windowClosed .corrupt .outside).itemEnded (s.branchSettings b).enabled)).settle)
    ∧ (∀ i, x.bound = some (.failsafe i) → i.station = f.src →
      ∃ v : State, exec (.branchFrameValid b o) s = .next v.settle
        ∧ v.sup.lines = s.sup.lines.map (fun l =>
            if l.station = i.station ∧ l.outcome = .pending then { l with outcome := .ok, attempts := i.attempts } else l)
        ∧ v.sup.state = (if s.sup.state = .failsafeSending ∧ s.failsafeLeft = 1 then .failsafeHeld else s.sup.state)
        ∧ v = { s.setBranch b freed with sup := { s.sup with lines := v.sup.lines, state := v.sup.state } })

/-- Frames on a branch that are no reply. BRANCH_FRAME_VALID, not accepted: in RECEIVING the branch goes back to AWAITING, or with
the deadline passed the attempt fails SILENT, so that a STATION entry or a failsafe item is retried or ends in final failure and a
poll is a miss; in IDLE and FAULT, and in a guard, the last octet acts as line activity. STRAY counts in each (R73, R78, R79, R81,
R82, R83, R88). BRANCH_FRAME_CHECK, BRANCH_FRAME_LENGTH and BRANCH_GAP outside RECEIVING count nothing of their own: the octet of
the first two acts as line activity (R73, R81, R88). After a final failure the arbiters of branches 0 to 3 each run once, the
model's reading (assumption log 16). -/
def Obligations.OtherFramesOnABranch : Prop :=
  (∀ (s : State) (b : BranchId) (f : Frame) (o : Octet), (s.branch b).Arrives f o →
    let x := s.branch b
    let y : Branch := { x with rx := .outside, counters := { x.counters with stray := bump x.counters.stray } }
    (x.state = .receiving →
      (f.dest ≠ x.addr ∨ f.tag ≠ x.expectedTag ∨ f.kind ≠ 0x20#8 ∨ ∀ i, x.bound = some i → s.boundStation i ≠ some f.src) →
      (x.deadlinePassed = false → exec (.branchFrameValid b o) s = .next (s.setBranch b { y with state := .awaiting }))
      ∧ (x.deadlinePassed = true →
        let again : Branch :=
          { y.windowClosed .silent .outside with
            state := .guard, guardLen := (s.branchSettings b).guard
            phase := .running ((s.branchSettings b).guard * x.rate.charPeriods) }
        let freed : Branch := (y.windowClosed .silent .outside).itemEnded (s.branchSettings b).enabled
        (∀ slot e r, x.bound = some (.station slot) → s.table.find? slot = some e → e.route = some r →
          e.attempts < 1 + r.retries → x.finalMark = false →
          exec (.branchFrameValid b o) s =
            .next ((s.updateEntry slot fun e => { e with lastCause := some .silent }).setBranch b again))
        ∧ (∀ slot e a r, SendingHasItems s → x.bound = some (.station slot) → s.table.find? slot = some e →
          e.state.isOpen = true → e.station = some a → e.route = some r → (x.finalMark = true ∨ 1 + r.retries ≤ e.attempts) →
          ∃ u, exec (.branchFrameValid b o) s = .next (u.setBranch b freed).settle ∧ u = { s with table := u.table, up := u.up }
            ∧ Completes s u slot { e with lastCause := some .silent }
                { dest := e.ctrl, src := a, tag := e.tag, kind := 0x31#8, payload := [0x01#8, oct e.attempts] }
                (.entry slot) (fun n => { n with noAnswer := bump n.noAnswer }))
        ∧ (∀ p sent, SendingHasItems s → x.bound = some (.poll p) → p.live = true → p.sentAt = some sent →
          exec (.branchFrameValid b o) s = .next ((s.recordPoll p.station none sent).setBranch b freed).settle)
        ∧ (∀ p, SendingHasItems s → x.bound = some (.poll p) → p.live = false →
          exec (.branchFrameValid b o) s = .next (s.setBranch b freed).settle)
        ∧ (∀ i, x.bound = some (.failsafe i) → i.attempts < 1 + i.retries → x.finalMark = false →
          exec (.branchFrameValid b o) s = .next (s.setBranch b again))
        ∧ (∀ i, x.bound = some (.failsafe i) → (x.finalMark = true ∨ 1 + i.retries ≤ i.attempts) →
          ∃ v : State, exec (.branchFrameValid b o) s = .next v.settle
            ∧ v.sup.lines = s.sup.lines.map (fun l =>
                if l.station = i.station ∧ l.outcome = .pending then { l with outcome := .noAnswer, attempts := i.attempts }
                else l)
            ∧ v.sup.state = (if s.sup.state = .failsafeSending ∧ s.failsafeLeft = 1 then .failsafeHeld else s.sup.state)
            ∧ v = { s.setBranch b freed with sup := { s.sup with lines := v.sup.lines, state := v.sup.state } })))
    ∧ (x.state = .idle → exec (.branchFrameValid b o) s = .next (s.setBranch b y))
    ∧ (x.state = .fault → exec (.branchFrameValid b o) s = .next (s.setBranch b { y with probeQuiet := none }))
    ∧ (∀ n, x.state = .guard → x.phase = .waiting n →
      exec (.branchFrameValid b o) s = .next (s.setBranch b { y with phase := .waiting x.rate.charPeriods }))
    ∧ (∀ n, x.state = .guard → x.phase = .running n → x.interrupts < 7 →
      exec (.branchFrameValid b o) s = .next (s.setBranch b
        { y with phase := .waiting x.rate.charPeriods, interrupts := x.interrupts + 1
                 counters := { y.counters with guardInterrupts := bump x.counters.guardInterrupts } })))
  ∧ (∀ (s : State) (b : BranchId) (c : Instr),
      let x := s.branch b
      let z : Branch := { x with rx := .outside }
      ((∃ f o, c = .branchFrameCheck b o ∧ x.Breaks f o)
        ∨ (∃ o os quiet straddle begun, c = .branchFrameLength b o ∧ x.rx = .inside os quiet straddle begun
            ∧ os.length = 5 ∧ 64 < o.toNat) →
        (x.state = .idle → exec c s = .next (s.setBranch b z))
        ∧ (x.state = .fault → exec c s = .next (s.setBranch b { z with probeQuiet := none }))
        ∧ (∀ n, x.state = .guard → x.phase = .waiting n →
          exec c s = .next (s.setBranch b { z with phase := .waiting x.rate.charPeriods }))
        ∧ (∀ n, x.state = .guard → x.phase = .running n → x.interrupts < 7 → exec c s = .next (s.setBranch b
          { z with phase := .waiting x.rate.charPeriods, interrupts := x.interrupts + 1
                   counters := { z.counters with guardInterrupts := bump x.counters.guardInterrupts } })))
      ∧ (∀ os quiet straddle, c = .branchGap b → x.rx = .inside os quiet straddle false → 3 * x.rate.charPeriods ≤ quiet →
        x.state ≠ .receiving → exec c s = .next (s.setBranch b z)))


/-! ### The arbiter -/

/-- The slot is an overdue claimant of a branch: OVERDUE, with no poll bound, its station's record in ACTIVE on that branch (R70,
R96). -/
def Claims (s : State) (b : BranchId) (x : ScanSlot) : Prop :=
  x ∈ s.scan.slots ∧ (∃ since, x.schedule = .overdue since) ∧ x.pollBound = false
  ∧ ∃ r, s.active.record? x.addr = some r ∧ r.branch = b

/-- The overdue claim that ranks first on a branch: OVERDUE longest, and of those the lowest address (R70, R96). How long a slot
has been OVERDUE is a difference of counts modulo 2^32 (the model's reading, assumption log 7). -/
def FirstClaim (s : State) (b : BranchId) (p : ScanSlot) : Prop :=
  Claims s b p ∧ ∀ y since t, Claims s b y → y.addr ≠ p.addr → p.schedule = .overdue since → y.schedule = .overdue t →
    (s.clock.ms - t).toNat < (s.clock.ms - since).toNat
    ∨ ((s.clock.ms - t).toNat = (s.clock.ms - since).toNat ∧ p.addr.toNat < y.addr.toNat)

/-- The overdue claims of a branch are the slots that are OVERDUE with no poll bound, their records in ACTIVE on that branch, each
once and in the order of the slots (R70, R96). The arbiter on an IDLE branch of a live part (R69 to R71): the head of the failsafe
list first; an overdue poll where the consecutive-controller count has reached BURST; the head of the request queue; an overdue poll.
Each pick does what R71 says of it, and with no claimant, or off IDLE, or in a part held reset or LOADING nothing changes. Of overdue
polls the one OVERDUE longest is first, by the difference of counts modulo 2^32, which is the model's reading (assumption log 7). What
a pick leaves of a frame in assembly, the time gone kept as time and a latest end for an octet under way at the change of rate, is
the model's choice (assumption log 6). After an event the arbiters of branches 0 to 3 each run once, in that order, which is the
model's reading of R68 (assumption log 16), so that a branch that is not IDLE stays as it is. -/
def Obligations.ArbiterPicksByPriority : Prop :=
  (∀ (s : State) (b : BranchId), (∀ x, x ∈ s.overdueClaims b ↔ Claims s b x) ∧ (s.overdueClaims b).Sublist s.scan.slots)
  ∧ (∀ s : State, s.settle = (((s.arbitrate .b0).arbitrate .b1).arbitrate .b2).arbitrate .b3
      ∧ (∀ b, (s.branch b).state ≠ .idle → s.settle.branch b = s.branch b)
      ∧ ∀ b, s.seq.run = .loading ∨ (s.branch b).state ≠ .idle → s.arbitrate b = s)
  ∧ ∀ (s : State) (b : BranchId), s.seq.run ≠ .loading → (s.branch b).state = .idle →
    (s.scan.slots.map fun x => x.addr.toNat).Pairwise (· < ·) →
    let x := s.branch b
    let cfg := s.branchSettings b
    let bound (i : BoundItem) : Branch := x.pickedFor cfg s.active.settings.ownAddr i
    let polled (p : ScanSlot) (r : StationRecord) : State :=
      ({ s with scan := { s.scan with
        slots := s.scan.slots.map fun (y : ScanSlot) => if y.addr = p.addr then { y with pollBound := true } else y } } :
        State).setBranch b
        { bound (.poll { station := p.addr, timeout := r.timeout, attempts := 0, sentAt := none, live := true }) with
          consec := 0 }
    (∀ i rest, x.failsafe = i :: rest →
      s.arbitrate b = s.setBranch b { bound (.failsafe i) with failsafe := rest })
    ∧ (∀ p r, x.failsafe = [] → FirstClaim s b p → s.active.record? p.addr = some r → (cfg.burst ≤ x.consec ∨ x.queue = []) →
      s.arbitrate b = polled p r)
    ∧ (∀ slot rest, x.failsafe = [] → x.queue = .station slot :: rest → (x.consec < cfg.burst ∨ ∀ y, ¬ Claims s b y) →
      s.arbitrate b = (s.updateEntry slot fun e => { e with state := .onLine }).setBranch b
        { bound (.station slot) with queue := rest, consec := min 15 (x.consec + 1) })
    ∧ (∀ slot rest, x.failsafe = [] → x.queue = .share slot :: rest → (x.consec < cfg.burst ∨ ∀ y, ¬ Claims s b y) →
      s.arbitrate b = s.setBranch b { bound (.share slot) with queue := rest, consec := min 15 (x.consec + 1) })
    ∧ (x.failsafe = [] → x.queue = [] → (∀ y, ¬ Claims s b y) → s.arbitrate b = s)

/-! ### Scanning -/

/-- The schedule that a recorded poll sets (R100). -/
def dueAfter (now sent : Millis) (interval : Nat) : Schedule :=
  let due := sent + BitVec.ofNat 32 (interval * 100)
  if interval * 100 ≤ (now - sent).toNat then .overdue due else .waiting due

/-- The recording of a success (R98, with R100 and R102): word, ONLINE, misses 0, the sending time, the schedule; a slot that
now differs from what was collected and has no mark is marked and goes to the end of the change list. -/
def Obligations.SuccessIsRecorded : Prop :=
  ∀ (s : State) (x : ScanSlot) (w : Word16) (sent : Millis) (n : Nat), s.scan.find? x.addr = some x →
    (∀ y ∈ s.scan.slots, y.addr = x.addr → y = x) → s.active.scan? x.addr = some n →
    let y : ScanSlot := { x with word := some w, state := .online, misses := 0, lastPoll := some sent, pollBound := false
                                 schedule := dueAfter s.clock.ms sent n }
    let marks : Bool := (x.collState != .online || x.collWord != some w) && !x.mark
    s.recordPoll x.addr (some w) sent =
      { s with scan := { slots := s.scan.slots.map fun z => if z.addr = x.addr then { y with mark := x.mark || marks } else z
                         changes := if marks then s.scan.changes ++ [x.addr] else s.scan.changes } }

/-- The recording of a miss (R99, with R100 and R102): misses counts up to 3, the third makes the station OFFLINE, the word is
kept. -/
def Obligations.MissIsRecorded : Prop :=
  ∀ (s : State) (x : ScanSlot) (sent : Millis) (n : Nat), s.scan.find? x.addr = some x →
    (∀ y ∈ s.scan.slots, y.addr = x.addr → y = x) → s.active.scan? x.addr = some n → x.misses ≤ 3 →
    let misses := if x.misses = 3 then 3 else x.misses + 1
    let st := if misses = 3 then ScanState.offline else x.state
    let y : ScanSlot := { x with misses := misses, state := st, lastPoll := some sent, pollBound := false
                                 schedule := dueAfter s.clock.ms sent n }
    let marks : Bool := (st != x.collState || x.word != x.collWord) && !x.mark
    s.recordPoll x.addr none sent =
      { s with scan := { slots := s.scan.slots.map fun z => if z.addr = x.addr then { y with mark := x.mark || marks } else z
                         changes := if marks then s.scan.changes ++ [x.addr] else s.scan.changes } }

/-- Every WAITING slot has a due time within 60 s of the present count: still ahead, or reached (R95, R100; 600 × 100 ms is the
longest interval). -/
def DueTimesNear (s : State) : Prop :=
  ∀ x ∈ s.scan.slots, ∀ due, x.schedule = .waiting due →
    (s.clock.ms - due).toNat ≤ 60000 ∨ (0 < (due - s.clock.ms).toNat ∧ (due - s.clock.ms).toNat ≤ 60000)

/-- SLOT_DUE: in the event in which the count has reached the due time of a WAITING slot, that slot and every other slot whose due
time has been reached become OVERDUE since their due times, and the arbiters run, so that of two slots due at one count the lower
address is picked first (R68, R70, R96). That one SLOT_DUE does so for every such slot is the model's reading (assumption log 4),
and so is when a due time has been reached, by the difference of counts modulo 2^32 (assumption log 7), and
that the arbiters of branches 0 to 3 then each run once (assumption log 16). REFILL_EXPIRY: the count rises by 1, and the timer runs again with the full period below
depth, and stops at depth; nothing else changes (R60). -/
def Obligations.SlotsAndRefillsComeDue : Prop :=
  (∀ (s : State) (x : ScanSlot) (due : Millis), s.seq.run ≠ .loading → s.scan.find? x.addr = some x → x.schedule = .waiting due →
      (s.clock.ms - due).toNat ≤ 60000 → DueTimesNear s →
      exec (.slotDue x.addr) s = .next (({ s with scan := { s.scan with
        slots := s.scan.slots.map fun (y : ScanSlot) =>
          match y.schedule with
          | .waiting d => if (s.clock.ms - d).toNat ≤ 60000 then { y with schedule := .overdue d } else y
          | .overdue _ => y } } : State).settle))
  ∧ (∀ (s : State) (x : TokenState) (r : StationRecord) (b : Budget), s.seq.run ≠ .loading →
      s.tokenState? x.addr = some x → (∀ y ∈ s.tokens, y.addr = x.addr → y = x) → x.timer = some 0 →
      s.active.record? x.addr = some r → r.budget = some b → x.count < b.depth →
      exec (.refillExpiry x.addr) s = .next { s with tokens := s.tokens.map fun y =>
        if y.addr = x.addr then
          { x with count := x.count + 1
                   timer := if x.count + 1 < b.depth then some (b.refill * 10 * 18432) else none }
        else y })


/-! ### Supervision -/

/-- The failsafe items that entry makes for a branch, in address order: none where it is in FAULT (R116). -/
def failsafeItemsFor (s : State) (b : BranchId) : List FailsafeItem :=
  if (s.branch b).state = .fault then []
  else s.active.stations.filterMap fun r =>
    if r.branch = b then
      r.failsafe.map fun a =>
        { station := r.addr, kind := a.kind, payload := a.payload, timeout := r.timeout, retries := r.retries, attempts := 0 }
    else none

/-- The slot holds a WRITE or COMMAND. -/
def holdsWrite (s : State) (slot : Nat) : Bool :=
  match s.table.find? slot with
  | some e => e.kind == .write || e.kind == .command
  | none => false

/-- What stays of a request queue at failsafe entry: READ and STATUS entries (R115). -/
def queueKept (s : State) (b : BranchId) : List QueueItem :=
  (s.branch b).queue.filter fun q => match q with
    | .station slot => !holdsWrite s slot
    | .share _ => false

/-- Failsafe entry takes the bound item away: a share, WRITE or COMMAND bound in GUARD (R74, R115). -/
def boundTaken (s : State) (b : BranchId) : Bool :=
  (s.branch b).state == .guard && (match (s.branch b).bound with
    | some (.station slot) => holdsWrite s slot
    | some (.share _) => true
    | _ => false)

/-- What failsafe entry leaves of a branch (R74, R84, R115, R116). A busy branch keeps its item, with the final-attempt mark set
on a WRITE or COMMAND past its guard, and has the failsafe items on its list; an IDLE branch with such items, or one whose bound
item was taken away, sends the first at once; one running down whose item was taken away is DISABLED. With no failsafe item an
IDLE branch stays as it is, and one whose bound item was taken away is IDLE, or picks a READ or STATUS of its queue or an overdue
poll. -/
def BranchAtFailsafe (s t : State) (b : BranchId) : Prop :=
  let x := s.branch b
  let on := (s.branchSettings b).enabled
  let own := s.active.settings.ownAddr
  (x.state ≠ .idle → boundTaken s b = false → t.branch b = { x with
      queue := queueKept s b, failsafe := failsafeItemsFor s b
      finalMark := x.finalMark || (x.state != .guard && (match x.bound with
        | some (.station slot) => holdsWrite s slot
        | _ => false)) })
  ∧ (boundTaken s b = true → on = false → t.branch b = { x.itemEnded false with
      queue := queueKept s b, failsafe := failsafeItemsFor s b })
  ∧ (∀ i rest, failsafeItemsFor s b = i :: rest →
      (boundTaken s b = true → on = true → t.branch b = { (x.itemEnded true).pickedFor (s.branchSettings b) own (.failsafe i) with
        queue := queueKept s b, failsafe := rest })
      ∧ (x.state = .idle → t.branch b = { x.pickedFor (s.branchSettings b) own (.failsafe i) with
        queue := queueKept s b, failsafe := rest }))
  ∧ (failsafeItemsFor s b = [] → boundTaken s b = true → on = true →
      let y : Branch := { x.itemEnded true with queue := queueKept s b, failsafe := [] }
      let burst := (s.branchSettings b).burst
      (queueKept s b = [] → s.overdueClaims b = [] → t.branch b = y)
      ∧ (∀ slot rest, queueKept s b = .station slot :: rest → (x.consec < burst ∨ s.overdueClaims b = []) →
          t.branch b = { y.pickedFor (s.branchSettings b) own (.station slot) with
            queue := rest, consec := min 15 (x.consec + 1) })
      ∧ ((burst ≤ x.consec ∨ queueKept s b = []) → s.overdueClaims b ≠ [] → ∃ z ∈ s.overdueClaims b, ∃ p : PollItem,
          p.station = z.addr ∧ p.attempts = 0 ∧ p.live = true
          ∧ t.branch b = { y.pickedFor (s.branchSettings b) own (.poll p) with consec := 0 }))
  ∧ (NoIdleClaim s → x.state = .idle → failsafeItemsFor s b = [] → t.branch b = x)
  ∧ (t.branch b).counters = x.counters

/-- What failsafe entry leaves of the table (R7, R8, R9, R16, R115): a WRITE or COMMAND queued, or bound in GUARD, has its answer
ABORTED FAILSAFE with its attempts; the shares queued or bound in GUARD move to not-sent, and a broadcast with nothing left
pending is DONE; any other WRITE or COMMAND that is ON_LINE, every entry WORKING, RETURNING or OUTBOUND, and every MANAGE entry but
that of the request that brings the entry on, stays as it is; so does a READ or STATUS, but for one that a branch picks. -/
def EntriesAtFailsafe (s t : State) (request : Option Nat) : Prop :=
  (∀ b slot e a, .station slot ∈ (s.branch b).queue ∨ ((s.branch b).bound = some (.station slot) ∧ (s.branch b).state = .guard) →
      s.table.find? slot = some e → (e.kind = .write ∨ e.kind = .command) → e.station = some a →
      Answered t slot { dest := e.ctrl, src := a, tag := e.tag, kind := 0x32#8, payload := [0x01#8, oct e.attempts] })
  ∧ (∀ slot e sets, s.table.find? slot = some e → e.state = .spreading → e.sets = some sets →
      SharesMoved t slot e sets s.active.settings.ownAddr fun a =>
        (s.branch a).queue.contains (.share slot)
          || ((s.branch a).state == .guard && (s.branch a).bound == some (.share slot)))
  ∧ (∀ slot e, s.table.find? slot = some e → e.state = .onLine → (e.kind = .write ∨ e.kind = .command) →
      (∀ b, (s.branch b).bound = some (.station slot) → (s.branch b).state ≠ .guard) → t.table.find? slot = some e)
  ∧ (∀ slot e, s.table.find? slot = some e → e.state = .working ∨ e.state = .returning ∨ e.state = .outbound →
      t.table.find? slot = some e)
  ∧ (∀ slot e, s.table.find? slot = some e → e.origin = .manage → request ≠ some slot → t.table.find? slot = some e)
  ∧ (∀ slot e, s.table.find? slot = some e → e.origin = .station → (e.kind = .read ∨ e.kind = .status) →
      t.table.find? slot = some e
      ∨ (e.state = .queued ∧ t.table.find? slot = some { e with state := .onLine }
          ∧ ∃ b, .station slot ∈ (s.branch b).queue ∧ (t.branch b).bound = some (.station slot)))

/-- What failsafe entry leaves (R114 to R116): the timer stopped, STAT asserted, a new report with one line for each record with
an action, SKIPPED where its branch is in FAULT and PENDING otherwise; the failsafe items listed, or the first of a free branch
bound; no share, WRITE or COMMAND left queued; READ and STATUS entries as they were but for a pick; the completions in their
order, each counted (R13, R20); and every block that has no part in it as it was. `request` is the slot of the FORCE FAILSAFE
request. -/
def FailsafeEntered (s t : State) (cause : EntryCause) (request : Option Nat) : Prop :=
  t.sup.silence = none ∧ t.sup.cause = cause ∧ t.sup.stat = true
  ∧ t.sup.lines = s.active.stations.filterMap (fun r => r.failsafe.map fun _ =>
      { station := r.addr, branch := r.branch, attempts := 0
        outcome := if (s.branch r.branch).state = .fault then .skipped else .pending })
  ∧ t.sup.state = (if ∃ l ∈ t.sup.lines, l.outcome = .pending then .failsafeSending else .failsafeHeld)
  ∧ WritesHeldBack t
  ∧ (∀ b, BranchAtFailsafe s t b)
  ∧ (TagsDistinct s → EntriesPlaced s → EntriesAtFailsafe s t request)
  ∧ (TagsDistinct s → EntriesPlaced s → CompletesInOrder s t)
  ∧ (∀ slot e, s.table.find? slot = some e → (∀ y ∈ s.table.entries, y.slot = slot → y = e) → e.origin = .station →
      (e.kind = .read ∨ e.kind = .status) → e.sets = none →
      ∃ st, t.table.find? slot = some { e with state := st })
  ∧ t.up = { s.up with queue := t.up.queue, tx := t.up.tx } ∧ t.scan.changes = s.scan.changes
  ∧ t.scan.slots.map (fun y => { y with pollBound := false }) = s.scan.slots.map (fun y => { y with pollBound := false })
  ∧ (NoIdleClaim s → (∀ b, boundTaken s b = false) → t.scan = s.scan)
  ∧ t = { s with table := t.table, up := t.up, branches := t.branches, scan := t.scan, sup := t.sup, agent := t.agent
                 free := t.free }

/-- SILENCE_EXPIRY in NORMAL: failsafe entry with cause SILENCE (R113 to R116); every controller WRITE or COMMAND queued on a
branch has its answer ABORTED FAILSAFE (R7, R16), in ascending order of admission, with consecutive numbers, each counted (R13,
R20). What a pick leaves of a frame in assembly on a branch is the model's choice (assumption log 6). -/
def Obligations.SilenceBringsFailsafe : Prop :=
  ∀ s : State, s.seq.run ≠ .loading → s.sup.state = .normal → s.sup.silence = some 0 → NoIdleClaim s → SendingHasItems s →
    LinesFollowStates s →
    ∃ t, exec .silenceExpiry s = .next t ∧ FailsafeEntered s t .silence none ∧ t.agent = s.agent ∧ t.free = s.free
      ∧ ∀ b slot e a, .station slot ∈ (s.branch b).queue → s.table.find? slot = some e → e.state = .queued →
          (e.kind = .write ∨ e.kind = .command) → e.station = some a → e.sets = none →
          Answered t slot { dest := e.ctrl, src := a, tag := e.tag, kind := 0x32#8, payload := [0x01#8, oct e.attempts] }

/-! ### Management operations -/

/-- The result code and the data of an operation that answers OK with `data` where `fits` holds, and BAD_ARGUMENT without data
otherwise (R144, R174). -/
def AnswersIf (s t : State) (slot : Nat) (e : Entry) (op : Octet) (fits : Bool) (data : List Octet) : Prop :=
  Answers s t slot e s.active.settings.ownAddr op (if fits then 0x00#8 else 0x02#8) (if fits then data else []) (.entry slot)

/-- GET IDENTITY, GET START RECORD and GET STORE: OK with their data, BAD_ARGUMENT with an argument octet; nothing but the
answer changes (R148, R161, R167, R176). GET SETTINGS, GET STATION and LIST STATIONS on the bank chosen by 00h
(ACTIVE) or 01h (SHADOW): settings, record or NO_SUCH_STATION, the first 16 addresses at or above the start; any other
bank selector, address or length is BAD_ARGUMENT (R22, R34, R177, R178). -/
def Obligations.StoredDataIsRead : Prop :=
  (∀ (s : State) (slot : Nat) (e : Entry) (args : List Octet),
      (Takes s slot e (0x01#8 :: args) → ∃ t, exec .getIdentity s = .next t ∧ AnswersIf s t slot e 0x01#8 args.isEmpty
        [0x4F#8, 0x41#8, 0x20#8, oct (0x41 + Config.revision.val), Config.serialNumber.extractLsb' 24 8,
         Config.serialNumber.extractLsb' 16 8, Config.serialNumber.extractLsb' 8 8, Config.serialNumber.extractLsb' 0 8])
      ∧ (Takes s slot e (0x02#8 :: args) → ∃ t, exec .getStartRecord s = .next t ∧ AnswersIf s t slot e 0x02#8 args.isEmpty
        [s.seq.record.cause.octet, (match s.seq.record.loaded with | some k => oct k | none => 0xFF#8),
         oct s.seq.record.spoiled, s.seq.record.sup.octet])
      ∧ (Takes s slot e (0x14#8 :: args) → ∃ t, exec .getStore s = .next t ∧ AnswersIf s t slot e 0x14#8 args.isEmpty
        ((s.store.slots.map fun c => c.state.octet)
          ++ (match s.store.busy with | .idle => [0#8, 0xFF#8] | .saving k => [1#8, oct k] | .retiring k => [2#8, oct k])
          ++ [match s.seq.record.loaded with | some k => oct k | none => 0xFF#8])))
  ∧ (∀ (s : State) (slot : Nat) (e : Entry),
      let own := s.active.settings.ownAddr
      (∀ bank c, (bank = 0x00#8 ∧ c = s.active) ∨ (bank = 0x01#8 ∧ c = s.shadow) →
        (Takes s slot e [0x03#8, bank] → ∃ t, exec .getSettings s = .next t
          ∧ Answers s t slot e own 0x03#8 0x00#8 c.settings.octets (.entry slot))
        ∧ (∀ a, Takes s slot e [0x05#8, bank, a] → ∃ t, exec .getStation s = .next t
          ∧ (a = 0#8 ∨ a = 0xFF#8 → Answers s t slot e own 0x05#8 0x02#8 [] (.entry slot))
          ∧ (a ≠ 0#8 → a ≠ 0xFF#8 →
              (c.record? a = none → Answers s t slot e own 0x05#8 0x05#8 [] (.entry slot))
              ∧ ∀ r, c.record? a = some r → Answers s t slot e own 0x05#8 0x00#8 r.octets (.entry slot)))
        ∧ (∀ start, Takes s slot e [0x08#8, bank, start] → ∃ t, exec .listStations s = .next t ∧
            let found := ((c.stations.map fun r => r.addr).filter fun a => start.toNat ≤ a.toNat).take 16
            Answers s t slot e own 0x08#8 0x00#8 (oct found.length :: found) (.entry slot)))
      ∧ (∀ args, args.length ≠ 1 ∨ (∃ bank, args.head? = some bank ∧ 1 < bank.toNat) → Takes s slot e (0x03#8 :: args) →
          ∃ t, exec .getSettings s = .next t ∧ Answers s t slot e own 0x03#8 0x02#8 [] (.entry slot))
      ∧ (∀ args, args.length ≠ 2 ∨ (∃ bank, args.head? = some bank ∧ 1 < bank.toNat) →
          (Takes s slot e (0x05#8 :: args) → ∃ t, exec .getStation s = .next t
            ∧ Answers s t slot e own 0x05#8 0x02#8 [] (.entry slot))
          ∧ (Takes s slot e (0x08#8 :: args) → ∃ t, exec .listStations s = .next t
            ∧ Answers s t slot e own 0x08#8 0x02#8 [] (.entry slot))))


/-- PUT SETTINGS with CFGEN high: a group of 21 octets that spells settings in range replaces the settings of SHADOW, OK without
data; any other argument is BAD_ARGUMENT, and nothing but the answer changes (R31, R177). PUT STATION with CFGEN high, the record
in range: it replaces the record of its address (REPLACED), is added where SHADOW holds fewer than 64 (ADDED), or is refused
MAP_FULL; octets that spell no such record are BAD_ARGUMENT. In an ordered SHADOW the record is then found under its address, and
every other address reads as before (R29, R30). -/
def Obligations.ShadowIsEditedByPut : Prop :=
  (∀ (s : State) (slot : Nat) (e : Entry) (args : List Octet), Takes s slot e (0x04#8 :: args) → Unlocked s →
      ∃ t, exec .putSettings s = .next t
        ∧ (∀ c : Settings, c.inRange = true → args = c.octets →
            Answers { s with shadow := { s.shadow with settings := c } } t slot e s.active.settings.ownAddr 0x04#8 0x00#8 []
              (.entry slot))
        ∧ ((∀ c : Settings, c.inRange = true → args ≠ c.octets) →
            Answers s t slot e s.active.settings.ownAddr 0x04#8 0x02#8 [] (.entry slot)))
  ∧ (∀ (s : State) (slot : Nat) (e : Entry) (r : StationRecord), r.inRange = true → MapOrdered s.shadow →
      Takes s slot e (0x06#8 :: r.octets) → Unlocked s →
      ∃ t, exec .putStation s = .next t
        ∧ (s.shadow.record? r.addr = none → 64 ≤ s.shadow.stations.length →
            Answers s t slot e s.active.settings.ownAddr 0x06#8 0x04#8 [] (.entry slot))
        ∧ (s.shadow.record? r.addr ≠ none ∨ s.shadow.stations.length < 64 →
            ∃ shadow, Answers { s with shadow := shadow } t slot e s.active.settings.ownAddr 0x06#8 0x00#8
                [r.addr, if (s.shadow.record? r.addr).isSome then 0x01#8 else 0x00#8] (.entry slot)
              ∧ shadow.settings = s.shadow.settings ∧ MapOrdered shadow ∧ shadow.record? r.addr = some r
              ∧ ∀ a, a ≠ r.addr → shadow.record? a = s.shadow.record? a))
  ∧ (∀ (s : State) (slot : Nat) (e : Entry) (args : List Octet), Takes s slot e (0x06#8 :: args) → Unlocked s →
      (∀ r : StationRecord, r.inRange = true → args ≠ r.octets) →
      ∃ t, exec .putStation s = .next t ∧ Answers s t slot e s.active.settings.ownAddr 0x06#8 0x02#8 [] (.entry slot))


/-- DROP STATION with CFGEN high: OK with the address and the record removed from SHADOW, NO_SUCH_STATION where SHADOW holds
none, BAD_ARGUMENT for 0, 255 and any other length; ACTIVE, and with it every effect of the record, is untouched (R32). -/
def Obligations.DropStationRemovesTheRecord : Prop :=
  ∀ (s : State) (slot : Nat) (e : Entry) (args : List Octet), Takes s slot e (0x07#8 :: args) → Unlocked s →
    ∃ t, exec .dropStation s = .next t ∧ t.active = s.active ∧ t.tokens = s.tokens ∧ t.scan = s.scan
      ∧ (∀ a, args = [a] → a ≠ 0#8 → a ≠ 0xFF#8 →
          ((∃ r ∈ s.shadow.stations, r.addr = a) →
            Answers { s with shadow := { s.shadow with stations := s.shadow.stations.filter fun r => r.addr != a } } t slot e
              s.active.settings.ownAddr 0x07#8 0x00#8 [a] (.entry slot))
          ∧ ((∀ r ∈ s.shadow.stations, r.addr ≠ a) →
            Answers s t slot e s.active.settings.ownAddr 0x07#8 0x05#8 [] (.entry slot)))
      ∧ ((∀ a, args = [a] → a = 0#8 ∨ a = 0xFF#8) →
          Answers s t slot e s.active.settings.ownAddr 0x07#8 0x02#8 [] (.entry slot))

/-- CLEAR SHADOW and REVERT SHADOW with CFGEN high: the SHADOW map is emptied and its settings stand, OK with the number of
records removed; SHADOW becomes a copy of ACTIVE, settings and map, OK with the number of records it then holds. Neither takes
an argument: with one it is BAD_ARGUMENT, without effect (R33). -/
def Obligations.ShadowIsClearedOrReverted : Prop :=
  ∀ (s : State) (slot : Nat) (e : Entry) (args : List Octet), Unlocked s →
    (Takes s slot e (0x0A#8 :: args) → ∃ t, exec .clearShadow s = .next t
      ∧ (args = [] → Answers { s with shadow := { s.shadow with stations := [] } } t slot e s.active.settings.ownAddr
          0x0A#8 0x00#8 [oct s.shadow.stations.length] (.entry slot))
      ∧ (args ≠ [] → Answers s t slot e s.active.settings.ownAddr 0x0A#8 0x02#8 [] (.entry slot)))
    ∧ (Takes s slot e (0x09#8 :: args) → ∃ t, exec .revertShadow s = .next t
      ∧ (args = [] → Answers { s with shadow := s.active } t slot e s.active.settings.ownAddr
          0x09#8 0x00#8 [oct s.active.stations.length] (.entry slot))
      ∧ (args ≠ [] → Answers s t slot e s.active.settings.ownAddr 0x09#8 0x02#8 [] (.entry slot)))

/-- COMMIT refused: BAD_ARGUMENT with an argument, STORE_BUSY with the busy operation and its slot, INVALID_SHADOW with the
first offending record and the reason of the first condition it breaks; nothing but the answer changes, and the answer carries
the release note RATE (R35, R36, R128). -/
def Obligations.CommitRefusals : Prop :=
  ∀ (s : State) (slot : Nat) (e : Entry) (args : List Octet), Takes s slot e (0x0B#8 :: args) → Unlocked s →
    let refused (code : Octet) (data : List Octet) : Prop := ∃ t, exec .commit s = .next t
      ∧ Answers s t slot e s.active.settings.ownAddr 0x0B#8 code data (.entryRate slot)
    (args ≠ [] → refused 0x02#8 [])
    ∧ (args = [] →
      (∀ k, s.store.busy = .saving k → refused 0x07#8 [0x01#8, oct k])
      ∧ (∀ k, s.store.busy = .retiring k → refused 0x07#8 [0x02#8, oct k])
      ∧ (s.store.busy = .idle → ∀ before r after, s.shadow.stations = before ++ r :: after →
          (∀ x ∈ before, brokenCondition s.shadow.settings x = none) →
          let set := s.shadow.settings
          ((set.branch.get r.branch).enabled = false → refused 0x06#8 [r.addr, 0x01#8])
          ∧ ((set.branch.get r.branch).enabled = true →
            (r.addr = set.ownAddr → refused 0x06#8 [r.addr, 0x02#8])
            ∧ (r.addr ≠ set.ownAddr → r.windows = none → ∀ a, r.failsafe = some a →
                shapeOk (match a.kind with | .write => .write | .command => .command) a.payload = false →
                refused 0x06#8 [r.addr, 0x05#8])
            ∧ (r.addr ≠ set.ownAddr → ∀ ws, r.windows = some ws →
              ((∃ w ∈ ws, w.last < w.first) → refused 0x06#8 [r.addr, 0x03#8])
              ∧ ((∀ w ∈ ws, w.first ≤ w.last) →
                (¬ ws.Pairwise (fun w x => w.last < x.first) → refused 0x06#8 [r.addr, 0x04#8])
                ∧ (ws.Pairwise (fun w x => w.last < x.first) → ∀ a, r.failsafe = some a →
                  shapeOk (match a.kind with | .write => .write | .command => .command) a.payload = false →
                  refused 0x06#8 [r.addr, 0x05#8]))))))

/-- The slot of a station with scan interval `n` in the new ACTIVE (R40): kept where the station was scanned before, with the
due time of the new interval where that has changed and the slot has been polled, and created due at once otherwise. -/
def slotAtCommit (s : State) (a : Octet) (n : Nat) : ScanSlot :=
  match s.active.scan? a, s.scan.find? a with
  | some m, some x =>
    match x.lastPoll with
    | some last => if m = n then x else { x with schedule := dueAfter s.clock.ms last n }
    | none => x
  | _, _ =>
    { addr := a, state := .unknown, word := none, collState := .unknown, collWord := none, misses := 0
      schedule := .overdue s.clock.ms, pollBound := false, lastPoll := none, mark := false }

/-- The commit of SHADOW withdraws ENABLED from the branch (R37). -/
def withdrawn (s : State) (b : BranchId) : Bool :=
  (s.branchSettings b).enabled && !(s.shadow.settings.branch.get b).enabled

/-- A bound item after the commit: a poll whose slot the commit discards records nothing when it ends (R40, R107). -/
def boundAtCommit (s : State) : Option BoundItem → Option BoundItem
  | some (.poll p) => some (.poll { p with live := p.live && (s.shadow.scan? p.station).isSome })
  | i => i

/-- What a commit leaves of a branch (R37, R38, R89). With ENABLED withdrawn, its queue and failsafe list are empty: with nothing
bound it is DISABLED with its receiver off and its probe stopped, a share in GUARD is unbound, and any other item runs down with
the final-attempt mark. With ENABLED granted a DISABLED branch is IDLE with both counts at 0, or has picked. Any other branch
stays as it is, but that an IDLE one may pick a poll of a slot that the commit has made due. -/
def BranchAtCommit (s t : State) (b : BranchId) : Prop :=
  let x := s.branch b
  let after := (s.shadow.settings.branch.get b).enabled
  (withdrawn s b = true →
      (x.bound = none → t.branch b = { x with
        state := .disabled, queue := [], failsafe := [], probeTimer := none, probeQuiet := none, rx := .off, phase := .stopped })
      ∧ (∀ k, x.bound = some (.share k) → x.state = .guard → t.branch b = { x.itemEnded false with queue := [], failsafe := [] })
      ∧ (x.bound ≠ none → (x.state ≠ .guard ∨ ∀ k, x.bound ≠ some (.share k)) → t.branch b = { x with
        queue := [], failsafe := [], finalMark := true, bound := boundAtCommit s x.bound }))
  ∧ ((s.branchSettings b).enabled = false → after = true → x.state = .disabled →
      (t.branch b).interrupts = 0 ∧ ((t.branch b).state = .idle ∨ (t.branch b).state = .guard)
      ∧ (x.queue = [] → (t.branch b).consec = 0)
      ∧ (t.branch b).pollTag = x.pollTag ∧ (t.branch b).counters = x.counters)
  ∧ (withdrawn s b = false → x.state ≠ .idle → ((s.branchSettings b).enabled = false → after = true → x.state ≠ .disabled) →
      t.branch b = { x with bound := boundAtCommit s x.bound })
  ∧ (withdrawn s b = false → (x.state = .idle ∨ (x.state = .disabled ∧ (s.branchSettings b).enabled = false ∧ after = true)) →
      x.queue = [] → x.failsafe = [] → x.bound = none →
      let y : Branch := if x.state = .idle then x else { x with state := .idle, interrupts := 0, consec := 0, rx := .outside }
      t.branch b = y ∨ ∃ p : PollItem, p.attempts = 0 ∧ p.live = true ∧ (MapOrdered s.shadow → (s.shadow.scan? p.station).isSome = true)
        ∧ t.branch b = { y.pickedFor (s.shadow.settings.branch.get b) s.shadow.settings.ownAddr (.poll p) with consec := 0 })

/-- What a commit leaves of the entries on branches whose ENABLED it withdraws (R7, R8, R9, R37): a QUEUED STATION entry has its
answer ABORTED BRANCH_DISABLED; the shares queued or bound in GUARD move to not-sent, and a broadcast with nothing left pending is
DONE, in the name of the new OWN_ADDR (the model's reading, assumption log 9); an entry ON_LINE, WORKING, RETURNING or OUTBOUND
stays as it is, and so does every other QUEUED one, STATION or MANAGE, but that of the COMMIT request, unless its branch was IDLE or
DISABLED and picks it, which no run brings about. -/
def EntriesAtCommit (s t : State) (request : Nat) : Prop :=
  (∀ b slot e a, withdrawn s b = true → .station slot ∈ (s.branch b).queue → s.table.find? slot = some e → e.station = some a →
      Answered t slot { dest := e.ctrl, src := a, tag := e.tag, kind := 0x32#8, payload := [0x02#8, oct e.attempts] })
  ∧ (∀ slot e sets, s.table.find? slot = some e → e.state = .spreading → e.sets = some sets →
      SharesMoved t slot e sets s.shadow.settings.ownAddr fun a => withdrawn s a
        && ((s.branch a).queue.contains (.share slot)
          || ((s.branch a).state == .guard && (s.branch a).bound == some (.share slot))))
  ∧ (∀ slot e, s.table.find? slot = some e → e.state ≠ .queued → e.state ≠ .spreading → t.table.find? slot = some e)
  ∧ (∀ slot e, s.table.find? slot = some e → e.state = .queued → slot ≠ request →
      (∀ b, withdrawn s b = true → .station slot ∉ (s.branch b).queue) →
      t.table.find? slot = some e
      ∨ (t.table.find? slot = some { e with state := .onLine }
          ∧ ∃ b, .station slot ∈ (s.branch b).queue ∧ ((s.branch b).state = .idle ∨ (s.branch b).state = .disabled)))

/-- COMMIT of a valid SHADOW with CFGEN high and the store idle: ACTIVE takes a copy of SHADOW, which stays; the COMMIT entry
completes in the event with OK and the number of records, in the name of the OWN_ADDR in force before, with the release note
RATE; the tokens, the scan slots with the change list, the silence timer and the branches whose ENABLED changes follow, with the
entries and the failsafe items that waited on a branch withdrawn; the entries complete in ascending order of admission, with
consecutive numbers, and each counts under its kind; every other block stays as it is (R7 to R9, R13, R17, R20, R36 to R41, R89,
R107, R118, R119, R128). Which OWN_ADDR the COMMIT answer and a DONE of the same event carry is the model's reading
(assumption log 9), and what a pick leaves of a frame in assembly on a branch its choice (assumption log 6). -/
def Obligations.CommitReplacesActive : Prop :=
  ∀ (s : State) (slot : Nat) (e : Entry), Takes s slot e [0x0B#8] → Unlocked s → s.store.busy = .idle →
    s.shadow.offence = none → (∀ b, .station slot ∉ (s.branch b).queue) → SendingHasItems s → LinesFollowStates s →
    TagsDistinct s →
    let gone (b : BranchId) : List FailsafeItem := if withdrawn s b then (s.branch b).failsafe else []
    let items := gone .b0 ++ gone .b1 ++ gone .b2 ++ gone .b3
    let answer : Frame := { dest := e.ctrl, src := s.active.settings.ownAddr, tag := e.tag, kind := 0x3F#8
                            payload := [0x0B#8, 0x00#8, oct s.shadow.stations.length] }
    ∃ t, exec .commit s = .next t ∧ t.active = s.shadow ∧ t.shadow = s.shadow ∧ AgentGoesOn s t
      ∧ Answered t slot answer
      ∧ ({ frame := answer, note := .entryRate slot } ∈ t.up.queue ∨ slot ∈ t.table.returning)
      ∧ t.tokens = s.shadow.stations.filterMap (fun r => r.budget.map fun b =>
          match (s.active.record? r.addr).bind fun x => x.budget, s.tokenState? r.addr with
          | some _, some x => { addr := r.addr, count := min x.count b.depth
                                timer := if min x.count b.depth = b.depth then none else some (b.refill * 10 * 18432) }
          | _, _ => { addr := r.addr, count := b.depth, timer := none })
      ∧ t.scan.changes = s.scan.changes.filter (fun a => (s.shadow.scan? a).isSome)
      ∧ t.scan.slots.map (fun x => { x with pollBound := false })
          = s.shadow.stations.filterMap (fun r => r.scan.map fun n => { slotAtCommit s r.addr n with pollBound := false })
      ∧ (MapOrdered s.shadow → ∀ r n, r ∈ s.shadow.stations → r.scan = some n → (slotAtCommit s r.addr n).pollBound = true →
          ∃ x, t.scan.find? r.addr = some x ∧ x.pollBound = true)
      ∧ t.sup = { s.sup with
          silence := if s.shadow.settings.silence = s.active.settings.silence ∨ s.sup.state ≠ .normal then s.sup.silence
            else if s.shadow.settings.silence = 0 then none else some (s.shadow.settings.silence * 100 * 18432)
          lines := s.sup.lines.map fun l =>
            match items.find? fun f => f.station == l.station with
            | some f => if l.outcome = .pending then { l with outcome := .skipped, attempts := f.attempts } else l
            | none => l
          state := if s.sup.state = .failsafeSending ∧ s.failsafeLeft = items.length then .failsafeHeld else s.sup.state }
      ∧ (∀ b, BranchAtCommit s t b)
      ∧ (EntriesPlaced s → EntriesAtCommit s t slot ∧ CompletesInOrder s t)
      ∧ t.agent.working = s.agent.working
      ∧ t.up = { s.up with queue := t.up.queue, tx := t.up.tx }
      ∧ t = { s with active := t.active, tokens := t.tokens, table := t.table, up := t.up, branches := t.branches, scan := t.scan
                     sup := t.sup, agent := t.agent, free := t.free }

/-- GET CHANGES with max 1 to 8: the first items leave the change list, each reported with state, absent flag and word as the
slot holds them, which become its collected pair, and its mark is cleared; any other argument is BAD_ARGUMENT (R104, R176). -/
def Obligations.CollectionReportsAndClears : Prop :=
  ∀ (s : State) (slot : Nat) (e : Entry) (args : List Octet), Takes s slot e (0x0C#8 :: args) →
    ∃ t, exec .getChanges s = .next t
      ∧ ((∀ max, args = [max] → max = 0#8 ∨ 8 < max.toNat) →
          Answers s t slot e s.active.settings.ownAddr 0x0C#8 0x02#8 [] (.entry slot))
      ∧ ∀ max : Octet, args = [max] → 1 ≤ max.toNat → max.toNat ≤ 8 →
          let taken := s.scan.changes.take max.toNat
          let items := taken.flatMap fun a => match s.scan.find? a with
            | some x => [x.addr, x.state.octet, (if x.word.isNone then 0x01#8 else 0x00#8)]
                ++ (match x.word with | some w => [w.extractLsb' 8 8, w.extractLsb' 0 8] | none => [0xFF#8, 0xFF#8])
            | none => []
          Answers
            { s with scan := { slots := s.scan.slots.map fun x =>
                                 if x.addr ∈ taken then { x with collState := x.state, collWord := x.word, mark := false }
                                 else x
                               changes := s.scan.changes.drop max.toNat } }
            t slot e s.active.settings.ownAddr 0x0C#8 0x00#8
            (oct taken.length :: items ++ [oct (s.scan.changes.length - max.toNat)]) (.entry slot)

/-- PEEK STATUS, GET BRANCH, GET TRANSACTIONS and GET FAILSAFE REPORT: the data of R105, R93, R152 and R123 as the state holds
them, or NO_SUCH_STATION, or BAD_ARGUMENT for an argument out of its range or of the wrong length; nothing but the answer
changes (R151, R176). The attempts 0 that GET BRANCH answers for a branch with no item bound are the model's choice
(assumption log 13), and so is the comparison of due times modulo 2^32 behind the time to the next poll (assumption log 7). -/
def Obligations.ViewsAnswer : Prop :=
  ∀ (s : State) (slot : Nat) (e : Entry),
    let own := s.active.settings.ownAddr
    (∀ a, Takes s slot e [0x0D#8, a] → ∃ t, exec .peekStatus s = .next t
      ∧ (a = 0#8 ∨ a = 0xFF#8 → Answers s t slot e own 0x0D#8 0x02#8 [] (.entry slot))
      ∧ (a ≠ 0#8 → a ≠ 0xFF#8 → s.scan.find? a = none → Answers s t slot e own 0x0D#8 0x05#8 [] (.entry slot))
      ∧ (a ≠ 0#8 → a ≠ 0xFF#8 → ∀ x r, s.scan.find? a = some x → s.active.record? a = some r →
          Answers s t slot e own 0x0D#8 0x00#8
            ([x.addr, oct r.branch.toNat, x.state.octet] ++ wordField x.word ++ [x.collState.octet] ++ wordField x.collWord
              ++ [oct ((if x.word.isNone then 1 else 0) + (if x.collWord.isNone then 2 else 0) + (if x.mark then 4 else 0)
                    + (if x.pollBound then 8 else 0)), oct x.misses]
              ++ twoOct (match x.schedule with
                  | .overdue _ => 0
                  | .waiting due => if (s.clock.ms - due).toNat < 2 ^ 31 then 0 else (due - s.clock.ms).toNat))
            (.entry slot)))
    ∧ (∀ n : Octet, Takes s slot e [0x10#8, n] → ∃ t, exec .getBranch s = .next t
      ∧ (3 < n.toNat → Answers s t slot e own 0x10#8 0x02#8 [] (.entry slot))
      ∧ (∀ b : BranchId, b.toNat = n.toNat → Answers s t slot e own 0x10#8 0x00#8
          ([n, (s.branch b).state.octet, oct (s.branch b).queue.length, oct (s.branch b).failsafe.length]
            ++ (match (s.branch b).bound with
              | none => [0x00#8, 0xFF#8, 0x00#8]
              | some (.station k) =>
                [0x01#8, (match s.table.find? k with
                    | some x => (match x.station with | some a => a | none => 0xFF#8)
                    | none => 0xFF#8),
                 (match s.table.find? k with | some x => oct x.attempts | none => 0x00#8)]
              | some (.share _) => [0x02#8, 0xFF#8, 0x00#8]
              | some (.poll p) => [0x03#8, p.station, oct p.attempts]
              | some (.failsafe f) => [0x04#8, f.station, oct f.attempts])
            ++ [oct (s.branch b).interrupts, oct (s.branch b).consec, oct (s.overdueClaims b).length]) (.entry slot)))
    ∧ (∀ n : Octet, Takes s slot e [0x11#8, n] → ∃ t, exec .getTransactions s = .next t
      ∧ (24 ≤ n.toNat → Answers s t slot e own 0x11#8 0x02#8 [] (.entry slot))
      ∧ (n.toNat < 24 →
          let shown := (s.table.entries.filter fun x => n.toNat ≤ x.slot).take 10
          Answers s t slot e own 0x11#8 0x00#8
            ([oct s.table.entries.length, oct shown.length] ++ shown.flatMap fun x =>
              [oct x.slot, x.tag, x.origin.octet, x.state.octet, (match x.station with | some a => a | none => 0xFF#8),
               oct x.attempts]) (.entry slot)))
    ∧ (∀ start : Octet, Takes s slot e [0x17#8, start] → ∃ t, exec .getFailsafeReport s = .next t ∧
        let shown := (s.sup.lines.filter fun l => start.toNat ≤ l.station.toNat).take 12
        Answers s t slot e own 0x17#8 0x00#8
          ([s.sup.state.octet, s.sup.cause.octet, oct s.sup.lines.length, oct shown.length] ++ shown.flatMap fun l =>
            [l.station, oct l.branch.toNat, l.outcome.octet, oct l.attempts]) (.entry slot))
    ∧ (∀ op c args, (op, c) ∈ [(0x0D#8, Instr.peekStatus), (0x10#8, .getBranch), (0x11#8, .getTransactions),
          (0x17#8, .getFailsafeReport)] → args.length ≠ 1 → Takes s slot e (op :: args) →
        ∃ t, exec c s = .next t ∧ Answers s t slot e own op 0x02#8 [] (.entry slot))

/-- GET COUNTERS and CLEAR COUNTERS: the group echoed with its counters in order, 2 octets each; the clearing sets them to 0
after the read, and its own MANAGED count comes after it. ALL clears every group without values, and GET COUNTERS refuses it
(R149, R150). -/
def Obligations.CountersAreReadAndCleared : Prop :=
  ∀ (s : State) (slot : Nat) (e : Entry) (g : Octet),
    let own := s.active.settings.ownAddr
    let u := s.up.counters
    let c := s.table.counters
    let two (ws : List Word16) : List Octet := ws.flatMap fun w => [w.extractLsb' 8 8, w.extractLsb' 0 8]
    let upValues := two [u.validIn, u.check, u.gap, u.length, u.noise, u.discard, u.discardRestart, u.refusalsSent,
      u.refusalDropped, u.framesOut]
    let branchValues (b : BranchId) :=
      let x := (s.branch b).counters
      two [x.attempts, x.replies, x.silent, x.corrupt, x.stray, x.guardInterrupts, x.faults, x.recoveries]
    let txnValues := two [c.admitted, c.relayed, c.noAnswer, c.aborted, c.done, c.managed]
    let zeroed (b : BranchId) : Branch := { s.branch b with counters := BranchCounters.zero }
    let noUp : Upstream := { s.up with counters := UpCounters.zero }
    let noTxn : Table := { s.table with counters := TxnCounters.zero }
    (Takes s slot e [0x0E#8, g] → ∃ t, exec .getCounters s = .next t
      ∧ (g = 0x00#8 → Answers s t slot e own 0x0E#8 0x00#8 (g :: upValues) (.entry slot))
      ∧ (∀ b : BranchId, g.toNat = b.toNat + 1 → Answers s t slot e own 0x0E#8 0x00#8 (g :: branchValues b) (.entry slot))
      ∧ (g = 0x05#8 → Answers s t slot e own 0x0E#8 0x00#8 (g :: txnValues) (.entry slot))
      ∧ (5 < g.toNat → Answers s t slot e own 0x0E#8 0x02#8 [] (.entry slot)))
    ∧ (Takes s slot e [0x0F#8, g] → ∃ t, exec .clearCounters s = .next t
      ∧ (g = 0x00#8 → Answers { s with up := noUp } t slot e own 0x0F#8 0x00#8 (g :: upValues) (.entry slot))
      ∧ (∀ b : BranchId, g.toNat = b.toNat + 1 →
          Answers (s.setBranch b (zeroed b)) t slot e own 0x0F#8 0x00#8 (g :: branchValues b) (.entry slot))
      ∧ (g = 0x05#8 → Answers { s with table := noTxn } t slot e own 0x0F#8 0x00#8 (g :: txnValues) (.entry slot))
      ∧ (g = 0xFF#8 → Answers
          { s with up := noUp, table := noTxn, branches := ⟨zeroed .b0, zeroed .b1, zeroed .b2, zeroed .b3⟩ } t slot e own
          0x0F#8 0x00#8 [g] (.entry slot))
      ∧ (5 < g.toNat → g ≠ 0xFF#8 → Answers s t slot e own 0x0F#8 0x02#8 [] (.entry slot)))
    ∧ (∀ op c args, (op, c) ∈ [(0x0E#8, Instr.getCounters), (0x0F#8, .clearCounters)] → args.length ≠ 1 →
        Takes s slot e (op :: args) →
        ∃ t, exec c s = .next t ∧ Answers s t slot e own op 0x02#8 [] (.entry slot))

/-- RESUME: in FAILSAFE_HELD it brings NORMAL, releases STAT and starts the silence timer; in FAILSAFE_SENDING it is
NOT_READY with the number of items left; in NORMAL STATE_MISMATCH with the state; with an argument BAD_ARGUMENT
(R121). FORCE FAILSAFE: in NORMAL failsafe entry with cause FORCED, answered OK with the numbers of items listed and
of lines made SKIPPED, its own entry completing in its place by admission time (R13); in a failsafe state STATE_MISMATCH with the
state; with an argument BAD_ARGUMENT (R114 to R116, R122). What a pick leaves of a frame in assembly on a branch is the model's
choice (assumption log 6). -/
def Obligations.SupervisionOperations : Prop :=
  (∀ (s : State) (slot : Nat) (e : Entry) (args : List Octet), Takes s slot e (0x15#8 :: args) →
      let own := s.active.settings.ownAddr
      ∃ t, exec .resume s = .next t
        ∧ (args ≠ [] → Answers s t slot e own 0x15#8 0x02#8 [] (.entry slot))
        ∧ (args = [] → s.sup.state = .failsafeHeld → Answers
            { s with sup := { s.sup with
                state := .normal, stat := false
                silence := if s.active.settings.silence = 0 then none else some (s.active.settings.silence * 100 * 18432) } }
            t slot e own 0x15#8 0x00#8 [] (.entry slot))
        ∧ (args = [] → s.sup.state = .failsafeSending →
            Answers s t slot e own 0x15#8 0x0C#8 [oct s.failsafeLeft] (.entry slot))
        ∧ (args = [] → s.sup.state = .normal → Answers s t slot e own 0x15#8 0x0B#8 [0x00#8] (.entry slot)))
  ∧ (∀ (s : State) (slot : Nat) (e : Entry) (args : List Octet), Takes s slot e (0x16#8 :: args) →
      let own := s.active.settings.ownAddr
      ∃ t, exec .forceFailsafe s = .next t
        ∧ (args ≠ [] → Answers s t slot e own 0x16#8 0x02#8 [] (.entry slot))
        ∧ (args = [] → s.sup.state ≠ .normal → Answers s t slot e own 0x16#8 0x0B#8 [s.sup.state.octet] (.entry slot))
        ∧ (args = [] → s.sup.state = .normal → SendingHasItems s → LinesFollowStates s → TagsDistinct s →
            (∀ b, .station slot ∉ (s.branch b).queue ∧ (s.branch b).bound ≠ some (.station slot)) →
            FailsafeEntered s t .forced (some slot) ∧ AgentGoesOn s t ∧ t.agent.working = s.agent.working
            ∧ Answered t slot { dest := e.ctrl, src := own, tag := e.tag, kind := 0x3F#8
                                payload := [0x16#8, 0x00#8,
                                  oct (t.sup.lines.filter fun l => l.outcome = .pending).length,
                                  oct (t.sup.lines.filter fun l => l.outcome = .skipped).length] }))


/-- SAVE IMAGE and RETIRE IMAGE with CFGEN high in RUNNING: refused BAD_ARGUMENT, STORE_BUSY, STORE_FULL or SLOT_STATE, or
accepted and left WORKING: a save takes the lowest BLANK slot, which becomes WRITING with its header mark and the image of
ACTIVE, and a retire names a VALID slot, which stays VALID (R141, R154, R157, R159). -/
def Obligations.StoreOperationsBegin : Prop :=
  ∀ (s : State) (slot : Nat) (e : Entry), Unlocked s → s.seq.run = .running → s.store.slots.length = 8 →
    let own := s.active.settings.ownAddr
    let working (t : State) (w : Working) : Prop :=
      t.table = s.table.update slot (fun x => { x with state := .working }) ∧ t.agent.working = some w ∧ AgentGoesOn s t
      ∧ t = { s with table := t.table, agent := t.agent, store := t.store, free := t.free }
    (∀ args, Takes s slot e (0x12#8 :: args) → ∃ t, exec .saveImage s = .next t
      ∧ (args ≠ [] → Answers s t slot e own 0x12#8 0x02#8 [] (.entry slot))
      ∧ (args = [] → s.store.busy ≠ .idle → Answers s t slot e own 0x12#8 0x07#8 s.store.busy.octets (.entry slot))
      ∧ (args = [] → s.store.busy = .idle → (∀ c ∈ s.store.slots, c.state ≠ .blank) →
          Answers s t slot e own 0x12#8 0x08#8 [] (.entry slot))
      ∧ (args = [] → s.store.busy = .idle → ∀ before c after, s.store.slots = before ++ c :: after → c.state = .blank →
          (∀ x ∈ before, x.state ≠ .blank) →
          working t { slot := slot, op := .save, image := before.length }
          ∧ t.store = { busy := .saving before.length
                        slots := before ++ { c with state := .writing, header := true, image := some s.active
                                                    checkGood := false, verify := false } :: after }))
    ∧ (∀ args, Takes s slot e (0x13#8 :: args) → ∃ t, exec .retireImage s = .next t
      ∧ ((∀ n : Octet, args = [n] → 8 ≤ n.toNat) → Answers s t slot e own 0x13#8 0x02#8 [] (.entry slot))
      ∧ ∀ n : Octet, args = [n] → n.toNat < 8 →
          (s.store.busy ≠ .idle → Answers s t slot e own 0x13#8 0x07#8 s.store.busy.octets (.entry slot))
          ∧ (s.store.busy = .idle → ∀ c, s.store.slot? n.toNat = some c →
            (c.state ≠ .valid → Answers s t slot e own 0x13#8 0x0A#8 [n, c.state.octet] (.entry slot))
            ∧ (c.state = .valid → working t { slot := slot, op := .retire, image := n.toNat }
                ∧ t.store = { s.store with busy := .retiring n.toNat })))

/-- END_OF_SAVE and END_OF_RETIRE: the slot becomes VALID with its verify mark, or SPOILED without, or RETIRED with its retire
mark; the store is IDLE; the WORKING entry completes with OK or SAVE_FAILED and the slot number, in the name of OWN_ADDR as it
now stands (R17, R141, R158, R159). That the image stands and its check is bad where verify found a mismatch is the model's
choice (assumption log 12). -/
def Obligations.StoreOperationsEnd : Prop :=
  ∀ (s : State) (k slot : Nat) (e : Entry) (c : ImageSlot) (op : StoreOp), s.seq.run ≠ .loading →
    s.agent.working = some { slot := slot, op := op, image := k } → s.table.find? slot = some e → e.state = .working →
    e.origin = .manage → s.store.slot? k = some c →
    let done (t : State) (code : Octet) (number : Octet) : Prop :=
      Completes s t slot e { dest := e.ctrl, src := s.active.settings.ownAddr, tag := e.tag, kind := 0x3F#8
                             payload := [number, code, oct k] } (.entry slot) (fun n => { n with managed := bump n.managed })
      ∧ t.agent = { s.agent with working := none } ∧ t.store.busy = .idle
      ∧ (∀ j, j ≠ k → t.store.slot? j = s.store.slot? j)
      ∧ t = { s with table := t.table, up := t.up, agent := t.agent, store := t.store }
    (s.store.busy = .saving k → op = .save →
      (∃ t, exec (.endOfSave true) s = .next t ∧ done t 0x00#8 0x12#8
        ∧ t.store.slot? k = some { c with state := .valid, checkGood := true, verify := true })
      ∧ (∃ t, exec (.endOfSave false) s = .next t ∧ done t 0x09#8 0x12#8
        ∧ t.store.slot? k = some { c with state := .spoiled, checkGood := false, verify := false }))
    ∧ (s.store.busy = .retiring k → op = .retire →
      ∃ t, exec .endOfRetire s = .next t ∧ done t 0x00#8 0x13#8
        ∧ t.store.slot? k = some { c with state := .retired, retire := true })

/-- RESTART in RUNNING: BAD_ARGUMENT for anything but one octet 1 or 2, STORE_BUSY, or OK with the argument echoed, the run
state RESTART_PENDING, and the release note of its kind on the answer (R128, R165). -/
def Obligations.RestartIsAccepted : Prop :=
  ∀ (s : State) (slot : Nat) (e : Entry) (args : List Octet), Takes s slot e (0x18#8 :: args) → s.seq.run = .running →
    let own := s.active.settings.ownAddr
    ∃ t, exec .restart s = .next t
      ∧ (args ≠ [0x01#8] → args ≠ [0x02#8] → Answers s t slot e own 0x18#8 0x02#8 [] (.entry slot))
      ∧ (args = [0x01#8] ∨ args = [0x02#8] → s.store.busy ≠ .idle →
          Answers s t slot e own 0x18#8 0x07#8 s.store.busy.octets (.entry slot))
      ∧ (s.store.busy = .idle →
          (args = [0x01#8] → Answers { s with seq := { s.seq with run := .restartPending } } t slot e own 0x18#8 0x00#8
            [0x01#8] (.entryRestart slot .warm))
          ∧ (args = [0x02#8] → Answers { s with seq := { s.seq with run := .restartPending } } t slot e own 0x18#8 0x00#8
            [0x02#8] (.entryRestart slot .cold)))

/-- The agent's checks that come before the operation's own (R140, R142, R143, R145): BAD_ARGUMENT, with operation 00h echoed, for
an empty payload, BAD_OPERATION for an unknown number, NOT_READY for SAVE IMAGE, RETIRE IMAGE and RESTART in RESTART_PENDING, then
LOCKED for the eight locked operations with CFGEN low, whatever the argument. Nothing but the answer changes. -/
def Obligations.EarlyChecksRefuse : Prop :=
  ∀ (s : State) (slot : Nat) (e : Entry),
    let own := s.active.settings.ownAddr
    (Takes s slot e [] → ∃ t, exec .badOperation s = .next t ∧ Answers s t slot e own 0x00#8 0x02#8 [] (.entry slot))
    ∧ (∀ (op : Octet) args, op = 0x00#8 ∨ 0x18 < op.toNat → Takes s slot e (op :: args) →
        ∃ t, exec .badOperation s = .next t ∧ Answers s t slot e own op 0x01#8 [] (.entry slot))
    ∧ (∀ op c args, (op, c) ∈ [(0x12#8, Instr.saveImage), (0x13#8, Instr.retireImage), (0x18#8, Instr.restart)] →
        s.seq.run = .restartPending → Takes s slot e (op :: args) →
        ∃ t, exec c s = .next t ∧ Answers s t slot e own op 0x0C#8 [] (.entry slot))
    ∧ (∀ op c note args, (op, c, note) ∈ [(0x04#8, Instr.putSettings, ReleaseNote.entry slot),
          (0x06#8, .putStation, .entry slot), (0x07#8, .dropStation, .entry slot), (0x09#8, .revertShadow, .entry slot),
          (0x0A#8, .clearShadow, .entry slot), (0x0B#8, .commit, .entryRate slot), (0x12#8, .saveImage, .entry slot),
          (0x13#8, .retireImage, .entry slot)] →
        LockedOut s → (s.seq.run = .restartPending → op ≠ 0x12#8 ∧ op ≠ 0x13#8) → Takes s slot e (op :: args) →
        ∃ t, exec c s = .next t ∧ Answers s t slot e own op 0x03#8 [] note)

/-! ### Whole-machine laws -/

/-- The upstream outbound queue never holds more than 8 frames, no branch queue more than 8 items and the agent queue no more
than 4 entries; a sending transmitter has a frame, and an IDLE one in a live part has none (R66, R128, R130, R138). While an
entry is RETURNING the outbound queue is full: nothing waits while there is room (R14, R18). The premises of that law are the
conditions of `StepsKeepTagsDistinct`. -/
def Obligations.StepsKeepQueues : Prop :=
  (∀ s t : State, QueuesBounded s → step s = .next t → QueuesBounded t)
  ∧ ∀ s t : State, TagsDistinct s → EntriesPlaced s → ReturningWaits s → step s = .next t → ReturningWaits t

/-- No two occupied transaction entries hold the same tag, and entries are in distinct slots 0 to 23 (R1, R3). Every entry stands
in exactly the place its state names, with the fields of its origin, and every queue item, bound item, reference and outbound
answer names such an entry: no entry is lost, and none is answered twice (R2, R4, R5, R8, R10, R12, R14, R18, R66). One premise
of that law is the condition of `StepsKeepLines`. -/
def Obligations.StepsKeepTagsDistinct : Prop :=
  (∀ s t : State, TagsDistinct s → step s = .next t → TagsDistinct t)
  ∧ ∀ s t : State, TagsDistinct s → LinesFollowStates s → EntriesPlaced s → step s = .next t → EntriesPlaced t

/-- Every branch stays in line with the table of R64: bound item, driver-enable output and receiver follow the state (R64,
R75, R180, R182). A branch line carries a frame exactly while its driver is on, and marks at all other times, in a part held
reset too (R75, R181, R182). -/
def Obligations.StepsKeepLines : Prop :=
  (∀ s t : State, LinesFollowStates s → step s = .next t → LinesFollowStates t)
  ∧ ∀ s t : State, LinesFollowStates s → FramesFollowDrivers s → step s = .next t → FramesFollowDrivers t

/-- The interrupted-guard count, the consecutive-controller count and the misses stay in their ranges (R63, R95). -/
def Obligations.StepsKeepCounts : Prop :=
  ∀ s t : State, CountsInRange s → step s = .next t → CountsInRange t

/-- An IDLE branch has no claimant (R68). -/
def Obligations.StepsKeepIdleUnclaimed : Prop :=
  ∀ s t : State, NoIdleClaim s → step s = .next t → NoIdleClaim t

/-- STAT is asserted in the failsafe states and released in NORMAL, and while the part is held reset or LOADING (R124). -/
def Obligations.StepsKeepStat : Prop :=
  ∀ s t : State, StatFollows s → step s = .next t → StatFollows t

/-- Failsafe items are listed or bound in FAILSAFE_SENDING and in no other state (R111, R119). The premise is the condition of
`StepsKeepLines`. -/
def Obligations.StepsKeepFailsafeItems : Prop :=
  ∀ s t : State, LinesFollowStates s → SendingHasItems s → step s = .next t → SendingHasItems t

/-- No controller WRITE, COMMAND or broadcast begins transmission outside NORMAL (R117): the work that R115 takes away stays
away through every step, and what a guard's completion sends outside NORMAL is none of it. -/
def Obligations.FailsafeHoldsWritesBack : Prop :=
  (∀ s t : State, WritesHeldBack s → step s = .next t → WritesHeldBack t)
  ∧ ∀ (s t : State) (b : BranchId), WritesHeldBack s → s.sup.state ≠ .normal → exec (.guardComplete b) s = .next t →
      ∀ slot, (t.branch b).bound ≠ some (.share slot)
        ∧ ((t.branch b).bound = some (.station slot) →
            ∀ e, t.table.find? slot = some e → e.kind ≠ .write ∧ e.kind ≠ .command)

/-- ACTIVE, SHADOW and the images of the store hold maps of at most 64 records in strictly ascending address order (R29).
The ACTIVE configuration set always satisfies the validation conditions (R35, R36, R163). -/
def Obligations.StepsKeepConfigurations : Prop :=
  (∀ s t : State, MapsOrdered s → step s = .next t → MapsOrdered t)
  ∧ (∀ s t : State, ActiveValid s → step s = .next t → ActiveValid t)


/-- A station's token count lies between 0 and its depth, and token state is held for the budgeted stations of ACTIVE (R59). The
premise is the condition of `StepsKeepConfigurations`. -/
def Obligations.StepsKeepTokens : Prop :=
  ∀ s t : State, MapsOrdered s → TokensBounded s → step s = .next t → TokensBounded t

/-- Slots are held for the scanned stations of ACTIVE, the change list holds each station at most once and exactly those whose
mark is set, and a slot without a mark holds what was last collected (R95, R102, R103). The first premise is the condition of
`StepsKeepConfigurations`. -/
def Obligations.StepsKeepSlotsAndChanges : Prop :=
  ∀ s t : State, MapsOrdered s → SlotsFollowMap s → ChangesFollowMarks s → step s = .next t →
    SlotsFollowMap t ∧ ChangesFollowMarks t

/-- The number of BLANK image slots never increases, and a slot is BLANK in the store record exactly where its header mark is
absent (R154 to R156). Every slot of the record agrees with its marks: BLANK, WRITING, VALID, RETIRED or SPOILED by header mark,
verify mark, check and retire mark (R154, R155, R158 to R160). That a VALID or RETIRED slot has a good check at every moment is the
model's choice (assumption log 12): R155 lets a slot lose its check between starts and stand in the record as it did until the next
classification, and the model loses it only at the classification that finds it so. That a slot leaves WRITING at once when its
save is cut off is the model's reading (assumption log 12). -/
def Obligations.BlankSlotsNeverIncrease : Prop :=
  (∀ s t : State, StoreConsistent s → step s = .next t → StoreConsistent t ∧ t.blankSlots ≤ s.blankSlots)
  ∧ ∀ s t : State, StoreConsistent s → MarksAgree s → step s = .next t → MarksAgree t

/-- The state right after reset meets every condition that the steps keep. That reset is the end of a cold start from a
blank store is the model's choice (assumption log 1). What reset leaves: the part RUNNING at the end of a cold start
with cause POWER, nothing loaded, the factory configuration in both sets, every branch IDLE at 115200 baud with GUARD
4, the line at 460800 baud, NORMAL with STAT released, every counter 0 and the store BLANK; it is the state that
END_OF_LOADING gives after POWER (R23, R44, R94, R125, R137, R146, R163, R164). That the machine starts there is the
model's choice (assumption log 1). -/
def Obligations.ResetMeetsTheConditions : Prop :=
  (QueuesBounded State.reset ∧ TagsDistinct State.reset ∧ LinesFollowStates State.reset ∧ CountsInRange State.reset
    ∧ NoIdleClaim State.reset ∧ StatFollows State.reset ∧ SendingHasItems State.reset ∧ WritesHeldBack State.reset
    ∧ MapsOrdered State.reset ∧ ActiveValid State.reset ∧ TokensBounded State.reset ∧ SlotsFollowMap State.reset
    ∧ ChangesFollowMarks State.reset ∧ StoreConsistent State.reset ∧ EntriesPlaced State.reset ∧ ReturningWaits State.reset
    ∧ FramesFollowDrivers State.reset ∧ MarksAgree State.reset)
  ∧ ((∃ t, exec .power { State.reset with pins := { State.reset.pins with supplyLow := true } } = .next t
      ∧ exec .endOfLoading t = .next { State.reset with free := t.free })
    ∧ State.reset.seq.run = .running ∧ State.reset.seq.record = { cause := .power, loaded := none, spoiled := 0, sup := .normal }
    ∧ State.reset.active.stations = [] ∧ State.reset.shadow = State.reset.active
    ∧ State.reset.active.settings.ownAddr = 0xFE#8 ∧ State.reset.active.settings.silence = 0
    ∧ State.reset.up.rate = .r460800 ∧ (∀ b, (State.reset.branch b).state = .idle ∧ (State.reset.branch b).rate = .r115200)
    ∧ State.reset.sup.state = .normal ∧ State.reset.sup.stat = false ∧ State.reset.blankSlots = 8)
end

