-- ==== Sys2Proof/Laws/State.lean ====
section
/-! SUPPORT. One lemma per field and per update of State, true by rfl, so that no proof unfolds a record update. -/

namespace Sys2Proof

/-! ### One value for each branch -/

@[simp] theorem Quad.get_set_self {α : Type} (q : Quad α) (b : BranchId) (x : α) : (q.set b x).get b = x := by
  cases b <;> rfl

@[simp] theorem Quad.get_set_other {α : Type} (q : Quad α) (b c : BranchId) (x : α) (h : c ≠ b) :
    (q.set b x).get c = q.get c := by
  cases b <;> cases c <;> first | rfl | exact absurd rfl h

@[simp] theorem Quad.set_set {α : Type} (q : Quad α) (b : BranchId) (x y : α) : (q.set b x).set b y = q.set b y := by
  cases b <;> rfl

@[simp] theorem Quad.set_get {α : Type} (q : Quad α) (b : BranchId) : q.set b (q.get b) = q := by
  cases b <;> rfl

@[simp] theorem Quad.get_same {α : Type} (x : α) (b : BranchId) : (Quad.same x).get b = x := by
  cases b <;> rfl

@[simp] theorem Quad.get_map {α β : Type} (f : α → β) (q : Quad α) (b : BranchId) : (q.map f).get b = f (q.get b) := by
  cases b <;> rfl

theorem Quad.ext_get {α : Type} (p q : Quad α) (h : ∀ b, p.get b = q.get b) : p = q := by
  have h0 := h .b0
  have h1 := h .b1
  have h2 := h .b2
  have h3 := h .b3
  cases p
  cases q
  simp_all [Quad.get]

namespace Machine

/-! ### Branches of the state -/

@[simp] theorem State.branch_setBranch_self (s : State) (b : BranchId) (x : Branch) : (s.setBranch b x).branch b = x :=
  Quad.get_set_self s.branches b x

@[simp] theorem State.branch_setBranch_other (s : State) (b c : BranchId) (x : Branch) (h : c ≠ b) :
    (s.setBranch b x).branch c = s.branch c :=
  Quad.get_set_other s.branches b c x h

@[simp] theorem State.setBranch_setBranch (s : State) (b : BranchId) (x y : Branch) :
    (s.setBranch b x).setBranch b y = s.setBranch b y := by
  simp [State.setBranch]

@[simp] theorem State.setBranch_branch (s : State) (b : BranchId) : s.setBranch b (s.branch b) = s := by
  simp [State.setBranch, State.branch]


/-! ### setBranch -/

@[simp] theorem State.setBranch_pending (s : State) (b : BranchId) (x : Branch) : (s.setBranch b x).pending = s.pending := rfl
@[simp] theorem State.setBranch_pins (s : State) (b : BranchId) (x : Branch) : (s.setBranch b x).pins = s.pins := rfl
@[simp] theorem State.setBranch_seq (s : State) (b : BranchId) (x : Branch) : (s.setBranch b x).seq = s.seq := rfl
@[simp] theorem State.setBranch_clock (s : State) (b : BranchId) (x : Branch) : (s.setBranch b x).clock = s.clock := rfl
@[simp] theorem State.setBranch_active (s : State) (b : BranchId) (x : Branch) : (s.setBranch b x).active = s.active := rfl
@[simp] theorem State.setBranch_shadow (s : State) (b : BranchId) (x : Branch) : (s.setBranch b x).shadow = s.shadow := rfl
@[simp] theorem State.setBranch_tokens (s : State) (b : BranchId) (x : Branch) : (s.setBranch b x).tokens = s.tokens := rfl
@[simp] theorem State.setBranch_table (s : State) (b : BranchId) (x : Branch) : (s.setBranch b x).table = s.table := rfl
@[simp] theorem State.setBranch_up (s : State) (b : BranchId) (x : Branch) : (s.setBranch b x).up = s.up := rfl
@[simp] theorem State.setBranch_scan (s : State) (b : BranchId) (x : Branch) : (s.setBranch b x).scan = s.scan := rfl
@[simp] theorem State.setBranch_sup (s : State) (b : BranchId) (x : Branch) : (s.setBranch b x).sup = s.sup := rfl
@[simp] theorem State.setBranch_agent (s : State) (b : BranchId) (x : Branch) : (s.setBranch b x).agent = s.agent := rfl
@[simp] theorem State.setBranch_store (s : State) (b : BranchId) (x : Branch) : (s.setBranch b x).store = s.store := rfl
@[simp] theorem State.setBranch_free (s : State) (b : BranchId) (x : Branch) : (s.setBranch b x).free = s.free := rfl
@[simp] theorem State.setBranch_own (s : State) (b : BranchId) (x : Branch) : (s.setBranch b x).own = s.own := rfl
@[simp] theorem State.setBranch_branchSettings (s : State) (b : BranchId) (x : Branch) (c : BranchId) :
    (s.setBranch b x).branchSettings c = s.branchSettings c := rfl

/-! ### setRx -/

@[simp] theorem State.setRx_pending (s : State) (b : BranchId) (r : Receiver) : (s.setRx b r).pending = s.pending := rfl
@[simp] theorem State.setRx_pins (s : State) (b : BranchId) (r : Receiver) : (s.setRx b r).pins = s.pins := rfl
@[simp] theorem State.setRx_seq (s : State) (b : BranchId) (r : Receiver) : (s.setRx b r).seq = s.seq := rfl
@[simp] theorem State.setRx_clock (s : State) (b : BranchId) (r : Receiver) : (s.setRx b r).clock = s.clock := rfl
@[simp] theorem State.setRx_active (s : State) (b : BranchId) (r : Receiver) : (s.setRx b r).active = s.active := rfl
@[simp] theorem State.setRx_shadow (s : State) (b : BranchId) (r : Receiver) : (s.setRx b r).shadow = s.shadow := rfl
@[simp] theorem State.setRx_tokens (s : State) (b : BranchId) (r : Receiver) : (s.setRx b r).tokens = s.tokens := rfl
@[simp] theorem State.setRx_table (s : State) (b : BranchId) (r : Receiver) : (s.setRx b r).table = s.table := rfl
@[simp] theorem State.setRx_up (s : State) (b : BranchId) (r : Receiver) : (s.setRx b r).up = s.up := rfl
@[simp] theorem State.setRx_scan (s : State) (b : BranchId) (r : Receiver) : (s.setRx b r).scan = s.scan := rfl
@[simp] theorem State.setRx_sup (s : State) (b : BranchId) (r : Receiver) : (s.setRx b r).sup = s.sup := rfl
@[simp] theorem State.setRx_agent (s : State) (b : BranchId) (r : Receiver) : (s.setRx b r).agent = s.agent := rfl
@[simp] theorem State.setRx_store (s : State) (b : BranchId) (r : Receiver) : (s.setRx b r).store = s.store := rfl
@[simp] theorem State.setRx_free (s : State) (b : BranchId) (r : Receiver) : (s.setRx b r).free = s.free := rfl
@[simp] theorem State.setRx_own (s : State) (b : BranchId) (r : Receiver) : (s.setRx b r).own = s.own := rfl
@[simp] theorem State.setRx_branchSettings (s : State) (b : BranchId) (r : Receiver) (c : BranchId) :
    (s.setRx b r).branchSettings c = s.branchSettings c := rfl

/-! ### setUpRx -/

@[simp] theorem State.setUpRx_pending (s : State) (r : Receiver) : (s.setUpRx r).pending = s.pending := rfl
@[simp] theorem State.setUpRx_pins (s : State) (r : Receiver) : (s.setUpRx r).pins = s.pins := rfl
@[simp] theorem State.setUpRx_seq (s : State) (r : Receiver) : (s.setUpRx r).seq = s.seq := rfl
@[simp] theorem State.setUpRx_clock (s : State) (r : Receiver) : (s.setUpRx r).clock = s.clock := rfl
@[simp] theorem State.setUpRx_active (s : State) (r : Receiver) : (s.setUpRx r).active = s.active := rfl
@[simp] theorem State.setUpRx_shadow (s : State) (r : Receiver) : (s.setUpRx r).shadow = s.shadow := rfl
@[simp] theorem State.setUpRx_tokens (s : State) (r : Receiver) : (s.setUpRx r).tokens = s.tokens := rfl
@[simp] theorem State.setUpRx_table (s : State) (r : Receiver) : (s.setUpRx r).table = s.table := rfl
@[simp] theorem State.setUpRx_branches (s : State) (r : Receiver) : (s.setUpRx r).branches = s.branches := rfl
@[simp] theorem State.setUpRx_scan (s : State) (r : Receiver) : (s.setUpRx r).scan = s.scan := rfl
@[simp] theorem State.setUpRx_sup (s : State) (r : Receiver) : (s.setUpRx r).sup = s.sup := rfl
@[simp] theorem State.setUpRx_agent (s : State) (r : Receiver) : (s.setUpRx r).agent = s.agent := rfl
@[simp] theorem State.setUpRx_store (s : State) (r : Receiver) : (s.setUpRx r).store = s.store := rfl
@[simp] theorem State.setUpRx_free (s : State) (r : Receiver) : (s.setUpRx r).free = s.free := rfl
@[simp] theorem State.setUpRx_branch (s : State) (r : Receiver) (c : BranchId) : (s.setUpRx r).branch c = s.branch c := rfl
@[simp] theorem State.setUpRx_own (s : State) (r : Receiver) : (s.setUpRx r).own = s.own := rfl
@[simp] theorem State.setUpRx_branchSettings (s : State) (r : Receiver) (c : BranchId) :
    (s.setUpRx r).branchSettings c = s.branchSettings c := rfl

/-! ### countUp -/

@[simp] theorem State.countUp_pending (s : State) (f : UpCounters → UpCounters) : (s.countUp f).pending = s.pending := rfl
@[simp] theorem State.countUp_pins (s : State) (f : UpCounters → UpCounters) : (s.countUp f).pins = s.pins := rfl
@[simp] theorem State.countUp_seq (s : State) (f : UpCounters → UpCounters) : (s.countUp f).seq = s.seq := rfl
@[simp] theorem State.countUp_clock (s : State) (f : UpCounters → UpCounters) : (s.countUp f).clock = s.clock := rfl
@[simp] theorem State.countUp_active (s : State) (f : UpCounters → UpCounters) : (s.countUp f).active = s.active := rfl
@[simp] theorem State.countUp_shadow (s : State) (f : UpCounters → UpCounters) : (s.countUp f).shadow = s.shadow := rfl
@[simp] theorem State.countUp_tokens (s : State) (f : UpCounters → UpCounters) : (s.countUp f).tokens = s.tokens := rfl
@[simp] theorem State.countUp_table (s : State) (f : UpCounters → UpCounters) : (s.countUp f).table = s.table := rfl
@[simp] theorem State.countUp_branches (s : State) (f : UpCounters → UpCounters) : (s.countUp f).branches = s.branches := rfl
@[simp] theorem State.countUp_scan (s : State) (f : UpCounters → UpCounters) : (s.countUp f).scan = s.scan := rfl
@[simp] theorem State.countUp_sup (s : State) (f : UpCounters → UpCounters) : (s.countUp f).sup = s.sup := rfl
@[simp] theorem State.countUp_agent (s : State) (f : UpCounters → UpCounters) : (s.countUp f).agent = s.agent := rfl
@[simp] theorem State.countUp_store (s : State) (f : UpCounters → UpCounters) : (s.countUp f).store = s.store := rfl
@[simp] theorem State.countUp_free (s : State) (f : UpCounters → UpCounters) : (s.countUp f).free = s.free := rfl
@[simp] theorem State.countUp_branch (s : State) (f : UpCounters → UpCounters) (c : BranchId) : (s.countUp f).branch c = s.branch c := rfl
@[simp] theorem State.countUp_own (s : State) (f : UpCounters → UpCounters) : (s.countUp f).own = s.own := rfl
@[simp] theorem State.countUp_branchSettings (s : State) (f : UpCounters → UpCounters) (c : BranchId) :
    (s.countUp f).branchSettings c = s.branchSettings c := rfl

/-! ### drawn -/

@[simp] theorem State.drawn_pending (s : State) : (s.drawn).pending = s.pending := rfl
@[simp] theorem State.drawn_pins (s : State) : (s.drawn).pins = s.pins := rfl
@[simp] theorem State.drawn_seq (s : State) : (s.drawn).seq = s.seq := rfl
@[simp] theorem State.drawn_clock (s : State) : (s.drawn).clock = s.clock := rfl
@[simp] theorem State.drawn_active (s : State) : (s.drawn).active = s.active := rfl
@[simp] theorem State.drawn_shadow (s : State) : (s.drawn).shadow = s.shadow := rfl
@[simp] theorem State.drawn_tokens (s : State) : (s.drawn).tokens = s.tokens := rfl
@[simp] theorem State.drawn_table (s : State) : (s.drawn).table = s.table := rfl
@[simp] theorem State.drawn_up (s : State) : (s.drawn).up = s.up := rfl
@[simp] theorem State.drawn_branches (s : State) : (s.drawn).branches = s.branches := rfl
@[simp] theorem State.drawn_scan (s : State) : (s.drawn).scan = s.scan := rfl
@[simp] theorem State.drawn_sup (s : State) : (s.drawn).sup = s.sup := rfl
@[simp] theorem State.drawn_agent (s : State) : (s.drawn).agent = s.agent := rfl
@[simp] theorem State.drawn_store (s : State) : (s.drawn).store = s.store := rfl
@[simp] theorem State.drawn_branch (s : State) (c : BranchId) : (s.drawn).branch c = s.branch c := rfl
@[simp] theorem State.drawn_own (s : State) : (s.drawn).own = s.own := rfl
@[simp] theorem State.drawn_branchSettings (s : State) (c : BranchId) :
    (s.drawn).branchSettings c = s.branchSettings c := rfl

/-! ### updateEntry -/

@[simp] theorem State.updateEntry_pending (s : State) (slot : Nat) (f : Entry → Entry) : (s.updateEntry slot f).pending = s.pending := rfl
@[simp] theorem State.updateEntry_pins (s : State) (slot : Nat) (f : Entry → Entry) : (s.updateEntry slot f).pins = s.pins := rfl
@[simp] theorem State.updateEntry_seq (s : State) (slot : Nat) (f : Entry → Entry) : (s.updateEntry slot f).seq = s.seq := rfl
@[simp] theorem State.updateEntry_clock (s : State) (slot : Nat) (f : Entry → Entry) : (s.updateEntry slot f).clock = s.clock := rfl
@[simp] theorem State.updateEntry_active (s : State) (slot : Nat) (f : Entry → Entry) : (s.updateEntry slot f).active = s.active := rfl
@[simp] theorem State.updateEntry_shadow (s : State) (slot : Nat) (f : Entry → Entry) : (s.updateEntry slot f).shadow = s.shadow := rfl
@[simp] theorem State.updateEntry_tokens (s : State) (slot : Nat) (f : Entry → Entry) : (s.updateEntry slot f).tokens = s.tokens := rfl
@[simp] theorem State.updateEntry_up (s : State) (slot : Nat) (f : Entry → Entry) : (s.updateEntry slot f).up = s.up := rfl
@[simp] theorem State.updateEntry_branches (s : State) (slot : Nat) (f : Entry → Entry) : (s.updateEntry slot f).branches = s.branches := rfl
@[simp] theorem State.updateEntry_scan (s : State) (slot : Nat) (f : Entry → Entry) : (s.updateEntry slot f).scan = s.scan := rfl
@[simp] theorem State.updateEntry_sup (s : State) (slot : Nat) (f : Entry → Entry) : (s.updateEntry slot f).sup = s.sup := rfl
@[simp] theorem State.updateEntry_agent (s : State) (slot : Nat) (f : Entry → Entry) : (s.updateEntry slot f).agent = s.agent := rfl
@[simp] theorem State.updateEntry_store (s : State) (slot : Nat) (f : Entry → Entry) : (s.updateEntry slot f).store = s.store := rfl
@[simp] theorem State.updateEntry_free (s : State) (slot : Nat) (f : Entry → Entry) : (s.updateEntry slot f).free = s.free := rfl
@[simp] theorem State.updateEntry_branch (s : State) (slot : Nat) (f : Entry → Entry) (c : BranchId) : (s.updateEntry slot f).branch c = s.branch c := rfl
@[simp] theorem State.updateEntry_own (s : State) (slot : Nat) (f : Entry → Entry) : (s.updateEntry slot f).own = s.own := rfl
@[simp] theorem State.updateEntry_branchSettings (s : State) (slot : Nat) (f : Entry → Entry) (c : BranchId) :
    (s.updateEntry slot f).branchSettings c = s.branchSettings c := rfl

/-! ### updateTokens -/

@[simp] theorem State.updateTokens_pending (s : State) (a : Octet) (f : TokenState → TokenState) : (s.updateTokens a f).pending = s.pending := rfl
@[simp] theorem State.updateTokens_pins (s : State) (a : Octet) (f : TokenState → TokenState) : (s.updateTokens a f).pins = s.pins := rfl
@[simp] theorem State.updateTokens_seq (s : State) (a : Octet) (f : TokenState → TokenState) : (s.updateTokens a f).seq = s.seq := rfl
@[simp] theorem State.updateTokens_clock (s : State) (a : Octet) (f : TokenState → TokenState) : (s.updateTokens a f).clock = s.clock := rfl
@[simp] theorem State.updateTokens_active (s : State) (a : Octet) (f : TokenState → TokenState) : (s.updateTokens a f).active = s.active := rfl
@[simp] theorem State.updateTokens_shadow (s : State) (a : Octet) (f : TokenState → TokenState) : (s.updateTokens a f).shadow = s.shadow := rfl
@[simp] theorem State.updateTokens_table (s : State) (a : Octet) (f : TokenState → TokenState) : (s.updateTokens a f).table = s.table := rfl
@[simp] theorem State.updateTokens_up (s : State) (a : Octet) (f : TokenState → TokenState) : (s.updateTokens a f).up = s.up := rfl
@[simp] theorem State.updateTokens_branches (s : State) (a : Octet) (f : TokenState → TokenState) : (s.updateTokens a f).branches = s.branches := rfl
@[simp] theorem State.updateTokens_scan (s : State) (a : Octet) (f : TokenState → TokenState) : (s.updateTokens a f).scan = s.scan := rfl
@[simp] theorem State.updateTokens_sup (s : State) (a : Octet) (f : TokenState → TokenState) : (s.updateTokens a f).sup = s.sup := rfl
@[simp] theorem State.updateTokens_agent (s : State) (a : Octet) (f : TokenState → TokenState) : (s.updateTokens a f).agent = s.agent := rfl
@[simp] theorem State.updateTokens_store (s : State) (a : Octet) (f : TokenState → TokenState) : (s.updateTokens a f).store = s.store := rfl
@[simp] theorem State.updateTokens_free (s : State) (a : Octet) (f : TokenState → TokenState) : (s.updateTokens a f).free = s.free := rfl
@[simp] theorem State.updateTokens_branch (s : State) (a : Octet) (f : TokenState → TokenState) (c : BranchId) : (s.updateTokens a f).branch c = s.branch c := rfl
@[simp] theorem State.updateTokens_own (s : State) (a : Octet) (f : TokenState → TokenState) : (s.updateTokens a f).own = s.own := rfl
@[simp] theorem State.updateTokens_branchSettings (s : State) (a : Octet) (f : TokenState → TokenState) (c : BranchId) :
    (s.updateTokens a f).branchSettings c = s.branchSettings c := rfl

/-! ### restartSilence -/

@[simp] theorem State.restartSilence_pending (s : State) : (s.restartSilence).pending = s.pending := rfl
@[simp] theorem State.restartSilence_pins (s : State) : (s.restartSilence).pins = s.pins := rfl
@[simp] theorem State.restartSilence_seq (s : State) : (s.restartSilence).seq = s.seq := rfl
@[simp] theorem State.restartSilence_clock (s : State) : (s.restartSilence).clock = s.clock := rfl
@[simp] theorem State.restartSilence_active (s : State) : (s.restartSilence).active = s.active := rfl
@[simp] theorem State.restartSilence_shadow (s : State) : (s.restartSilence).shadow = s.shadow := rfl
@[simp] theorem State.restartSilence_tokens (s : State) : (s.restartSilence).tokens = s.tokens := rfl
@[simp] theorem State.restartSilence_table (s : State) : (s.restartSilence).table = s.table := rfl
@[simp] theorem State.restartSilence_up (s : State) : (s.restartSilence).up = s.up := rfl
@[simp] theorem State.restartSilence_branches (s : State) : (s.restartSilence).branches = s.branches := rfl
@[simp] theorem State.restartSilence_scan (s : State) : (s.restartSilence).scan = s.scan := rfl
@[simp] theorem State.restartSilence_agent (s : State) : (s.restartSilence).agent = s.agent := rfl
@[simp] theorem State.restartSilence_store (s : State) : (s.restartSilence).store = s.store := rfl
@[simp] theorem State.restartSilence_free (s : State) : (s.restartSilence).free = s.free := rfl
@[simp] theorem State.restartSilence_branch (s : State) (c : BranchId) : (s.restartSilence).branch c = s.branch c := rfl
@[simp] theorem State.restartSilence_own (s : State) : (s.restartSilence).own = s.own := rfl
@[simp] theorem State.restartSilence_branchSettings (s : State) (c : BranchId) :
    (s.restartSilence).branchSettings c = s.branchSettings c := rfl

/-! ### headTaken -/

@[simp] theorem State.headTaken_pending (s : State) : (s.headTaken).pending = s.pending := rfl
@[simp] theorem State.headTaken_pins (s : State) : (s.headTaken).pins = s.pins := rfl
@[simp] theorem State.headTaken_seq (s : State) : (s.headTaken).seq = s.seq := rfl
@[simp] theorem State.headTaken_clock (s : State) : (s.headTaken).clock = s.clock := rfl
@[simp] theorem State.headTaken_active (s : State) : (s.headTaken).active = s.active := rfl
@[simp] theorem State.headTaken_shadow (s : State) : (s.headTaken).shadow = s.shadow := rfl
@[simp] theorem State.headTaken_tokens (s : State) : (s.headTaken).tokens = s.tokens := rfl
@[simp] theorem State.headTaken_table (s : State) : (s.headTaken).table = s.table := rfl
@[simp] theorem State.headTaken_up (s : State) : (s.headTaken).up = s.up := rfl
@[simp] theorem State.headTaken_branches (s : State) : (s.headTaken).branches = s.branches := rfl
@[simp] theorem State.headTaken_scan (s : State) : (s.headTaken).scan = s.scan := rfl
@[simp] theorem State.headTaken_sup (s : State) : (s.headTaken).sup = s.sup := rfl
@[simp] theorem State.headTaken_store (s : State) : (s.headTaken).store = s.store := rfl
@[simp] theorem State.headTaken_free (s : State) : (s.headTaken).free = s.free := rfl
@[simp] theorem State.headTaken_branch (s : State) (c : BranchId) : (s.headTaken).branch c = s.branch c := rfl
@[simp] theorem State.headTaken_own (s : State) : (s.headTaken).own = s.own := rfl
@[simp] theorem State.headTaken_branchSettings (s : State) (c : BranchId) :
    (s.headTaken).branchSettings c = s.branchSettings c := rfl

/-! ### allocate -/

@[simp] theorem State.allocate_pending (s : State) (e : Entry) : (s.allocate e).pending = s.pending := rfl
@[simp] theorem State.allocate_pins (s : State) (e : Entry) : (s.allocate e).pins = s.pins := rfl
@[simp] theorem State.allocate_seq (s : State) (e : Entry) : (s.allocate e).seq = s.seq := rfl
@[simp] theorem State.allocate_clock (s : State) (e : Entry) : (s.allocate e).clock = s.clock := rfl
@[simp] theorem State.allocate_active (s : State) (e : Entry) : (s.allocate e).active = s.active := rfl
@[simp] theorem State.allocate_shadow (s : State) (e : Entry) : (s.allocate e).shadow = s.shadow := rfl
@[simp] theorem State.allocate_tokens (s : State) (e : Entry) : (s.allocate e).tokens = s.tokens := rfl
@[simp] theorem State.allocate_up (s : State) (e : Entry) : (s.allocate e).up = s.up := rfl
@[simp] theorem State.allocate_branches (s : State) (e : Entry) : (s.allocate e).branches = s.branches := rfl
@[simp] theorem State.allocate_scan (s : State) (e : Entry) : (s.allocate e).scan = s.scan := rfl
@[simp] theorem State.allocate_sup (s : State) (e : Entry) : (s.allocate e).sup = s.sup := rfl
@[simp] theorem State.allocate_agent (s : State) (e : Entry) : (s.allocate e).agent = s.agent := rfl
@[simp] theorem State.allocate_store (s : State) (e : Entry) : (s.allocate e).store = s.store := rfl
@[simp] theorem State.allocate_free (s : State) (e : Entry) : (s.allocate e).free = s.free := rfl
@[simp] theorem State.allocate_branch (s : State) (e : Entry) (c : BranchId) : (s.allocate e).branch c = s.branch c := rfl
@[simp] theorem State.allocate_own (s : State) (e : Entry) : (s.allocate e).own = s.own := rfl
@[simp] theorem State.allocate_branchSettings (s : State) (e : Entry) (c : BranchId) :
    (s.allocate e).branchSettings c = s.branchSettings c := rfl

/-! ### startSpacing -/

@[simp] theorem State.startSpacing_pending (s : State) : (s.startSpacing).pending = s.pending := rfl
@[simp] theorem State.startSpacing_pins (s : State) : (s.startSpacing).pins = s.pins := rfl
@[simp] theorem State.startSpacing_seq (s : State) : (s.startSpacing).seq = s.seq := rfl
@[simp] theorem State.startSpacing_clock (s : State) : (s.startSpacing).clock = s.clock := rfl
@[simp] theorem State.startSpacing_active (s : State) : (s.startSpacing).active = s.active := rfl
@[simp] theorem State.startSpacing_shadow (s : State) : (s.startSpacing).shadow = s.shadow := rfl
@[simp] theorem State.startSpacing_tokens (s : State) : (s.startSpacing).tokens = s.tokens := rfl
@[simp] theorem State.startSpacing_table (s : State) : (s.startSpacing).table = s.table := rfl
@[simp] theorem State.startSpacing_branches (s : State) : (s.startSpacing).branches = s.branches := rfl
@[simp] theorem State.startSpacing_scan (s : State) : (s.startSpacing).scan = s.scan := rfl
@[simp] theorem State.startSpacing_sup (s : State) : (s.startSpacing).sup = s.sup := rfl
@[simp] theorem State.startSpacing_agent (s : State) : (s.startSpacing).agent = s.agent := rfl
@[simp] theorem State.startSpacing_store (s : State) : (s.startSpacing).store = s.store := rfl
@[simp] theorem State.startSpacing_free (s : State) : (s.startSpacing).free = s.free := rfl
@[simp] theorem State.startSpacing_branch (s : State) (c : BranchId) : (s.startSpacing).branch c = s.branch c := rfl
@[simp] theorem State.startSpacing_own (s : State) : (s.startSpacing).own = s.own := rfl
@[simp] theorem State.startSpacing_branchSettings (s : State) (c : BranchId) :
    (s.startSpacing).branchSettings c = s.branchSettings c := rfl

/-! ### itemGone -/

@[simp] theorem State.itemGone_pending (s : State) : (s.itemGone).pending = s.pending := rfl
@[simp] theorem State.itemGone_pins (s : State) : (s.itemGone).pins = s.pins := rfl
@[simp] theorem State.itemGone_seq (s : State) : (s.itemGone).seq = s.seq := rfl
@[simp] theorem State.itemGone_clock (s : State) : (s.itemGone).clock = s.clock := rfl
@[simp] theorem State.itemGone_active (s : State) : (s.itemGone).active = s.active := rfl
@[simp] theorem State.itemGone_shadow (s : State) : (s.itemGone).shadow = s.shadow := rfl
@[simp] theorem State.itemGone_tokens (s : State) : (s.itemGone).tokens = s.tokens := rfl
@[simp] theorem State.itemGone_table (s : State) : (s.itemGone).table = s.table := rfl
@[simp] theorem State.itemGone_branches (s : State) : (s.itemGone).branches = s.branches := rfl
@[simp] theorem State.itemGone_scan (s : State) : (s.itemGone).scan = s.scan := rfl
@[simp] theorem State.itemGone_sup (s : State) : (s.itemGone).sup = s.sup := rfl
@[simp] theorem State.itemGone_agent (s : State) : (s.itemGone).agent = s.agent := rfl
@[simp] theorem State.itemGone_store (s : State) : (s.itemGone).store = s.store := rfl
@[simp] theorem State.itemGone_free (s : State) : (s.itemGone).free = s.free := rfl
@[simp] theorem State.itemGone_branch (s : State) (c : BranchId) : (s.itemGone).branch c = s.branch c := rfl
@[simp] theorem State.itemGone_own (s : State) : (s.itemGone).own = s.own := rfl
@[simp] theorem State.itemGone_branchSettings (s : State) (c : BranchId) :
    (s.itemGone).branchSettings c = s.branchSettings c := rfl

/-! ### itemOutcome -/

@[simp] theorem State.itemOutcome_pending (s : State) (f : FailsafeItem) (o : LineOutcome) : (s.itemOutcome f o).pending = s.pending := rfl
@[simp] theorem State.itemOutcome_pins (s : State) (f : FailsafeItem) (o : LineOutcome) : (s.itemOutcome f o).pins = s.pins := rfl
@[simp] theorem State.itemOutcome_seq (s : State) (f : FailsafeItem) (o : LineOutcome) : (s.itemOutcome f o).seq = s.seq := rfl
@[simp] theorem State.itemOutcome_clock (s : State) (f : FailsafeItem) (o : LineOutcome) : (s.itemOutcome f o).clock = s.clock := rfl
@[simp] theorem State.itemOutcome_active (s : State) (f : FailsafeItem) (o : LineOutcome) : (s.itemOutcome f o).active = s.active := rfl
@[simp] theorem State.itemOutcome_shadow (s : State) (f : FailsafeItem) (o : LineOutcome) : (s.itemOutcome f o).shadow = s.shadow := rfl
@[simp] theorem State.itemOutcome_tokens (s : State) (f : FailsafeItem) (o : LineOutcome) : (s.itemOutcome f o).tokens = s.tokens := rfl
@[simp] theorem State.itemOutcome_table (s : State) (f : FailsafeItem) (o : LineOutcome) : (s.itemOutcome f o).table = s.table := rfl
@[simp] theorem State.itemOutcome_up (s : State) (f : FailsafeItem) (o : LineOutcome) : (s.itemOutcome f o).up = s.up := rfl
@[simp] theorem State.itemOutcome_branches (s : State) (f : FailsafeItem) (o : LineOutcome) : (s.itemOutcome f o).branches = s.branches := rfl
@[simp] theorem State.itemOutcome_scan (s : State) (f : FailsafeItem) (o : LineOutcome) : (s.itemOutcome f o).scan = s.scan := rfl
@[simp] theorem State.itemOutcome_agent (s : State) (f : FailsafeItem) (o : LineOutcome) : (s.itemOutcome f o).agent = s.agent := rfl
@[simp] theorem State.itemOutcome_store (s : State) (f : FailsafeItem) (o : LineOutcome) : (s.itemOutcome f o).store = s.store := rfl
@[simp] theorem State.itemOutcome_free (s : State) (f : FailsafeItem) (o : LineOutcome) : (s.itemOutcome f o).free = s.free := rfl
@[simp] theorem State.itemOutcome_branch (s : State) (f : FailsafeItem) (o : LineOutcome) (c : BranchId) : (s.itemOutcome f o).branch c = s.branch c := rfl
@[simp] theorem State.itemOutcome_own (s : State) (f : FailsafeItem) (o : LineOutcome) : (s.itemOutcome f o).own = s.own := rfl
@[simp] theorem State.itemOutcome_branchSettings (s : State) (f : FailsafeItem) (o : LineOutcome) (c : BranchId) :
    (s.itemOutcome f o).branchSettings c = s.branchSettings c := rfl

/-! ### recordPoll -/

@[simp] theorem State.recordPoll_pending (s : State) (a : Octet) (w : Option Word16) (t : Millis) : (s.recordPoll a w t).pending = s.pending := rfl
@[simp] theorem State.recordPoll_pins (s : State) (a : Octet) (w : Option Word16) (t : Millis) : (s.recordPoll a w t).pins = s.pins := rfl
@[simp] theorem State.recordPoll_seq (s : State) (a : Octet) (w : Option Word16) (t : Millis) : (s.recordPoll a w t).seq = s.seq := rfl
@[simp] theorem State.recordPoll_clock (s : State) (a : Octet) (w : Option Word16) (t : Millis) : (s.recordPoll a w t).clock = s.clock := rfl
@[simp] theorem State.recordPoll_active (s : State) (a : Octet) (w : Option Word16) (t : Millis) : (s.recordPoll a w t).active = s.active := rfl
@[simp] theorem State.recordPoll_shadow (s : State) (a : Octet) (w : Option Word16) (t : Millis) : (s.recordPoll a w t).shadow = s.shadow := rfl
@[simp] theorem State.recordPoll_tokens (s : State) (a : Octet) (w : Option Word16) (t : Millis) : (s.recordPoll a w t).tokens = s.tokens := rfl
@[simp] theorem State.recordPoll_table (s : State) (a : Octet) (w : Option Word16) (t : Millis) : (s.recordPoll a w t).table = s.table := rfl
@[simp] theorem State.recordPoll_up (s : State) (a : Octet) (w : Option Word16) (t : Millis) : (s.recordPoll a w t).up = s.up := rfl
@[simp] theorem State.recordPoll_branches (s : State) (a : Octet) (w : Option Word16) (t : Millis) : (s.recordPoll a w t).branches = s.branches := rfl
@[simp] theorem State.recordPoll_sup (s : State) (a : Octet) (w : Option Word16) (t : Millis) : (s.recordPoll a w t).sup = s.sup := rfl
@[simp] theorem State.recordPoll_agent (s : State) (a : Octet) (w : Option Word16) (t : Millis) : (s.recordPoll a w t).agent = s.agent := rfl
@[simp] theorem State.recordPoll_store (s : State) (a : Octet) (w : Option Word16) (t : Millis) : (s.recordPoll a w t).store = s.store := rfl
@[simp] theorem State.recordPoll_free (s : State) (a : Octet) (w : Option Word16) (t : Millis) : (s.recordPoll a w t).free = s.free := rfl
@[simp] theorem State.recordPoll_branch (s : State) (a : Octet) (w : Option Word16) (t : Millis) (c : BranchId) : (s.recordPoll a w t).branch c = s.branch c := rfl
@[simp] theorem State.recordPoll_own (s : State) (a : Octet) (w : Option Word16) (t : Millis) : (s.recordPoll a w t).own = s.own := rfl
@[simp] theorem State.recordPoll_branchSettings (s : State) (a : Octet) (w : Option Word16) (t : Millis) (c : BranchId) :
    (s.recordPoll a w t).branchSettings c = s.branchSettings c := rfl

/-! ### shareAborted -/

@[simp] theorem State.shareAborted_pending (s : State) (b : BranchId) (slot : Nat) : (s.shareAborted b slot).pending = s.pending := rfl
@[simp] theorem State.shareAborted_pins (s : State) (b : BranchId) (slot : Nat) : (s.shareAborted b slot).pins = s.pins := rfl
@[simp] theorem State.shareAborted_seq (s : State) (b : BranchId) (slot : Nat) : (s.shareAborted b slot).seq = s.seq := rfl
@[simp] theorem State.shareAborted_clock (s : State) (b : BranchId) (slot : Nat) : (s.shareAborted b slot).clock = s.clock := rfl
@[simp] theorem State.shareAborted_active (s : State) (b : BranchId) (slot : Nat) : (s.shareAborted b slot).active = s.active := rfl
@[simp] theorem State.shareAborted_shadow (s : State) (b : BranchId) (slot : Nat) : (s.shareAborted b slot).shadow = s.shadow := rfl
@[simp] theorem State.shareAborted_tokens (s : State) (b : BranchId) (slot : Nat) : (s.shareAborted b slot).tokens = s.tokens := rfl
@[simp] theorem State.shareAborted_up (s : State) (b : BranchId) (slot : Nat) : (s.shareAborted b slot).up = s.up := rfl
@[simp] theorem State.shareAborted_branches (s : State) (b : BranchId) (slot : Nat) : (s.shareAborted b slot).branches = s.branches := rfl
@[simp] theorem State.shareAborted_scan (s : State) (b : BranchId) (slot : Nat) : (s.shareAborted b slot).scan = s.scan := rfl
@[simp] theorem State.shareAborted_sup (s : State) (b : BranchId) (slot : Nat) : (s.shareAborted b slot).sup = s.sup := rfl
@[simp] theorem State.shareAborted_agent (s : State) (b : BranchId) (slot : Nat) : (s.shareAborted b slot).agent = s.agent := rfl
@[simp] theorem State.shareAborted_store (s : State) (b : BranchId) (slot : Nat) : (s.shareAborted b slot).store = s.store := rfl
@[simp] theorem State.shareAborted_free (s : State) (b : BranchId) (slot : Nat) : (s.shareAborted b slot).free = s.free := rfl
@[simp] theorem State.shareAborted_branch (s : State) (b : BranchId) (slot : Nat) (c : BranchId) : (s.shareAborted b slot).branch c = s.branch c := rfl
@[simp] theorem State.shareAborted_own (s : State) (b : BranchId) (slot : Nat) : (s.shareAborted b slot).own = s.own := rfl
@[simp] theorem State.shareAborted_branchSettings (s : State) (b : BranchId) (slot : Nat) (c : BranchId) :
    (s.shareAborted b slot).branchSettings c = s.branchSettings c := rfl

/-! ### freeBranch -/

@[simp] theorem State.freeBranch_pending (s : State) (b : BranchId) : (s.freeBranch b).pending = s.pending := rfl
@[simp] theorem State.freeBranch_pins (s : State) (b : BranchId) : (s.freeBranch b).pins = s.pins := rfl
@[simp] theorem State.freeBranch_seq (s : State) (b : BranchId) : (s.freeBranch b).seq = s.seq := rfl
@[simp] theorem State.freeBranch_clock (s : State) (b : BranchId) : (s.freeBranch b).clock = s.clock := rfl
@[simp] theorem State.freeBranch_active (s : State) (b : BranchId) : (s.freeBranch b).active = s.active := rfl
@[simp] theorem State.freeBranch_shadow (s : State) (b : BranchId) : (s.freeBranch b).shadow = s.shadow := rfl
@[simp] theorem State.freeBranch_tokens (s : State) (b : BranchId) : (s.freeBranch b).tokens = s.tokens := rfl
@[simp] theorem State.freeBranch_table (s : State) (b : BranchId) : (s.freeBranch b).table = s.table := rfl
@[simp] theorem State.freeBranch_up (s : State) (b : BranchId) : (s.freeBranch b).up = s.up := rfl
@[simp] theorem State.freeBranch_scan (s : State) (b : BranchId) : (s.freeBranch b).scan = s.scan := rfl
@[simp] theorem State.freeBranch_sup (s : State) (b : BranchId) : (s.freeBranch b).sup = s.sup := rfl
@[simp] theorem State.freeBranch_agent (s : State) (b : BranchId) : (s.freeBranch b).agent = s.agent := rfl
@[simp] theorem State.freeBranch_store (s : State) (b : BranchId) : (s.freeBranch b).store = s.store := rfl
@[simp] theorem State.freeBranch_free (s : State) (b : BranchId) : (s.freeBranch b).free = s.free := rfl
@[simp] theorem State.freeBranch_own (s : State) (b : BranchId) : (s.freeBranch b).own = s.own := rfl
@[simp] theorem State.freeBranch_branchSettings (s : State) (b : BranchId) (c : BranchId) :
    (s.freeBranch b).branchSettings c = s.branchSettings c := rfl

end Machine

end Sys2Proof
end

