-- ==== Sys2Proof/Laws/Ops.lean ====
section
/-! SUPPORT. For each shared operation, what it can do, said once: what it leaves unchanged, and its result in each case. -/

namespace Sys2Proof.Machine

/-! ### Completion -/

/-- A completion writes the table and the upstream line alone. -/
theorem State.complete_frame (s : State) (k : Nat) (f : Form) :
    s.complete k f = { s with table := (s.complete k f).table, up := (s.complete k f).up } := by
  unfold State.complete
  split
  · rfl
  · split
    · split <;> rfl
    · rfl

/-- The entry of a free slot cannot complete. -/
theorem State.complete_free (s : State) (k : Nat) (f : Form) (h : s.table.find? k = none) : s.complete k f = s := by
  simp [State.complete, h]

/-- An entry that has completed does not complete again (R12). -/
theorem State.complete_closed (s : State) (k : Nat) (f : Form) (e : Entry) (h : s.table.find? k = some e)
    (ho : e.state.isOpen = false) : s.complete k f = s := by
  simp [State.complete, h, ho]

theorem Table.find?_slot {t : Table} {k : Nat} {e : Entry} (h : t.find? k = some e) : e.slot = k := by
  have := List.find?_some h
  simpa using this

/-- An update that keeps the slot number is read back by its slot. -/
theorem find?_update (l : List Entry) (k j : Nat) (f : Entry → Entry) (hf : ∀ e, (f e).slot = e.slot) :
    (l.map fun e => if e.slot = k then f e else e).find? (fun e => e.slot == j)
      = if j = k then (l.find? fun e => e.slot == k).map f else l.find? fun e => e.slot == j := by
  induction l with
  | nil => split <;> rfl
  | cons x xs ih =>
    simp only [List.map_cons, List.find?_cons]
    rw [ih]
    by_cases hx : x.slot = k
    · rw [if_pos hx, hf]
      by_cases hj : j = k
      · simp [hx, hj]
      · have h1 : (x.slot == j) = false := by simpa [hx] using fun h => hj h.symm
        simp [h1, hj]
    · rw [if_neg hx]
      have h1 : (x.slot == k) = false := by simpa using hx
      by_cases hj : j = k
      · simp [h1, hj]
      · simp [hj]

theorem Table.find?_update (t : Table) (k j : Nat) (f : Entry → Entry) (hf : ∀ e, (f e).slot = e.slot) :
    (t.update k f).find? j = if j = k then (t.find? k).map f else t.find? j :=
  Sys2Proof.Machine.find?_update t.entries k j f hf

/-- The table's other fields do not enter a lookup. -/
theorem Table.find?_congr {t u : Table} (h : t.entries = u.entries) (k : Nat) : t.find? k = u.find? k := by
  simp [Table.find?, h]

/-- An open entry completes as R12 to R14 say. -/
theorem State.complete_open (s : State) (k : Nat) (f : Form) (e : Entry) (h : s.table.find? k = some e)
    (ho : e.state.isOpen = true) :
    Completes s (s.complete k f) k e (answerFrame s.own f e) (releaseNote e (answerFrame s.own f e))
      (fun c => c.countForm f) := by
  have hr : s.table.returning.isEmpty = decide (s.table.returning = []) := by cases s.table.returning <;> rfl
  have hu (st : EntryState) (j : Nat) :
      (s.table.entries.map fun x => if x.slot = k then
        x.completed s.table.nextSeq (answerFrame s.own f e) st else x).find? (fun x => x.slot == j)
      = if j = k then some (e.completed s.table.nextSeq (answerFrame s.own f e) st) else s.table.find? j := by
    rw [Sys2Proof.Machine.find?_update s.table.entries k j
      (fun x => x.completed s.table.nextSeq (answerFrame s.own f e) st) (fun _ => rfl)]
    have : s.table.entries.find? (fun e => e.slot == k) = some e := h
    rw [this]
    rfl
  unfold Completes State.complete
  simp only [h, ho, if_true, Upstream.hasRoom, outboundSize, hr]
  by_cases hq : s.up.queue.length < 8 <;> by_cases hret : s.table.returning = [] <;>
    simp only [hq, hret, decide_true, decide_false, Bool.and_true, Bool.and_false, and_true, and_false, if_true, if_false,
      Bool.false_eq_true, Table.update, Table.find?] <;>
    (refine ⟨trivial, trivial, fun j hj => ?_, ?_⟩) <;>
    first
      | (rw [hu, if_neg hj]; rfl)
      | (rw [hu, if_pos rfl]; rfl)

@[simp] theorem State.completeAll_nil (s : State) : s.completeAll [] = s := rfl

@[simp] theorem State.completeAll_single (s : State) (j : Job) : s.completeAll [j] = s.complete j.slot j.form := rfl

/-- The completions of one event write the table and the upstream line alone. -/
theorem State.completeEach_frame (jobs : List Job) (s : State) :
    s.completeEach jobs = { s with table := (s.completeEach jobs).table, up := (s.completeEach jobs).up } := by
  unfold State.completeEach
  induction jobs generalizing s with
  | nil => rfl
  | cons j js ih =>
    rw [List.foldl_cons, ih, State.complete_frame]

theorem State.completeAll_frame (s : State) (jobs : List Job) :
    s.completeAll jobs = { s with table := (s.completeAll jobs).table, up := (s.completeAll jobs).up } :=
  State.completeEach_frame _ s

/-! ### The arbiters -/

/-- With no claimant on an IDLE branch the arbiters do nothing (R68). -/
theorem State.arbitrate_of_noIdleClaim (s : State) (b : BranchId) (h : NoIdleClaim s) : s.arbitrate b = s := by
  unfold State.arbitrate
  split
  · rename_i hl
    simp only [State.live, Bool.and_eq_true, bne_iff_ne, ne_eq, beq_iff_eq] at hl
    obtain ⟨hf, hq, hc⟩ := h hl.1 b hl.2
    simp [chooseClaim, hf, State.firstClaim, hc, Branch.queueClaim, hq]
  · rfl

theorem State.settle_of_noIdleClaim (s : State) (h : NoIdleClaim s) : s.settle = s := by
  simp [State.settle, State.arbitrate_of_noIdleClaim s _ h]

/-- The arbiters write the branches, the entries that become ON_LINE and the slots whose polls are bound. -/
theorem State.arbitrate_frame (s : State) (b : BranchId) :
    s.arbitrate b = { s with branches := (s.arbitrate b).branches, table := (s.arbitrate b).table
                             scan := (s.arbitrate b).scan } := by
  unfold State.arbitrate
  split
  · split
    · rfl
    · rename_i c _
      unfold State.pick State.claimTaken
      cases c with
      | failsafe f r => rfl
      | queued q r => cases q <;> rfl
      | poll x => rfl
  · rfl

theorem State.settle_frame (s : State) :
    s.settle = { s with branches := s.settle.branches, table := s.settle.table, scan := s.settle.scan } := by
  unfold State.settle
  rw [State.arbitrate_frame _ .b3, State.arbitrate_frame _ .b2, State.arbitrate_frame _ .b1, State.arbitrate_frame _ .b0]

/-! ### The end of failsafe sending -/

/-- While items are left where FAILSAFE_SENDING holds, nothing ends (R119). -/
theorem State.heldIfDone_of_left (s : State) (h : s.sup.state = .failsafeSending → 0 < s.failsafeLeft) : s.heldIfDone = s := by
  unfold State.heldIfDone
  split
  · rename_i hc
    have := h hc.1
    omega
  · rfl

/-! ### Receivers -/

theorem Frame.body_length (f : Frame) : f.body.length = 5 + f.payload.length := by
  simp [Frame.body]
  omega

theorem oct_toNat_of_lt (n : Nat) (h : n < 256) : (oct n).toNat = n := by
  simp [oct]
  omega

/-- What the octets of a frame and its two CHECK octets spell (R170). -/
theorem frameOfOctets_frame (f : Frame) (a b : Octet) (h : f.payload.length ≤ 64) :
    frameOfOctets (startOctet :: f.body ++ [a, b]) = f := by
  have hl : (oct f.payload.length).toNat = f.payload.length := oct_toNat_of_lt _ (by omega)
  cases f
  simp_all [frameOfOctets, Frame.body]

/-- The receiver at the last octet of a frame (R179). -/
theorem Receiver.take_last (r : Receiver) (f : Frame) (hi o : Octet) (h : AwaitsLast r f hi) :
    r.take o = if wordOct (crc f.body) = [hi, o] then (.valid f, .outside) else (.check, .outside) := by
  obtain ⟨hlen, quiet, straddle, begun, rfl⟩ := h
  have hl : (oct f.payload.length).toNat = f.payload.length := oct_toNat_of_lt _ (by omega)
  have hb := Frame.body_length f
  have hfive : (startOctet :: f.body ++ [hi] ++ [o]).getD 5 0#8 = oct f.payload.length := by
    simp [Frame.body]
  have happ : startOctet :: f.body ++ [hi] ++ [o] = startOctet :: f.body ++ [hi, o] := by simp
  have hcheck : checkAgrees (startOctet :: f.body ++ [hi] ++ [o]) = decide (wordOct (crc f.body) = [hi, o]) := by
    unfold checkAgrees
    simp only [hfive, hl]
    have htake : ((startOctet :: f.body ++ [hi] ++ [o]).take (6 + f.payload.length)).drop 1 = f.body := by
      have : 6 + f.payload.length = (startOctet :: f.body).length := by simp [hb]; omega
      rw [happ, this, List.take_left]
      rfl
    have hdrop : (startOctet :: f.body ++ [hi] ++ [o]).drop (6 + f.payload.length) = [hi, o] := by
      have : 6 + f.payload.length = (startOctet :: f.body).length := by simp [hb]; omega
      rw [happ, this, List.drop_left]
    rw [htake, hdrop]
    by_cases h : wordOct (crc f.body) = [hi, o] <;> simp [h]
  have hlen2 : (startOctet :: f.body ++ [hi] ++ [o]).length = 8 + f.payload.length := by simp [hb]; omega
  unfold Receiver.take
  simp only [hlen2, hfive, hl, hcheck]
  have h6 : ¬ 8 + f.payload.length = 6 := by omega
  have h7 : 6 < 8 + f.payload.length := by omega
  simp only [h6, if_false, h7, and_self, if_true]
  by_cases h : wordOct (crc f.body) = [hi, o]
  · rw [happ, frameOfOctets_frame f hi o hlen]
    simp [h]
  · simp [h]

theorem Receiver.take_valid {r : Receiver} {f : Frame} {o : Octet} (h : ArrivesWith r f o) :
    r.take o = (.valid f, .outside) := by
  obtain ⟨hi, ha, hc⟩ := h
  rw [Receiver.take_last r f hi o ha, if_pos hc]

theorem Receiver.take_check {r : Receiver} {f : Frame} {o : Octet} (h : BreaksWith r f o) :
    r.take o = (.check, .outside) := by
  obtain ⟨hi, ha, hc⟩ := h
  rw [Receiver.take_last r f hi o ha, if_neg hc]

/-- The gap timer of a frame expires 3 char after its last octet, unless the start bit of the next one was taken before (R179). -/
theorem Receiver.gapReached_iff (r : Receiver) (char : Nat) :
    r.gapReached char = true ↔ ∃ os quiet straddle, r = .inside os quiet straddle false ∧ 3 * char ≤ quiet := by
  cases r with
  | off => simp [Receiver.gapReached]
  | outside => simp [Receiver.gapReached]
  | inside os quiet straddle begun => cases begun <;> (simp [Receiver.gapReached]; try rfl)

/-- The octet begun has reached its end 4 char after the octet before it, or at the latest end of one from before a change of rate. -/
theorem Receiver.octetAwaited_iff (r : Receiver) (char : Nat) :
    r.octetAwaited char = true ↔ ∃ os quiet straddle, r = .inside os quiet straddle true ∧ max (4 * char) straddle ≤ quiet := by
  cases r with
  | off => simp [Receiver.octetAwaited]
  | outside => simp [Receiver.octetAwaited]
  | inside os quiet straddle begun => cases begun <;> simp [Receiver.octetAwaited, gapChars]

/-- A receiver that is off takes nothing. -/
@[simp] theorem Receiver.take_off (o : Octet) : Receiver.take .off o = (.ignored, .off) := rfl

@[simp] theorem Receiver.begin_off : Receiver.begin .off = .off := rfl
@[simp] theorem Receiver.begin_outside : Receiver.begin .outside = .outside := rfl
@[simp] theorem Receiver.begin_inside (os : List Octet) (quiet straddle : Nat) (begun : Bool) :
    Receiver.begin (.inside os quiet straddle begun) = .inside os quiet straddle true := rfl

/-- A change of rate, as the claims spell it. -/
theorem Receiver.rerated_eq (r : Receiver) (char : Nat) : r.rerated char = r.overChange char := by cases r <;> rfl

/-! ### Octets -/

/-- The last octet of a frame that arrives on the upstream line. -/
theorem State.upstreamOctet_arrives {s : State} {f : Frame} {o : Octet} (h : s.up.Arrives f o) :
    s.upstreamOctet o = (s.setUpRx .outside).upstreamValid f := by
  rw [State.upstreamOctet, Receiver.take_valid h]

/-- The last octet of a frame that arrives on a branch. -/
theorem State.octetOn_arrives {s : State} {b : BranchId} {f : Frame} {o : Octet} (h : (s.branch b).Arrives f o) :
    s.octetOn b o = (s.setRx b .outside).branchValid b f := by
  rw [State.octetOn, Receiver.take_valid h]

/-! ### The part's own time -/

/-- The lines are the upstream line and the four branches. -/
theorem mem_lines (l : Option BranchId) : l ∈ lines := by
  cases l with
  | none => decide
  | some b => cases b <;> decide

/-- The lines whose gap timers have run out are those whose receivers say so (R179). -/
theorem State.mem_gapLines (s : State) (l : Option BranchId) : l ∈ s.gapLines ↔ s.atReceiver Receiver.gapReached l = true := by
  simp [State.gapLines, mem_lines]

/-- A start bit leaves everything but the receivers alone. -/
theorem State.startBit_frame (s : State) (l : Option BranchId) :
    s.startBit l = { s with up := (s.startBit l).up, branches := (s.startBit l).branches } := by
  cases l <;> rfl

/-- With one event due, and no GAP, that event comes next. -/
theorem State.nextDue_one {s : State} {c : Instr} (hd : s.due = [c]) (hg : s.gapLines = []) : s.nextDue = (.event c, s) := by
  simp [State.nextDue, State.choices, hd, hg]

/-- With nothing due time passes, or waits for the octet begun. -/
theorem State.nextDue_none {s : State} (hd : s.due = []) : s.nextDue = (if s.octetAwaited then .wait else .period, s) := by
  simp [State.nextDue, State.choices, hd]

/-- What comes next is one of the choices, in the state itself or with one free value used up. -/
theorem State.nextDue_mem (s : State) : s.nextDue.1 ∈ s.choices ∧ (s.nextDue.2 = s ∨ s.nextDue.2 = s.drawn) := by
  have hne : s.choices ≠ [] := by
    unfold State.choices
    by_cases h : s.due = [] <;> simp [h]
  unfold State.nextDue
  split
  · rename_i c h
    exact ⟨by simp [h], .inl rfl⟩
  · refine ⟨?_, .inr rfl⟩
    have hlt := Nat.mod_lt (Config.eventOrder s.free) (List.length_pos_of_ne_nil hne)
    simp [List.getD_eq_getElem?_getD, List.getElem?_eq_getElem hlt]

/-! ### The completions of one event -/

/-- The order of the completions makes none and drops none. -/
theorem State.sortJobs_perm (s : State) (jobs : List Job) : (s.sortJobs jobs).Perm jobs := by
  have insert_perm (j : Job) (ks : List Job) : (s.insertJob j ks).Perm (j :: ks) := by
    induction ks with
    | nil => exact .refl _
    | cons k ks ih =>
      unfold State.insertJob
      split
      · exact .refl _
      · exact (ih.cons k).trans (.swap ..)
  induction jobs with
  | nil => exact .refl _
  | cons j js ih => exact (insert_perm j _).trans (ih.cons j)

/-! ### The agent -/

theorem State.takeReady_of_takes {s : State} {slot : Nat} {e : Entry} {p : List Octet} (h : Takes s slot e p) :
    s.takeReady = some slot := by
  obtain ⟨hl, hs, hq, -⟩ := h
  unfold State.takeReady
  simp only [State.live, bne_iff_ne, ne_eq, hl, not_false_iff, if_true, hs]
  cases hqq : s.agent.queue with
  | nil => simp [hqq] at hq
  | cons x xs => simp_all

/-- The take of an entry that the command names (R140). -/
theorem takeHead_of_takes {s : State} {slot : Nat} {e : Entry} {p : List Octet} (named : List Octet → Bool) (act : TakeAction)
    (h : Takes s slot e p) (hn : named p = true) :
    takeHead named act s
      = .next (((act slot p.tail s.headTaken).1.completeAll (act slot p.tail s.headTaken).2).serveNext) := by
  have hr := State.takeReady_of_takes h
  obtain ⟨-, -, -, hf, -, -, hp⟩ := h
  subst hp
  simp [takeHead, hr, hf, hn]

/-- The agent goes on: the service timer of the next entry, or IDLE (R139). -/
theorem State.serveNext_frame (s : State) :
    s.serveNext = { s with agent := s.serveNext.agent, free := s.serveNext.free } := by
  unfold State.serveNext
  split <;> rfl

theorem State.serveNext_goesOn (s u : State) (hq : u.agent.queue = s.agent.queue.tail) (hf : u.free = s.free) :
    AgentGoesOn s u.serveNext := by
  unfold AgentGoesOn State.serveNext
  rw [← hq]
  cases h : u.agent.queue with
  | nil => simp [h, hf]
  | cons x xs => simp [h, serviceTime, hf, State.drawn]

/-- An operation carried out in one step, past the agent's early checks: its effect leaves `u`, and its entry completes
MANAGED with the operation's result and data (R140, R141). -/
theorem answers_of_takeOp {s : State} {slot : Nat} {e : Entry} {args : List Octet} (op : Op)
    (f : List Octet → State → Reply) (h : Takes s slot e (op.octet :: args)) (hl : op.locked = true → Unlocked s)
    (hb : op.barredByRestart = true → s.seq.run ≠ .restartPending)
    (u : State) (hu : (f args s.headTaken).state = u.headTaken) (hue : u.table.entries = s.table.entries) (r : Result)
    (d : List Octet) (hr : (f args s.headTaken).result = r) (hd : (f args s.headTaken).data = d) :
    ∃ t, takeOp op (oneStep op f) s = .next t ∧ Answers u t slot e s.active.settings.ownAddr op.octet r.octet d
        (releaseNote e { dest := e.ctrl, src := s.active.settings.ownAddr, tag := e.tag, kind := 0x3F#8
                         payload := op.octet :: r.octet :: d }) := by
  have hn : (fun p : List Octet => p.head? == some op.octet) (op.octet :: args) = true := by simp
  have := takeHead_of_takes (fun p => p.head? == some op.octet) (guardedAction op (oneStep op f)) h hn
  have hg : guardedAction op (oneStep op f) slot args s.headTaken = oneStep op f slot args s.headTaken := by
    unfold guardedAction
    split
    · rename_i hc
      simp at hc
      exact absurd hc.2 (hb hc.1)
    · split
      · rename_i hlk
        obtain ⟨h1, h2⟩ := hl hlk
        have : s.headTaken.sampleCfgen = (true, s.headTaken) := by
          simp [State.sampleCfgen, cfgenSteady, h1, h2]
        simp [this]
      · rfl
  refine ⟨_, this, ?_⟩
  simp only [List.tail_cons]
  rw [hg]
  simp only [oneStep, State.completeAll_single, managedJob, State.headTaken_own]
  rw [hr, hd]
  have ha : (f args s.headTaken).state.agent.queue = u.agent.queue.tail := by rw [hu]; rfl
  rw [hu]
  have hfu : u.headTaken.table.find? slot = some e := by
    rw [← h.2.2.2.1]; exact Table.find?_congr hue slot
  have hst : e.state.isOpen = true := by rw [h.2.2.2.2.1]; rfl
  have hc := State.complete_open u.headTaken slot (.managed s.own op.octet r d) e hfu hst
  have hframe := State.complete_frame u.headTaken slot (.managed s.own op.octet r d)
  have hs := State.serveNext_frame (u.headTaken.complete slot (.managed s.own op.octet r d))
  refine ⟨?_, ?_, ?_, ?_⟩
  · rw [hs]; exact hc
  · rw [hframe]; exact State.serveNext_goesOn _ _ rfl rfl
  · rw [hs, hframe]; unfold State.serveNext; split <;> rfl
  · rw [hs, hframe]; rfl

/-- The release note of every answer but those to COMMIT and the answer OK to RESTART (R128). -/
theorem releaseNote_managed {e : Entry} {slot : Nat} {own op code : Octet} {d : List Octet} (hs : e.slot = slot)
    (h : op ≠ 0x0B#8) (h2 : op ≠ 0x18#8 ∨ code ≠ 0#8) :
    releaseNote e { dest := e.ctrl, src := own, tag := e.tag, kind := 0x3F#8, payload := op :: code :: d } = .entry slot := by
  unfold releaseNote
  cases e.origin <;> simp [hs, Op.octet, Result.octet, h]
  intro h3 h4
  simp_all

theorem Takes.slot_eq {s : State} {slot : Nat} {e : Entry} {p : List Octet} (h : Takes s slot e p) : e.slot = slot :=
  Table.find?_slot h.2.2.2.1

/-! ### Held reset and LOADING -/

@[simp] theorem Branch.silenced_driver (x : Branch) : x.silenced.driver = false := rfl
@[simp] theorem Branch.silenced_rx (x : Branch) : x.silenced.rx = .off := rfl
@[simp] theorem Branch.silenced_frame (x : Branch) : x.silenced.frame = none := rfl
@[simp] theorem Branch.silenced_sendLeft (x : Branch) : x.silenced.sendLeft = none := rfl

/-- Holding the part reset or LOADING touches the run state, the upstream receiver and transmitter, the branches and STAT. -/
theorem State.quieted_frame (s : State) : s.quieted =
    { s with seq := s.quieted.seq, up := s.quieted.up, branches := s.quieted.branches, sup := s.quieted.sup } := rfl

@[simp] theorem State.quieted_run (s : State) : s.quieted.seq.run = .loading := rfl
@[simp] theorem State.quieted_rx (s : State) : s.quieted.up.rx = .off := rfl
@[simp] theorem State.quieted_tx (s : State) : s.quieted.up.tx = .idle := rfl
@[simp] theorem State.quieted_queue (s : State) : s.quieted.up.queue = s.up.queue := rfl
@[simp] theorem State.quieted_stat (s : State) : s.quieted.sup.stat = false := rfl
@[simp] theorem State.quieted_supState (s : State) : s.quieted.sup.state = s.sup.state := rfl
@[simp] theorem State.quieted_branch (s : State) (b : BranchId) : s.quieted.branch b = (s.branch b).silenced := by
  cases b <;> rfl

/-! ### The store as a cold start finds it -/

@[simp] theorem agedFrom_length (holds : Nat → Bool) (k : Nat) (cs : List ImageSlot) :
    (agedFrom holds k cs).length = cs.length := by
  induction cs generalizing k with
  | nil => rfl
  | cons c cs ih => simp [agedFrom, ih]

/-- The loss of checks touches no other mark of any slot. -/
theorem agedFrom_getElem? (holds : Nat → Bool) (k : Nat) (cs : List ImageSlot) (i : Nat) :
    (agedFrom holds k cs)[i]? = cs[i]?.map fun c => { c with checkGood := c.checkGood && holds (k + i) } := by
  induction cs generalizing k i with
  | nil => rfl
  | cons c cs ih =>
    cases i with
    | zero => rfl
    | succ i => simp only [agedFrom, List.getElem?_cons_succ, ih]; simp only [Nat.add_comm, Nat.add_left_comm]

/-- A slot after classification at a cold start: its marks but for the check, and the state that the marks give (R155). -/
theorem Store.classify_aged_slot? (st : Store) (holds : Nat → Bool) (i : Nat) :
    (st.aged holds).classify.slot? i = (st.slot? i).map fun c =>
      let x := { c with checkGood := c.checkGood && holds i }
      { x with state := x.classified } := by
  simp only [Store.slot?, Store.classify, Store.aged, List.getElem?_map, agedFrom_getElem?, Option.map_map, Nat.zero_add]
  rfl

@[simp] theorem Store.classify_busy (st : Store) : st.classify.busy = .idle := rfl

/-- A save that ends marks its slot VALID or SPOILED as classification will find it, its header mark standing (R155, R158). -/
theorem ImageSlot.saveEnded_classified (c : ImageSlot) (v : Bool) (h : c.header = true) (hr : c.retire = false)
    (hi : c.image.isSome = true) : (c.saveEnded v).classified = (c.saveEnded v).state := by
  cases v <;> simp [ImageSlot.classified, ImageSlot.saveEnded, ImageSlot.checked, h, hr, hi]

end Sys2Proof.Machine
end

