-- ==== Sys2Proof/Tests/Slice0.lean ====
section
/-! SUPPORT. Tests of the model's own: the smoke test of WellFormed, small steps with results taken from the spec's worked
examples and tables, and for every statement with hypotheses a state that meets them. -/

namespace Sys2Proof.Tests

open Sys2Proof Sys2Proof.Machine

/-! ### WellFormed refuses an ill-formed term for each check -/

theorem test_noise_is_not_start : Instr.wellFormed (.upstreamNoise 0xC3#8) = false := by decide
theorem test_upstream_length_above_64 : Instr.wellFormed (.upstreamLength 64#8) = false := by decide
theorem test_branch_length_above_64 : Instr.wellFormed (.branchFrameLength .b2 64#8) = false := by decide
theorem test_slot_of_address_0 : Instr.wellFormed (.slotDue 0#8) = false := by decide
theorem test_refill_of_address_255 : Instr.wellFormed (.refillExpiry 0xFF#8) = false := by decide
theorem test_well_formed_commands :
    ([Instr.upstreamNoise 0#8, .upstreamLength 65#8, .branchFrameLength .b0 0xFF#8, .slotDue 1#8, .refillExpiry 254#8].all
      Instr.wellFormed) = true := by decide

/-! ### States to try -/

/-- Station 17 of the worked examples 3.11 and 3.12: branch 0, windows 100–149 and 150–199, a budget of 3. -/
def station17 : StationRecord :=
  { addr := 17#8, branch := .b0, classes := ⟨true, true, false, false⟩, timeout := 50, retries := 1
    budget := some ⟨3, 5⟩, windows := some [⟨100, 149⟩, ⟨150, 199⟩], scan := none, failsafe := none }

/-- Station 30 of the worked example 3.11: branch 1, all four classes. -/
def station30 : StationRecord :=
  { addr := 30#8, branch := .b1, classes := ⟨true, true, true, true⟩, timeout := 50, retries := 3
    budget := none, windows := none, scan := none, failsafe := some ⟨.command, [0x05#8]⟩ }

/-- Station 33 of the worked example 4.13: scanned on branch 0. -/
def station33 : StationRecord :=
  { addr := 33#8, branch := .b0, classes := ⟨false, false, false, false⟩, timeout := 20, retries := 0
    budget := none, windows := none, scan := some 20, failsafe := none }

def mapped : ConfigSet :=
  { settings := { factoryConfig.settings with
      branch := Quad.same { factoryBranch with bcast := true }, silence := 50 }
    stations := [station17, station30, station33] }

/-- The slot of station 33, due at time 0. -/
def slot33 : ScanSlot :=
  { addr := 33#8, state := .unknown, word := none, collState := .unknown, collWord := none, misses := 0
    schedule := .waiting 0#32, pollBound := false, lastPoll := none, mark := false }

/-- The part RUNNING with the map, everything idle and CFGEN high. -/
def field : State :=
  { State.reset with
    active := mapped, shadow := mapped, tokens := [⟨17#8, 3, none⟩], scan := { slots := [slot33], changes := [] }
    sup := { State.reset.sup with silence := some 0 }, pins := { State.reset.pins with cfgen := true } }

/-- A state with one branch controller replaced. -/
def onB0 (s : State) (x : Branch) : State := s.setBranch .b0 x

/-- The octets of a frame's check. -/
def crcHi (f : Frame) : Octet := oct ((crc f.body).toNat / 256)
def crcLo (f : Frame) : Octet := oct (crc f.body).toNat

/-- A receiver that waits for the last octet of a frame. -/
def nearlyAll (f : Frame) : Receiver := .inside (startOctet :: f.body ++ [crcHi f]) 0 0 false

theorem arrives (f : Frame) (h : f.payload.length ≤ 64) : ArrivesWith (nearlyAll f) f (crcLo f) :=
  ⟨crcHi f, ⟨h, 0, 0, false, rfl⟩, rfl⟩

/-- A last octet one too high breaks the check. -/
theorem breaks (f : Frame) (h : f.payload.length ≤ 64) : BreaksWith (nearlyAll f) f (crcLo f + 1#8) := by
  refine ⟨crcHi f, ⟨h, 0, 0, false, rfl⟩, ?_⟩
  intro e
  have : crcLo f + 1#8 = crcLo f := by
    injection e with _ e
    injection e with e
    exact e.symm
  bv_omega

/-- The upstream receiver waits for the last octet of a frame. -/
def hearing (s : State) (f : Frame) : State := { s with up := { s.up with rx := nearlyAll f } }

def request (dest kind : Octet) (payload : List Octet) : Frame :=
  { dest := dest, src := 0x01#8, tag := 0x41#8, kind := kind, payload := payload }

def readOne : Frame := request 17#8 0x10#8 [0#8, 100#8, 2#8]

/-- An entry of station 17 on branch 0, and one of the agent. -/
def readEntry : Entry :=
  { slot := 2, tag := 0x52#8, ctrl := 0x01#8, origin := .station, kind := .read, station := some 17#8
    route := some ⟨.b0, 50, 1⟩, sets := none, payload := [0#8, 100#8, 2#8], attempts := 1, lastCause := none
    state := .onLine, reply := none, admitted := 0#32, seq := none }

def takenEntry (p : List Octet) : Entry :=
  { slot := 0, tag := 0x31#8, ctrl := 0x01#8, origin := .manage, kind := .manage, station := none, route := none, sets := none
    payload := p, attempts := 0, lastCause := none, state := .queued, reply := none, admitted := 0#32, seq := none }

def withEntries (s : State) (es : List Entry) : State := { s with table := { s.table with entries := es } }

/-- The agent about to take an entry with a payload. -/
def managing (p : List Octet) : State :=
  { withEntries field [takenEntry p] with agent := { queue := [0], service := .serving 0, working := none } }

theorem takes (p : List Octet) : Takes (managing p) 0 (takenEntry p) p :=
  ⟨fun h => (nomatch h), rfl, rfl, rfl, rfl, rfl, rfl⟩

/-- Twenty-four occupied slots with the tags 0 to 23. -/
def fullTable : List Entry := (List.range 24).map fun n => { readEntry with slot := n, tag := oct n }

/-! ### A check that every entry stands in its place -/

/-- The entry of a slot satisfies a test. -/
def holds (s : State) (k : Nat) (p : Entry → Bool) : Bool := (s.table.find? k).any p

theorem holds_iff (s : State) (k : Nat) (p : Entry → Bool) :
    holds s k p = true ↔ ∃ e, s.table.find? k = some e ∧ p e = true := by
  unfold holds
  cases s.table.find? k <;> simp

def shapedCheck (e : Entry) : Bool :=
  (match e.origin with
    | .station => e.station.isSome && e.route.isSome && e.sets.isNone && e.kind != .manage && e.state != .spreading
        && e.state != .working
    | .broadcast => e.kind == .command && e.station.isNone && e.state != .queued && e.state != .onLine && e.state != .working
        && (match e.sets with | some x => e.state != .spreading || !emptySet x.pending | none => false)
    | .manage => e.kind == .manage && e.station.isNone && e.sets.isNone && e.state != .onLine && e.state != .spreading)
  && (e.state != .queued || e.attempts == 0)
  && (if e.state.isOpen then e.reply.isNone && e.seq.isNone else e.reply.isSome && e.seq.isSome)

theorem shaped_of_check (e : Entry) (h : shapedCheck e = true) : e.shaped := by
  obtain ⟨slot, tag, ctrl, origin, kind, station, route, sets, payload, attempts, lastCause, state, reply, admitted, seq⟩ := e
  cases origin <;> cases sets <;> cases state <;>
    simp_all [shapedCheck, Entry.shaped, EntryState.isOpen]

def onBranch (b : BranchId) (e : Entry) : Bool := e.origin == .station && (match e.route with | some r => r.branch == b | none => false)

/-- The places at a branch that name a slot agree with its entry. -/
def branchPlaces (s : State) (k : Nat) (b : BranchId) : Bool :=
  decide (.station k ∈ (s.branch b).queue ↔ holds s k (fun e => onBranch b e && e.state == .queued) = true)
    && decide ((s.branch b).bound = some (.station k) ↔ holds s k (fun e => onBranch b e && e.state == .onLine) = true)
    && decide (.share k ∈ (s.branch b).queue ∨ (s.branch b).bound = some (.share k) ↔ holds s k (fun e => e.origin == .broadcast
        && e.state == .spreading && (match e.sets with | some y => y.pending.get b | none => false)) = true)
    && decide ((s.branch b).bound = some (.share k) →
        .share k ∉ (s.branch b).queue ∧ ((s.branch b).state = .guard ∨ (s.branch b).state = .sending))

/-- The other places that name a slot agree with its entry. -/
def otherPlaces (s : State) (k : Nat) : Bool :=
  decide (k ∈ s.agent.queue ↔ holds s k (fun e => e.origin == .manage && e.state == .queued) = true)
  && decide (s.agent.working.map (fun w => w.slot) = some k ↔ holds s k (fun e => e.origin == .manage && e.state == .working) = true)
  && decide (k ∈ s.table.returning ↔ holds s k (fun e => e.state == .returning) = true)
  && decide (k ∈ (s.up.queue.filterMap fun i => i.note.slot?) ↔ holds s k (fun e => e.state == .outbound) = true)

abbrev PlaceAgrees (s : State) (k : Nat) : Prop := (∀ b ∈ BranchId.all, branchPlaces s k b = true) ∧ otherPlaces s k = true

/-- No place names a slot above 23, and no slot above 23 is occupied. -/
abbrev PlacesBelow (s : State) : Prop :=
  (∀ b ∈ BranchId.all, (∀ q ∈ (s.branch b).queue, (match q with | .station k => k | .share k => k) < 24)
    ∧ ∀ i, (s.branch b).bound = some i → (match i with | .station k => k | .share k => k | _ => 0) < 24)
  ∧ (∀ k ∈ s.agent.queue, k < 24) ∧ (∀ k, s.agent.working.map (fun w => w.slot) = some k → k < 24)
  ∧ (∀ k ∈ s.table.returning, k < 24) ∧ (∀ k ∈ (s.up.queue.filterMap fun i => i.note.slot?), k < 24)
  ∧ ∀ e ∈ s.table.entries, e.slot < 24

/-- A slot that no place names and that is free satisfies the check. -/
theorem placeAgrees_above (s : State) (h : PlacesBelow s) (k : Nat) (hk : 24 ≤ k) : PlaceAgrees s k := by
  obtain ⟨hb, ha, hw, hr, hn, he⟩ := h
  have hfind : s.table.find? k = none := by
    rw [Table.find?, List.find?_eq_none]
    intro e m
    have := he e m
    simp; omega
  have free (p : Entry → Bool) : ¬ holds s k p = true := by simp [holds, hfind]
  simp only [PlaceAgrees, branchPlaces, otherPlaces, Bool.and_eq_true, decide_eq_true_eq]
  refine ⟨fun b m => ⟨⟨⟨⟨fun q => ?_, fun q => absurd q (free _)⟩, ⟨fun q => ?_, fun q => absurd q (free _)⟩⟩,
    ⟨fun q => ?_, fun q => absurd q (free _)⟩⟩, fun q => ?_⟩, ⟨⟨⟨fun q => ?_, fun q => absurd q (free _)⟩,
    ⟨fun q => ?_, fun q => absurd q (free _)⟩⟩, ⟨fun q => ?_, fun q => absurd q (free _)⟩⟩, ⟨fun q => ?_, fun q => absurd q (free _)⟩⟩
  · exact absurd ((hb b m).1 _ q) (by simp; omega)
  · exact absurd ((hb b m).2 _ q) (by simp; omega)
  · rcases q with q | q
    · exact absurd ((hb b m).1 _ q) (by simp; omega)
    · exact absurd ((hb b m).2 _ q) (by simp; omega)
  · exact absurd ((hb b m).2 _ q) (by simp; omega)
  · exact absurd (ha k q) (by omega)
  · exact absurd (hw k q) (by omega)
  · exact absurd (hr k q) (by omega)
  · exact absurd (hn k q) (by omega)

theorem placed_of (s : State) (hsh : ∀ e ∈ s.table.entries, shapedCheck e = true) (hbl : PlacesBelow s)
    (hpl : ∀ k < 24, PlaceAgrees s k) (hqn : ∀ b ∈ BranchId.all, (s.branch b).queue.Nodup) (han : s.agent.queue.Nodup)
    (hwb : ∀ w, s.agent.working = some w → s.store.busy = match w.op with | .save => .saving w.image | .retire => .retiring w.image)
    (hrn : s.table.returning.Nodup) (hnn : (s.up.queue.filterMap fun i => i.note.slot?).Nodup)
    (hfr : ∀ i ∈ s.up.queue, ∀ k, i.note.slot? = some k → ∀ e, s.table.find? k = some e → e.reply = some i.frame) :
    EntriesPlaced s := by
  intro _
  have hc (k : Nat) : PlaceAgrees s k := by
    by_cases hk : k < 24
    · exact hpl k hk
    · exact placeAgrees_above s hbl k (by omega)
  simp only [PlaceAgrees, branchPlaces, otherPlaces, Bool.and_eq_true, decide_eq_true_eq] at hc
  have hall (b : BranchId) : b ∈ BranchId.all := by cases b <;> decide
  have route (b : BranchId) (e : Entry) : onBranch b e = true ↔ e.origin = .station ∧ ∃ r, e.route = some r ∧ r.branch = b := by
    unfold onBranch
    cases e.route <;> simp
  refine ⟨fun e he => shaped_of_check e (hsh e he), fun b => ⟨hqn b (hall b), fun k => ?_, fun k => ?_, fun k => ?_,
    fun k hk => ((hc k).1 b (hall b)).2 hk⟩, han, fun k => ?_, fun k => ?_, hwb, hrn, fun k => ?_, hnn, fun k => ?_,
    fun i hi k e hk he => hfr i hi k hk e he⟩
  · rw [((hc k).1 b (hall b)).1.1.1, holds_iff]
    simp only [Bool.and_eq_true, route, beq_iff_eq]
    constructor
    · rintro ⟨e, h1, ⟨h2, r, h3, h4⟩, h5⟩; exact ⟨e, r, h1, h2, h5, h3, h4⟩
    · rintro ⟨e, r, h1, h2, h5, h3, h4⟩; exact ⟨e, h1, ⟨h2, r, h3, h4⟩, h5⟩
  · rw [((hc k).1 b (hall b)).1.1.2, holds_iff]
    simp only [Bool.and_eq_true, route, beq_iff_eq]
    constructor
    · rintro ⟨e, h1, ⟨h2, r, h3, h4⟩, h5⟩; exact ⟨e, r, h1, h2, h5, h3, h4⟩
    · rintro ⟨e, r, h1, h2, h5, h3, h4⟩; exact ⟨e, h1, ⟨h2, r, h3, h4⟩, h5⟩
  · rw [((hc k).1 b (hall b)).1.2, holds_iff]
    constructor
    · rintro ⟨e, h1, h2⟩
      cases hs : e.sets with
      | none => simp [hs] at h2
      | some x =>
        simp only [hs, Bool.and_eq_true, beq_iff_eq] at h2
        exact ⟨e, x, h1, h2.1.1, h2.1.2, hs, h2.2⟩
    · rintro ⟨e, x, h1, h2, h3, h4, h5⟩
      exact ⟨e, h1, by simp [h2, h3, h4, h5]⟩
  · rw [(hc k).2.1.1.1, holds_iff]; simp only [Bool.and_eq_true, beq_iff_eq]
  · have := (hc k).2.1.1.2
    rw [holds_iff] at this
    simp only [Bool.and_eq_true, beq_iff_eq] at this
    rw [← this]
    cases s.agent.working <;> simp
  · rw [(hc k).2.1.2, holds_iff]; simp only [beq_iff_eq]
  · rw [(hc k).2.2, holds_iff]; simp only [beq_iff_eq]

/-! ### Small steps with results from the spec -/

set_option maxRecDepth 20000 in
/-- The value R171 gives for the octets of "123456789". -/
theorem test_crc_of_123456789 :
    crc [0x31#8, 0x32#8, 0x33#8, 0x34#8, 0x35#8, 0x36#8, 0x37#8, 0x38#8, 0x39#8] = 0x29B1#16 := by decide

/-- Frame a of 3.11: a WRITE 140 to 159 is refused WINDOW. -/
theorem test_window_across_two :
    windowsAllow station17.windows [0#8, 140#8, 20#8] = false
    ∧ field.judge (request 17#8 0x11#8 ([0#8, 140#8, 20#8] ++ List.replicate 40 0#8)) = .refuse .window := by decide

/-- Frame b of 3.11: a WRITE 150 to 169 is admitted, to slot 0. -/
theorem test_window_inside :
    field.judge (request 17#8 0x11#8 ([0#8, 150#8, 20#8] ++ List.replicate 40 0#8)) = .station station17 .write 0 := by decide

/-- Frames c, f, g and h of 3.11: CLASS, NO_BROADCAST, FORMAT, discarded. -/
theorem test_other_frames_of_the_example :
    field.judge (request 17#8 0x12#8 [1#8, 2#8]) = .refuse .classSet
    ∧ field.judge (request 0xFF#8 0x10#8 [0#8, 0#8, 1#8]) = .refuse .noBroadcast
    ∧ field.judge (request 0xFE#8 0x11#8 [0#8, 0#8, 1#8, 0#8, 0#8]) = .refuse .format
    ∧ field.judge (request 0#8 0x10#8 []) = .discard := by decide

/-- The budget of 3.12: a full bucket starts its timer at 50 ms, a refill at count 0 starts it again, the last one stops it. -/
theorem test_budget_of_the_example :
    TokenState.taken ⟨17#8, 3, none⟩ ⟨3, 5⟩ = ⟨17#8, 2, some (50 * 18432)⟩
    ∧ TokenState.refilled ⟨17#8, 0, some 0⟩ ⟨3, 5⟩ = ⟨17#8, 1, some (50 * 18432)⟩
    ∧ TokenState.refilled ⟨17#8, 2, some 0⟩ ⟨3, 5⟩ = ⟨17#8, 3, none⟩ := by decide

/-- The guard of 4 char at 115200 baud lasts 0.347 ms, a READ frame of 11 octets 0.955 ms (R72, R77): in clock periods. -/
theorem test_times_of_the_example :
    4 * BranchRate.charPeriods .r115200 = 6400 ∧ 11 * BranchRate.charPeriods .r115200 = 17600
    ∧ 6400 * 1000 / 18432 = 347 ∧ 17600 * 1000 / 18432 = 954 := by decide

/-- The third miss takes an UNKNOWN station OFFLINE and marks it, with no word (R99, R102). -/
theorem test_third_miss :
    (({ field with scan := { slots := [{ slot33 with misses := 2 }], changes := [] } }.recordPoll 33#8 none 0#32).scan.slots.map
      fun x : ScanSlot => (x.state, x.word, x.misses, x.mark)) = [(ScanState.offline, none, 3, true)] := by decide

/-- Validation of 2.8: a record on a branch that is not ENABLED is BRANCH_OFF. -/
theorem test_validation_branch_off :
    ConfigSet.offence { mapped with settings := { mapped.settings with
      branch := { mapped.settings.branch with b1 := { factoryBranch with enabled := false } } } } = some (30#8, 0x01#8) := by
  decide

/-! ### States that meet the hypotheses -/

theorem witness_StepRunsTheFrontCommand : { State.reset with pending := [.cfgenChange] }.pending = .cfgenChange :: [] := rfl

def spaced : State := { State.reset with up := { State.reset.up with tx := .spacing 0 } }

/-- The upstream receiver inside a frame for so many periods since its last octet; a char is 400 periods at reset. -/
def quietFor (s : State) (n : Nat) : State := { s with up := { s.up with rx := .inside [0xC3#8] n 0 false } }

/-- The same with the start bit of the next octet taken. -/
def begunFor (n : Nat) : State := (quietFor State.reset n).startBit none

/-- GAP comes at the expiry, 3 char after the last octet, and not one period before (R179). -/
theorem test_gap_at_the_expiry :
    step (quietFor State.reset 1199) = .next (quietFor State.reset 1199).tick
    ∧ (quietFor State.reset 1199).tick.due = [.upstreamGap]
    ∧ exec .upstreamGap (quietFor State.reset 1199) = .refused .timerOtherwise
    ∧ exec .upstreamGap (quietFor State.reset 1200) = .next (quietFor State.reset 1200).upstreamGapped :=
  ⟨rfl, by decide, rfl, rfl⟩

/-- Once its start bit is taken before the expiry an octet belongs to the frame whenever it ends, and no GAP comes before it (R179);
time waits for it at its end, 4 char after the octet before. -/
theorem test_octet_begun_before_the_expiry :
    (begunFor 1200).due = [] ∧ exec .upstreamGap (begunFor 1200) = .refused .timerOtherwise
    ∧ step (begunFor 1599) = .next (begunFor 1599).tick ∧ step (begunFor 1600) = .next (begunFor 1600)
    ∧ exec (.upstreamFrameOctet 9#8) (begunFor 1500)
      = .next { State.reset with up := { State.reset.up with rx := .inside [0xC3#8, 9#8] 0 0 false } } :=
  ⟨by decide, rfl, rfl, rfl, rfl⟩

/-- An octet begun at 230400 baud, 500 periods after the one before, when the line goes to 1843200 baud, where 3 char are less: it is
received at the old rate and ends 800 periods later, and the time it takes ends the frame no sooner (R132, R179, R180). -/
theorem test_octet_over_a_rate_rise :
    let r : Receiver := (Receiver.inside [0xC3#8] 500 0 true).rerated 800
    r = .inside [0xC3#8] 500 1300 true ∧ r.gapReached 100 = false
    ∧ (Receiver.inside [0xC3#8] 1299 1300 true).octetAwaited 100 = false
    ∧ (Receiver.inside [0xC3#8] 1300 1300 true).octetAwaited 100 = true := by decide

theorem witness_IdleStepsTakeEventsOrTime :
    State.reset.pending = [] ∧ State.reset.due = [] ∧ State.reset.seq.run ≠ .loading ∧ State.reset.clock.phase + 1 < 18432
    ∧ spaced.pending = [] ∧ spaced.due = [.endOfSpacing] ∧ (quietFor State.reset 1199).due = [] := by decide

/-- At reset no octet is awaited, nor with one begun before its 4 char. -/
theorem witness_IdleStepsTakeEventsOrTime_free : ¬ OctetIsAwaited State.reset ∧ ¬ OctetIsAwaited (begunFor 1599) := by
  constructor
  · rintro (⟨_, _, _, h, -⟩ | ⟨b, _, _, _, h, -⟩)
    · cases h
    · cases b <;> cases h
  · rintro (⟨_, _, _, h, hq⟩ | ⟨b, _, _, _, h, -⟩)
    · cases h
      exact absurd hq (by decide)
    · cases b <;> cases h

/-- A gap timer that expires, alone and beside another event; and an octet begun that has reached its end. -/
theorem witness_IdleStepsTakeEventsOrTime_gap :
    (quietFor State.reset 1200).due = [.upstreamGap] ∧ 2 ≤ (quietFor spaced 1200).due.length
    ∧ (quietFor State.reset 1200).up.rx = .inside [0xC3#8] 1200 0 false
    ∧ (onB0 State.reset { State.reset.branches.b0 with rx := .inside [0xC3#8] 4800 0 false }).due = [.branchGap .b0]
    ∧ (begunFor 1600).pending = [] ∧ (begunFor 1600).due = [] ∧ (begunFor 1600).seq.run ≠ .loading := by decide

theorem witness_IdleStepsTakeEventsOrTime_awaited : OctetIsAwaited (begunFor 1600) := .inl ⟨_, _, _, rfl, by decide⟩

/-- The silence timer, a refill timer and a due time that have run out, and the take of an operation. -/
theorem witness_IdleStepsTakeEventsOrTime_timers :
    let s := { managing [0x0B#8] with tokens := [⟨17#8, 2, some 0⟩] }
    s.seq.run ≠ .loading ∧ s.sup.state = .normal ∧ s.sup.silence = some 0 ∧ ⟨17#8, 2, some 0⟩ ∈ s.tokens
    ∧ slot33 ∈ s.scan.slots ∧ (s.clock.ms - 0#32).toNat < 2 ^ 31 ∧ Takes s 0 (takenEntry [0x0B#8]) [0x0B#8]
    ∧ (0x0B#8, Instr.commit) ∈ takeCommands ∧ ∀ c, (0x19#8, c) ∉ takeCommands := by
  refine ⟨by decide, by decide, by decide, by decide, by decide, by decide, ⟨fun h => (nomatch h), rfl, rfl, rfl, rfl, rfl, rfl⟩,
    by decide, ?_⟩
  simp [takeCommands]

theorem witness_IdleStepsTakeEventsOrTime_wrap :
    let s : State := { State.reset with clock := { ms := 0#32, phase := 18431 } }
    s.pending = [] ∧ s.due = [] ∧ s.seq.run ≠ .loading ∧ 18432 ≤ s.clock.phase + 1 := by decide

/-- Timers of each kind that have time left, with nothing due; and a part in LOADING. -/
theorem witness_IdleStepsTakeEventsOrTime_period :
    let s : State := { onB0 State.reset { State.reset.branches.b0 with
        state := .guard, phase := .running 2, rx := .inside [0xC3#8] 7 0 false } with
      up := { State.reset.up with tx := .sending 2, rx := .inside [0xC3#8] 7 0 true }
      agent := { queue := [0], service := .serving 2, working := none } }
    let u : State := { State.reset with seq := { State.reset.seq with run := .loading } }
    s.pending = [] ∧ s.due = [] ∧ s.octetAwaited = false ∧ s.seq.run ≠ .loading ∧ (s.branch .b0).phase = .running 2
    ∧ s.up.tx = .sending 2 ∧ s.agent.service = .serving 2 ∧ (s.branch .b0).rx = .inside [0xC3#8] 7 0 false
    ∧ u.pending = [] ∧ u.seq.run = .loading := by decide

theorem reset_lines : LinesFollowStates State.reset := by intro b; cases b <;> decide

theorem empty_placed (s : State) (he : s.table.entries = []) (hb : ∀ b, (s.branch b).queue = [] ∧ (s.branch b).bound = none)
    (ha : s.agent = { queue := [], service := .idle, working := none }) (hr : s.table.returning = []) (hq : s.up.queue = []) :
    EntriesPlaced s := by
  have hf (k : Nat) : s.table.find? k = none := by rw [Table.find?, he]; rfl
  intro _
  simp [he, hb, ha, hr, hq, hf]

theorem reset_placed : EntriesPlaced State.reset := empty_placed _ rfl (by intro b; cases b <;> decide) rfl rfl rfl

theorem witness_DueEventsComeAbout_placed : EntriesPlaced spaced :=
  empty_placed _ rfl (by intro b; cases b <;> decide) rfl rfl rfl

theorem witness_DueEventsComeAbout :
    LinesFollowStates spaced ∧ QueuesBounded spaced ∧ MapsOrdered spaced ∧ TokensBounded spaced ∧ SlotsFollowMap spaced
    ∧ Instr.endOfSpacing ∈ spaced.due := by
  refine ⟨?_, ⟨by decide, ?_, by decide, ?_, ?_⟩, ⟨⟨by decide, by decide⟩, ⟨by decide, by decide⟩, ?_⟩, ?_, ?_, by decide⟩
  · intro b; cases b <;> decide
  · intro b; cases b <;> decide
  · intro n h; cases h
  · intro _ h; cases h
  · intro c hc i hi
    have : ∀ c ∈ spaced.store.slots, c.image = none := by decide
    rw [this c hc] at hi
    cases hi
  · intro _
    exact ⟨by decide, fun t ht => by cases ht⟩
  · intro _; decide

theorem witness_CommandsLeaveTheQueue : ∃ t, exec .cfgenChange State.reset = .next t := ⟨_, rfl⟩

theorem witness_FramesRoundTrip : (request 17#8 0x11#8 (List.replicate 64 0#8)).payload.length ≤ 64 := by decide

/-- The longest record, 62 octets, and the shortest. -/
def longRecord : StationRecord :=
  { addr := 254#8, branch := .b3, classes := ⟨true, true, true, true⟩, timeout := 1000, retries := 3, budget := some ⟨15, 255⟩
    windows := some [⟨0, 1⟩, ⟨2, 3⟩, ⟨4, 5⟩, ⟨6, 65535⟩], scan := some 600, failsafe := some ⟨.command, List.replicate 32 1#8⟩ }

theorem witness_LayoutsRoundTrip :
    mapped.settings.inRange = true ∧ station17.inRange = true ∧ longRecord.inRange = true
    ∧ longRecord.octets.length = 62 := by decide

theorem witness_RequestShapesAndWindows :
    shapeOk .write ([0xFF#8, 0xE2#8, 30#8] ++ List.replicate 60 0#8) = true := by decide

theorem witness_UpstreamReceptionCounts :
    State.reset.up.rx = .outside ∧ (0#8 : Octet) ≠ 0xC3#8
    ∧ (6 ≤ [1#8].length → [1#8].length + 1 ≠ 8 + (([1#8] : List Octet).getD 5 0#8).toNat) ∧ 64 < (65#8 : Octet).toNat
    ∧ 3 * State.reset.up.rate.charPeriods ≤ 1200 := by decide

/-- UPSTREAM_GAP is refused outside a frame, one period before the expiry, and after a start bit; from 3 char on it comes. -/
theorem witness_UpstreamReceptionCounts_gap :
    (∀ os quiet straddle, State.reset.up.rx = .inside os quiet straddle false → quiet < 3 * State.reset.up.rate.charPeriods)
    ∧ (∀ os quiet straddle, (quietFor State.reset 1199).up.rx = .inside os quiet straddle false →
        quiet < 3 * (quietFor State.reset 1199).up.rate.charPeriods)
    ∧ (∀ os quiet straddle, (begunFor 1200).up.rx = .inside os quiet straddle false →
        quiet < 3 * (begunFor 1200).up.rate.charPeriods)
    ∧ (quietFor State.reset 1200).up.rx = .inside [0xC3#8] 1200 0 false
    ∧ 3 * (quietFor State.reset 1200).up.rate.charPeriods ≤ 1200 := by
  refine ⟨?_, ?_, ?_, rfl, by decide⟩
  · intro _ _ _ h; cases h
  · intro _ _ _ h; cases h; decide
  · intro _ _ _ h; cases h

theorem witness_UpstreamReceptionCounts_check : (hearing field readOne).up.Breaks readOne (crcLo readOne + 1#8) :=
  breaks readOne (by decide)

def pending (s : State) : State := { s with seq := { s.seq with run := .restartPending } }

theorem witness_FramesWithoutEffectAreDropped :
    ((pending (hearing field readOne)).seq.run = .restartPending
      ∧ (pending (hearing field readOne)).up.Arrives readOne (crcLo readOne))
    ∧ (let f := request 0#8 0x10#8 []
       (hearing field f).seq.run = .running ∧ (hearing field f).up.Arrives f (crcLo f) ∧ f.dest = 0#8)
    ∧ (let f := request 17#8 0x20#8 []
       (hearing field f).seq.run = .running ∧ (hearing field f).up.Arrives f (crcLo f)
       ∧ f.kind ∉ [0x10#8, 0x11#8, 0x12#8, 0x13#8, 0x1F#8]) :=
  ⟨⟨rfl, arrives _ (by decide)⟩, ⟨rfl, arrives _ (by decide), rfl⟩, ⟨rfl, arrives _ (by decide), by decide⟩⟩

def held (s : State) : State := { s with sup := { s.sup with state := .failsafeHeld, silence := none, stat := true } }

theorem witness_DestinationAndFailsafeRefusals :
    (let f := request 0xFE#8 0x13#8 []
     (hearing field f).seq.run = .running ∧ (hearing field f).up.Arrives f (crcLo f) ∧ f.dest ≠ 0#8
     ∧ f.kind ∈ [0x10#8, 0x11#8, 0x12#8, 0x13#8] ∧ f.dest = (hearing field f).active.settings.ownAddr)
    ∧ (let f := request 0xFF#8 0x1F#8 []
       (hearing field f).up.Arrives f (crcLo f) ∧ f.dest ≠ 0#8 ∧ f.kind = 0x1F#8
       ∧ f.dest ≠ (hearing field f).active.settings.ownAddr)
    ∧ (let f := request 0xFF#8 0x12#8 [1#8]
       (hearing (held field) f).up.Arrives f (crcLo f) ∧ f.kind ∈ [0x11#8, 0x12#8]
       ∧ f.dest ≠ field.active.settings.ownAddr ∧ (hearing (held field) f).sup.state ≠ .normal) :=
  ⟨⟨rfl, arrives _ (by decide), by decide, by decide, by decide⟩, ⟨arrives _ (by decide), by decide, by decide, by decide⟩,
    ⟨arrives _ (by decide), by decide, by decide, by decide⟩⟩

theorem asks (s : State) (f : Frame) (k : ReqKind) (hr : s.seq.run = .running) (hl : f.payload.length ≤ 64) (hk : k ≠ .manage)
    (hf : f.kind = k.octet) (h0 : f.dest ≠ 0#8) (h1 : f.dest ≠ 0xFF#8) (ho : f.dest ≠ s.active.settings.ownAddr)
    (hs : s.sup.state = .normal ∨ k = .read ∨ k = .status) : StationRequest (hearing s f) f (crcLo f) k :=
  ⟨hr, arrives f hl, hk, hf, h0, h1, ho, hs⟩

theorem asks_readOne (s : State) (hr : s.seq.run = .running) (ho : s.active = mapped) :
    StationRequest (hearing s readOne) readOne (crcLo readOne) .read :=
  asks s readOne .read hr (by decide) (by decide) rfl (by decide) (by decide) (by rw [ho]; decide) (Or.inr (Or.inl rfl))

theorem witness_StationRequestRefusals_unknown :
    StationRequest (hearing field (request 18#8 0x10#8 [])) (request 18#8 0x10#8 []) (crcLo (request 18#8 0x10#8 [])) .read
    ∧ field.active.record? 18#8 = none :=
  ⟨asks _ _ _ rfl (by decide) (by decide) rfl (by decide) (by decide) (by decide) (by decide), by decide⟩

/-- The order of the example d of 3.11: each check in turn, the ones before it passed. -/
theorem witness_StationRequestRefusals :
    StationRequest (hearing field readOne) readOne (crcLo readOne) .read ∧ field.active.record? 17#8 = some station17
    ∧ station17.classes.allows .command = false ∧ station17.classes.allows .read = true
    ∧ shapeOk .read [0#8, 100#8] = false ∧ shapeOk .read readOne.payload = true
    ∧ windowsAllow station17.windows [0#8, 140#8, 20#8] = false :=
  ⟨asks_readOne field rfl rfl, by decide, by decide, by decide, by decide, by decide, by decide⟩

theorem witness_StationRequestRefusals_fault :
    let s := onB0 field { field.branches.b0 with state := .fault }
    StationRequest (hearing s readOne) readOne (crcLo readOne) .read ∧ ((hearing s readOne).branch .b0).state = .fault :=
  ⟨asks_readOne _ rfl rfl, by decide⟩

theorem witness_StationRequestRefusals_tag :
    let s := withEntries field [{ readEntry with tag := 0x41#8 }]
    StationRequest (hearing s readOne) readOne (crcLo readOne) .read
    ∧ (∃ e ∈ (hearing s readOne).table.entries, e.tag = readOne.tag) ∧ ((hearing s readOne).branch .b0).state ≠ .fault :=
  ⟨asks_readOne _ rfl rfl, by decide, by decide⟩

theorem witness_StationRequestRefusals_full :
    let s := withEntries field fullTable
    StationRequest (hearing s readOne) readOne (crcLo readOne) .read
    ∧ (∀ n, n < 24 → ∃ e ∈ (hearing s readOne).table.entries, e.slot = n)
    ∧ (∀ e ∈ (hearing s readOne).table.entries, e.tag ≠ readOne.tag) :=
  ⟨asks_readOne _ rfl rfl, by decide, by decide⟩

theorem witness_StationRequestRefusals_queue :
    let s := onB0 field { field.branches.b0 with state := .awaiting, queue := List.replicate 8 (.station 2) }
    StationRequest (hearing s readOne) readOne (crcLo readOne) .read ∧ 8 ≤ ((hearing s readOne).branch .b0).queue.length :=
  ⟨asks_readOne _ rfl rfl, by decide⟩

theorem witness_StationRequestRefusals_rate :
    let s := { field with tokens := [⟨17#8, 0, some 5⟩] }
    StationRequest (hearing s readOne) readOne (crcLo readOne) .read ∧ (hearing s readOne).tokenCount 17#8 = 0
    ∧ station17.budget.isSome = true ∧ (∀ e ∈ (hearing s readOne).table.entries, e.slot ≠ 0) :=
  ⟨asks_readOne _ rfl rfl, by decide, by decide, by decide⟩

theorem idleUnclaimed (s : State) (h : ∀ b, (s.branch b).failsafe = [] ∧ (s.branch b).queue = [] ∧ s.overdueClaims b = []) :
    NoIdleClaim s := fun _ b _ => h b

theorem lowestFree_of_empty (s : State) (h : s.table.entries = []) : LowestFree s 0 :=
  ⟨by decide, (by rw [h]; exact fun e he => nomatch he), fun n hn => absurd hn (Nat.not_lt_zero n)⟩

theorem witness_StationRequestIsAdmitted :
    let s := hearing field readOne
    StationRequest s readOne (crcLo readOne) .read ∧ NoIdleClaim s ∧ s.active.record? readOne.dest = some station17
    ∧ (s.branch .b0).state = .idle ∧ LowestFree s 0 ∧ 1 ≤ s.tokenCount readOne.dest :=
  ⟨asks_readOne field rfl rfl, idleUnclaimed _ (by intro b; cases b <;> decide), by decide, by decide,
    lowestFree_of_empty _ rfl, by decide⟩

theorem witness_StationRequestIsAdmitted_queued :
    let s := hearing (onB0 field { field.branches.b0 with state := .awaiting, queue := List.replicate 7 (.station 2) }) readOne
    StationRequest s readOne (crcLo readOne) .read ∧ (s.branch .b0).state ≠ .idle ∧ (s.branch .b0).state ≠ .fault
    ∧ (s.branch .b0).state ≠ .disabled ∧ (s.branch .b0).queue.length < 8 ∧ LowestFree s 0 :=
  ⟨asks_readOne _ rfl rfl, by decide, by decide, by decide, by decide, lowestFree_of_empty _ rfl⟩

theorem witness_ManagementRequestAdmission :
    let f := request 0xFE#8 0x1F#8 [0x01#8]
    let s := hearing field f
    s.seq.run = .running ∧ s.up.Arrives f (crcLo f) ∧ f.dest ≠ 0#8 ∧ f.dest = s.active.settings.ownAddr
    ∧ f.kind = 0x1F#8 ∧ (∀ e ∈ s.table.entries, e.tag ≠ f.tag) ∧ LowestFree s 0 ∧ s.agent.queue.length < 4 :=
  ⟨rfl, arrives _ (by decide), by decide, by decide, rfl, by decide, lowestFree_of_empty _ rfl, by decide⟩

theorem witness_BroadcastAdmission :
    let f := request 0xFF#8 0x12#8 [1#8, 2#8]
    let s := hearing field f
    s.seq.run = .running ∧ s.up.Arrives f (crcLo f) ∧ f.kind = ReqKind.command.octet ∧ f.dest = 0xFF#8
    ∧ f.dest ≠ s.active.settings.ownAddr ∧ s.sup.state = .normal ∧ s.eligible .b0 = true ∧ LowestFree s 0
    ∧ NoIdleClaim s :=
  ⟨rfl, arrives _ (by decide), rfl, rfl, by decide, rfl, by decide, lowestFree_of_empty _ rfl,
    idleUnclaimed _ (by intro b; cases b <;> decide)⟩

theorem witness_BroadcastAdmission_refused :
    let f := request 0xFF#8 0x12#8 (List.replicate 34 0#8)
    let s := hearing State.reset f
    s.seq.run = .running ∧ s.up.Arrives f (crcLo f) ∧ 33 < f.payload.length ∧ (∀ b, s.eligible b = false) :=
  ⟨rfl, arrives _ (by decide), by decide, by intro b; cases b <;> decide⟩

def answering (note : ReleaseNote) (more : List OutItem) : State :=
  { withEntries field [readEntry] with
    up := { field.up with tx := .sending 0, queue := { frame := readOne, note := note } :: more } }

theorem witness_TransmissionAndSpacingEnd :
    (let s := answering (.entry 2) []
     s.seq.run ≠ .loading ∧ s.up.tx = .sending 0 ∧ s.up.queue = [{ frame := readOne, note := .entry 2 }]
     ∧ s.table.returning = [])
    ∧ (let s : State := { answering .refusal [] with
         table := { field.table with entries := [{ readEntry with reply := some readOne }], returning := [2] } }
       s.up.tx = .sending 0 ∧ s.table.returning = 2 :: [] ∧ s.table.find? 2 = some { readEntry with reply := some readOne })
    ∧ spaced.seq.run ≠ .loading ∧ spaced.up.tx = .spacing 0 ∧ spaced.up.queue = [] := by decide

/-- The answer to a COMMIT ends while a frame is in assembly. -/
theorem witness_TransmissionAndSpacingEnd_rate :
    let s := quietFor (answering (.entryRate 2) []) 500
    s.seq.run ≠ .loading ∧ s.up.tx = .sending 0 ∧ s.up.queue = [{ frame := readOne, note := .entryRate 2 }]
    ∧ s.table.returning = [] ∧ s.up.rx.overChange s.up.rate.charPeriods = .inside [0xC3#8] 500 900 false := by decide

theorem witness_RestartsFollowTheirAnswers :
    (answering (.entryRestart 2 .warm) []).seq.run ≠ .loading ∧ (answering (.entryRestart 2 .warm) []).up.tx = .sending 0
    ∧ (answering (.entryRestart 2 .cold) []).up.queue = [{ frame := readOne, note := .entryRestart 2 .cold }]
    ∧ (held (answering (.entryRestart 2 .warm) [])).sup.state ≠ .normal := by decide

/-- A line still PENDING whose item is bound on branch 1, and on no other branch. -/
theorem witness_RestartsFollowTheirAnswers_line :
    let f : FailsafeItem := { station := 30#8, kind := .command, payload := [5#8], timeout := 50, retries := 3, attempts := 2 }
    let s : State := { (held (answering (.entryRestart 2 .warm) [])).setBranch .b1
        { field.branches.b1 with state := .awaiting, bound := some (.failsafe f) } with
      sup := { field.sup with state := .failsafeSending, lines := [⟨30#8, .b1, .pending, 0⟩] } }
    s.seq.run ≠ .loading ∧ s.up.tx = .sending 0 ∧ s.sup.state ≠ .normal ∧ (s.branch .b1).bound = some (.failsafe f)
    ∧ ∀ c g, c ≠ .b1 → (s.branch c).bound = some (.failsafe g) → g.station ≠ f.station := by
  refine ⟨by decide, by decide, by decide, by decide, ?_⟩
  intro c g hc h
  cases c <;> first | exact absurd rfl hc | cases h

theorem witness_PinsActAtOnce :
    State.reset.pins.rstnLow = false ∧ State.reset.pins.supplyLow = false
    ∧ (let s : State := { State.reset with pins := { State.reset.pins with rstnLow := true } }
       s.pins.rstnLow = true ∧ s.pins.supplyLow = false)
    ∧ (let s : State := { State.reset with pins := { State.reset.pins with rstnLow := true, supplyLow := true } }
       s.pins.rstnLow = true ∧ s.pins.supplyLow = true) := by decide

def loadingState : State := { field with seq := { field.seq with run := .loading } }

theorem witness_LoadingEnds :
    loadingState.seq.run = .loading ∧ loadingState.pins.supplyLow = false ∧ loadingState.pins.rstnLow = false := by decide

/-- Branch 0 with the READ of slot 2 bound, in a state of its course. -/
def lined (st : BranchState) (f : Branch → Branch) : State :=
  onB0 (withEntries field [readEntry]) (f { field.branches.b0 with
    state := st, bound := some (.station 2), expectedTag := 0x52#8 })

theorem witness_GuardCompletes :
    let s := lined .guard fun x => { x with phase := .running 0 }
    s.seq.run ≠ .loading ∧ (s.branch .b0).state = .guard ∧ (s.branch .b0).phase = .running 0
    ∧ (s.branch .b0).bound = some (.station 2) ∧ s.table.find? 2 = some readEntry ∧ readEntry.station = some 17#8 := by decide

theorem witness_OctetsOnABranch :
    (lined .guard fun x => { x with phase := .running 9, interrupts := 6 }).branches.b0.rx = .outside
    ∧ (lined .guard fun x => { x with phase := .running 9, interrupts := 6 }).branches.b0.interrupts < 7
    ∧ (let x := (lined .receiving fun x => { x with rx := .inside [0xC3#8] 6000 0 true }).branches.b0
       x.rx = .inside [0xC3#8] 6000 0 true ∧ x.state = .receiving)
    ∧ (lined .awaiting id).branches.b0.state = .awaiting ∧ (lined .sending fun x => { x with rx := .off }).branches.b0.rx = .off := by
  decide

/-- BRANCH_GAP is refused outside a frame, one period before the expiry, and after a start bit. -/
theorem witness_OctetsOnABranch_gap :
    let quiet (r : Receiver) : State := lined .receiving fun x => { x with rx := r }
    ∀ r ∈ [Receiver.outside, .inside [0xC3#8] 4799 0 false, .inside [0xC3#8] 4800 0 true], ∀ os n straddle,
      ((quiet r).branch .b0).rx = .inside os n straddle false → n < 3 * ((quiet r).branch .b0).rate.charPeriods := by
  simp only [List.forall_mem_cons, List.not_mem_nil, false_implies, implies_true, and_true]
  refine ⟨?_, ?_, ?_⟩ <;> intro _ _ _ h <;> cases h
  decide

theorem witness_WaitsAndProbesEnd :
    (let s := lined .guard fun x => { x with phase := .waiting 0 }
     s.seq.run ≠ .loading ∧ (s.branch .b0).state = .guard ∧ (s.branch .b0).phase = .waiting 0)
    ∧ (let s := onB0 field { field.branches.b0 with state := .fault, probeTimer := some 0, probeQuiet := some 0 }
       s.seq.run ≠ .loading ∧ (s.branch .b0).state = .fault ∧ (s.branch .b0).probeTimer = some 0
       ∧ (s.branch .b0).probeQuiet = some 0) := by decide

/-- A WRITE on branch 0 before its retry, a broadcast waiting there and bound in GUARD on branch 1, and a READ queued there. -/
def writeEntry : Entry := { readEntry with kind := .write, payload := [0#8, 100#8, 1#8, 0#8, 7#8] }

def spreadEntry : Entry :=
  { readEntry with
    slot := 3, tag := 0x53#8, origin := .broadcast, kind := .command, station := none, route := none, attempts := 0
    state := .spreading
    sets := some { pending := ⟨true, true, false, false⟩, sent := Quad.same false, notSent := Quad.same false } }

def waitingEntry : Entry :=
  { readEntry with slot := 4, tag := 0x54#8, station := some 30#8, route := some ⟨.b1, 50, 3⟩, attempts := 0, state := .queued }

/-- Work on two branches, both in their guard, beside a FORCE FAILSAFE or COMMIT at the agent; SHADOW withdraws branch 1. -/
def crowded (force : Bool) : State :=
  let p : List Octet := if force then [0x16#8] else [0x0B#8]
  let s : State := { managing p with
    table := { field.table with entries := [takenEntry p, writeEntry, spreadEntry, waitingEntry] }
    shadow := { settings := { mapped.settings with silence := 70, branch := { mapped.settings.branch with
                  b1 := { factoryBranch with enabled := false } } }
                stations := [station17, { station33 with scan := some 30 }] } }
  (s.setBranch .b0 { field.branches.b0 with
    state := .guard, bound := some (.station 2), queue := [.share 3], phase := .running 9, interrupts := 7 }).setBranch .b1
    { field.branches.b1 with state := .guard, bound := some (.share 3), queue := [.station 4], phase := .running 9, interrupts := 7 }

theorem crowded_tags (force : Bool) : TagsDistinct (crowded force) := by unfold TagsDistinct; cases force <;> decide

theorem crowded_lines (force : Bool) : LinesFollowStates (crowded force) := by
  intro b; cases force <;> cases b <;> decide

theorem crowded_placed (force : Bool) : EntriesPlaced (crowded force) := by
  refine placed_of _ ?_ ⟨?_, ?_, ?_, ?_, ?_, ?_⟩ ?_ ?_ ?_ ?_ ?_ ?_ ?_ <;> cases force <;> decide

theorem crowded_unclaimed (force : Bool) : NoIdleClaim (crowded force) := by
  intro _ b h
  cases b
  · exact absurd h (by cases force <;> decide)
  · exact absurd h (by cases force <;> decide)
  · exact ⟨rfl, rfl, by cases force <;> decide⟩
  · exact ⟨rfl, rfl, by cases force <;> decide⟩

/-- A STATION entry bound and a share queued on branch 0; a share bound and a STATION entry queued on branch 1. -/
theorem witness_EighthInterruptionFaults :
    let s := crowded false
    NoIdleClaim s ∧ OctetReaches s .b0 (.branchOctet .b0 0xC3#8) (.inside [0xC3#8] 0 0 false) false ∧ (s.branch .b0).state = .guard
    ∧ (s.branch .b0).phase = .running 9 ∧ (s.branch .b0).interrupts = 7 ∧ (s.branch .b0).bound = some (.station 2)
    ∧ s.table.find? 2 = some writeEntry ∧ writeEntry.state.isOpen = true ∧ writeEntry.sets = none
    ∧ TagsDistinct s ∧ s.seq.run ≠ .loading ∧ EntriesPlaced s ∧ s.table.find? 3 = some spreadEntry
    ∧ spreadEntry.state = .spreading ∧ (s.branch .b1).bound = some (.share 3) ∧ (s.branch .b1).interrupts = 7 :=
  ⟨crowded_unclaimed _, Or.inl ⟨0xC3#8, rfl, rfl, rfl, rfl⟩, by decide, by decide, by decide, by decide, by decide, by decide,
    by decide, crowded_tags _, by decide, crowded_placed false, by decide, by decide, by decide, by decide⟩

/-- A poll, and a failsafe item, bound at the eighth interruption, brought by the last octet of a VALID frame. -/
theorem witness_EighthInterruptionFaults_poll :
    let f : FailsafeItem := { station := 30#8, kind := .command, payload := [5#8], timeout := 50, retries := 3, attempts := 2 }
    let on (i : BoundItem) := lined .guard fun x => { x with
      phase := .running 9, interrupts := 7, rx := nearlyAll readOne, bound := some i }
    let s := on (.poll { station := 33#8, timeout := 20, attempts := 0, sentAt := none, live := true })
    NoIdleClaim s ∧ OctetReaches s .b0 (.branchFrameValid .b0 (crcLo readOne)) .outside true
    ∧ s.scan.find? 33#8 = some slot33 ∧ s.active.record? 33#8 = some station33 ∧ station33.branch = .b0
    ∧ NoIdleClaim (on (.failsafe f))
    ∧ OctetReaches (on (.failsafe f)) .b0 (.branchFrameCheck .b0 (crcLo readOne + 1#8)) .outside false :=
  ⟨idleUnclaimed _ (by intro b; cases b <;> decide), Or.inr (Or.inr (Or.inl ⟨readOne, _, rfl, arrives readOne (by decide), rfl, rfl⟩)),
    by decide, by decide, by decide, idleUnclaimed _ (by intro b; cases b <;> decide),
    Or.inr (Or.inr (Or.inr (Or.inl ⟨readOne, _, rfl, breaks readOne (by decide), rfl, rfl⟩)))⟩

theorem witness_EighthInterruptionFaults_inside :
    let on (r : Receiver) := lined .guard fun x => { x with phase := .running 9, interrupts := 7, rx := r }
    OctetReaches (on (.inside [0xC3#8] 4 0 false)) .b0 (.branchFrameOctet .b0 9#8) (.inside [0xC3#8, 9#8] 0 0 false) false
    ∧ OctetReaches (on (.inside (List.replicate 5 0xC3#8) 9000 9000 true)) .b0 (.branchFrameLength .b0 65#8) .outside false :=
  ⟨Or.inr (Or.inl ⟨9#8, [0xC3#8], 4, 0, false, rfl, rfl, by decide, by decide, rfl, rfl⟩),
    Or.inr (Or.inr (Or.inr (Or.inr ⟨65#8, List.replicate 5 0xC3#8, 9000, 9000, true, rfl, rfl, by decide, by decide, rfl, rfl⟩)))⟩

/-- A broadcast with a share on branch 0 alone pending. -/
def shareEntry : Entry :=
  { readEntry with
    origin := .broadcast, kind := .command, station := none, route := none, state := .spreading
    sets := some { pending := ⟨true, false, false, false⟩, sent := Quad.same false, notSent := Quad.same false } }

theorem witness_SendingEnds :
    (let s := lined .sending fun x => { x with sendLeft := some 0 }
     s.seq.run ≠ .loading ∧ (s.branch .b0).state = .sending ∧ (s.branch .b0).sendLeft = some 0
     ∧ s.table.find? 2 = some readEntry ∧ readEntry.route = some ⟨.b0, 50, 1⟩)
    ∧ (let s := onB0 (withEntries field [shareEntry]) { field.branches.b0 with
         state := .sending, sendLeft := some 0, bound := some (.share 2) }
       (s.branch .b0).bound = some (.share 2) ∧ s.table.find? 2 = some shareEntry ∧ shareEntry.state = .spreading
       ∧ shareEntry.origin = .broadcast
       ∧ (∀ x ∈ s.table.entries, x.slot = 2 → x = shareEntry) ∧ (∀ x ∈ s.table.entries, x.spreadOut = false)) := by decide

def silentState : State := lined .awaiting fun x => { x with deadline := some 0 }

theorem silent_fails : AttemptFailsBy silentState .b0 (.replyDeadlineExpiry .b0) .silent .outside :=
  Or.inl ⟨rfl, by decide, rfl, rfl, rfl, rfl, rfl⟩

theorem witness_FailedAttemptIsRetried :
    AttemptFailsBy silentState .b0 (.replyDeadlineExpiry .b0) .silent .outside
    ∧ (silentState.branch .b0).finalMark = false ∧ (silentState.branch .b0).bound = some (.station 2)
    ∧ silentState.table.find? 2 = some readEntry ∧ readEntry.attempts < 1 + 1
    ∧ (lined .receiving fun x => { x with deadline := some 0 }).branches.b0.state = .receiving :=
  ⟨silent_fails, by decide, by decide, by decide, by decide, by decide⟩

theorem witness_FailedAttemptIsRetried_gap :
    AttemptFailsBy (lined .receiving fun x => { x with rx := .inside [0xC3#8] 4800 0 false }) .b0 (.branchGap .b0) .corrupt .outside :=
  Or.inr ⟨rfl, rfl, rfl, Or.inr (Or.inr ⟨[0xC3#8], 4800, 0, rfl, rfl, by decide⟩)⟩

theorem witness_FailedAttemptIsRetried_length :
    AttemptFailsBy (lined .receiving fun x => { x with rx := .inside (List.replicate 5 0xC3#8) 0 0 false }) .b0
      (.branchFrameLength .b0 65#8) .corrupt .outside :=
  Or.inr ⟨rfl, rfl, rfl, Or.inr (Or.inl ⟨65#8, List.replicate 5 0xC3#8, 0, 0, false, rfl, rfl, rfl, by decide⟩)⟩

def reply17 : Frame := { dest := 0xFE#8, src := 17#8, tag := 0x52#8, kind := 0x20#8, payload := [1#8, 2#8] }

theorem witness_FailedAttemptIsRetried_check :
    AttemptFailsBy (lined .receiving fun x => { x with rx := nearlyAll reply17 }) .b0
      (.branchFrameCheck .b0 (crcLo reply17 + 1#8)) .corrupt .outside :=
  Or.inr ⟨rfl, rfl, rfl, Or.inl ⟨reply17, _, rfl, breaks reply17 (by decide)⟩⟩

theorem witness_FailedAttemptEndsTheItem :
    AttemptFailsBy (lined .awaiting fun x => { x with deadline := some 0, finalMark := true }) .b0 (.replyDeadlineExpiry .b0)
      .silent .outside
    ∧ SendingHasItems (lined .awaiting fun x => { x with deadline := some 0, finalMark := true })
    ∧ readEntry.state.isOpen = true ∧ readEntry.station = some 17#8 :=
  ⟨Or.inl ⟨rfl, by decide, rfl, rfl, rfl, rfl, rfl⟩, by unfold SendingHasItems; decide, by decide, by decide⟩

theorem witness_MatchingReplySucceeds :
    let s := lined .receiving fun x => { x with rx := nearlyAll reply17 }
    (s.branch .b0).state = .receiving ∧ (s.branch .b0).Arrives reply17 (crcLo reply17)
    ∧ reply17.dest = (s.branch .b0).addr ∧ reply17.tag = (s.branch .b0).expectedTag ∧ reply17.kind = 0x20#8
    ∧ SendingHasItems s ∧ (s.branch .b0).bound = some (.station 2) ∧ s.table.find? 2 = some readEntry
    ∧ readEntry.origin = .station :=
  ⟨rfl, arrives _ (by decide), by decide, by decide, by decide, by unfold SendingHasItems; decide, by decide, by decide, by decide⟩

/-- A poll whose slot a commit has discarded, at its deadline and with its reply arriving. -/
theorem witness_discarded_poll :
    let p : PollItem := { station := 17#8, timeout := 20, attempts := 1, sentAt := some 0#32, live := false }
    let s := lined .awaiting fun x => { x with deadline := some 0, bound := some (.poll p) }
    let u := lined .receiving fun x => { x with rx := nearlyAll reply17, deadlinePassed := true, bound := some (.poll p) }
    AttemptFailsBy s .b0 (.replyDeadlineExpiry .b0) .silent .outside ∧ SendingHasItems s
    ∧ (u.branch .b0).state = .receiving ∧ (u.branch .b0).Arrives reply17 (crcLo reply17) ∧ SendingHasItems u
    ∧ p.station = reply17.src ∧ p.live = false ∧ (u.branch .b0).bound = some (.poll p) ∧ (u.branch .b0).deadlinePassed = true :=
  ⟨Or.inl ⟨rfl, by decide, rfl, rfl, rfl, rfl, rfl⟩, by unfold SendingHasItems; decide, by decide, arrives _ (by decide),
    by unfold SendingHasItems; decide, by decide, by decide, by decide, by decide⟩

/-- A failsafe item, and a READ with its attempts gone, hear a stray frame after the deadline. -/
theorem witness_OtherFramesOnABranch_final :
    let f : FailsafeItem := { station := 17#8, kind := .command, payload := [5#8], timeout := 50, retries := 1, attempts := 1 }
    let g : Frame := { reply17 with src := 19#8 }
    let s := lined .receiving fun x => { x with rx := nearlyAll g, deadlinePassed := true, finalMark := true }
    let u := lined .receiving fun x => { x with rx := nearlyAll g, deadlinePassed := true, bound := some (.failsafe f) }
    (s.branch .b0).Arrives g (crcLo g) ∧ SendingHasItems s ∧ (s.branch .b0).finalMark = true
    ∧ s.table.find? 2 = some readEntry ∧ readEntry.state.isOpen = true ∧ (u.branch .b0).bound = some (.failsafe f)
    ∧ f.attempts < 1 + f.retries ∧ (∀ i, (u.branch .b0).bound = some i → u.boundStation i ≠ some 19#8) := by
  refine ⟨arrives _ (by decide), by unfold SendingHasItems; decide, by decide, by decide, by decide, by decide, by decide, ?_⟩
  intro i hi
  cases hi
  decide

theorem witness_OtherFramesOnABranch :
    ((onB0 field { field.branches.b0 with rx := nearlyAll reply17 }).branch .b0).Arrives reply17 (crcLo reply17)
    ∧ ((onB0 field { field.branches.b0 with rx := nearlyAll reply17 }).branch .b0).state = .idle
    ∧ (let s := lined .receiving fun x => { x with rx := nearlyAll { reply17 with src := 19#8 }, deadlinePassed := true }
       (s.branch .b0).state = .receiving ∧ (s.branch .b0).deadlinePassed = true ∧ (s.branch .b0).finalMark = false
       ∧ readEntry.attempts < 1 + 1 ∧ ∀ i, (s.branch .b0).bound = some i → s.boundStation i ≠ some 19#8) := by
  refine ⟨arrives _ (by decide), by decide, by decide, by decide, by decide, by decide, ?_⟩
  intro i hi
  cases hi
  decide

theorem witness_OtherFramesOnABranch_broken :
    let s := onB0 field { field.branches.b0 with state := .fault, rx := nearlyAll reply17, probeQuiet := some 5 }
    (s.branch .b0).Breaks reply17 (crcLo reply17 + 1#8) ∧ (s.branch .b0).state = .fault
    ∧ (let u := onB0 field { field.branches.b0 with rx := .inside [0xC3#8] 4800 0 false }
       (u.branch .b0).rx = .inside [0xC3#8] 4800 0 false ∧ 3 * (u.branch .b0).rate.charPeriods ≤ 4800
       ∧ (u.branch .b0).state ≠ .receiving) :=
  ⟨breaks reply17 (by decide), rfl, by decide, by decide, by decide⟩

/-- The slot of station 33 OVERDUE. -/
def overdue33 : ScanSlot := { slot33 with schedule := .overdue 0#32 }

/-- Branch 0 IDLE with a failsafe list and a request queue, beside the slots given. -/
def claimed (slots : List ScanSlot) (f : List FailsafeItem) (q : List QueueItem) (consec : Nat) : State :=
  onB0 { field with scan := { slots := slots, changes := [] } } { field.branches.b0 with failsafe := f, queue := q, consec := consec }

theorem claims33 (f : List FailsafeItem) (q : List QueueItem) (n : Nat) : Claims (claimed [overdue33] f q n) .b0 overdue33 :=
  ⟨by show overdue33 ∈ [overdue33]; decide, ⟨0#32, rfl⟩, rfl, station33, by show mapped.record? 33#8 = _; decide, rfl⟩

theorem witness_ArbiterPicksByPriority :
    let s := claimed [overdue33] [] [] 0
    s.seq.run ≠ .loading ∧ (s.branch .b0).state = .idle ∧ (s.scan.slots.map fun x => x.addr.toNat).Pairwise (· < ·)
    ∧ (s.branch .b0).failsafe = [] ∧ FirstClaim s .b0 overdue33
    ∧ s.active.record? 33#8 = some station33 ∧ (s.branch .b0).queue = [] := by
  refine ⟨by decide, by decide, by decide, by decide, ⟨claims33 _ _ _, ?_⟩, by decide, by decide⟩
  intro y _ _ h ha
  have : y = overdue33 := List.mem_singleton.1 h.1
  exact absurd (by rw [this]) ha

/-- Where nothing is OVERDUE: a failsafe item listed, a STATION entry and a share at the head of the queue, and no claimant. -/
theorem witness_ArbiterPicksByPriority_lists :
    let f : FailsafeItem := { station := 30#8, kind := .command, payload := [5#8], timeout := 50, retries := 3, attempts := 0 }
    (∀ fs qs n, ((claimed [slot33] fs qs n).branch .b0).state = .idle ∧ ((claimed [slot33] fs qs n).branch .b0).failsafe = fs
      ∧ ((claimed [slot33] fs qs n).branch .b0).queue = qs ∧ ∀ y, ¬ Claims (claimed [slot33] fs qs n) .b0 y)
    ∧ ((claimed [slot33] [f] [] 0).branch .b0).failsafe = f :: []
    ∧ ((claimed [slot33] [] [.station 2] 15).branch .b0).queue = .station 2 :: []
    ∧ ((claimed [slot33] [] [.share 2] 15).branch .b0).queue = .share 2 :: []
    ∧ (let s := claimed [overdue33] [] [.share 2] 4
       (s.branchSettings .b0).burst ≤ (s.branch .b0).consec)
    ∧ ((claimed [overdue33] [] [.station 2] 0).branch .b0).consec < ((claimed [overdue33] [] [.station 2] 0).branchSettings .b0).burst := by
  refine ⟨fun fs qs n => ⟨rfl, rfl, rfl, fun y h => ?_⟩, by decide, by decide, by decide, by decide, by decide⟩
  obtain ⟨hm, ⟨since, hs⟩, -⟩ := h
  have : y = slot33 := List.mem_singleton.1 hm
  rw [this] at hs
  cases hs

/-- A branch in its guard, and every branch of a part in LOADING, for the clauses off IDLE. -/
theorem witness_ArbiterPicksByPriority_off :
    ((crowded false).branch .b0).state ≠ .idle ∧ loadingState.seq.run = .loading := by decide

theorem witness_SuccessIsRecorded :
    field.scan.find? 33#8 = some slot33 ∧ (∀ y ∈ field.scan.slots, y.addr = 33#8 → y = slot33)
    ∧ field.active.scan? 33#8 = some 20 := by decide

theorem witness_MissIsRecorded :
    let x := { slot33 with misses := 3, state := .offline }
    let s := { field with scan := { slots := [x], changes := [] } }
    s.scan.find? 33#8 = some x ∧ (∀ y ∈ s.scan.slots, y.addr = 33#8 → y = x) ∧ s.active.scan? 33#8 = some 20
    ∧ x.misses ≤ 3 := by decide

theorem witness_SlotsAndRefillsComeDue :
    field.seq.run ≠ .loading ∧ field.scan.find? 33#8 = some slot33 ∧ slot33.schedule = .waiting 0#32
    ∧ (field.clock.ms - 0#32).toNat ≤ 60000 ∧ (∀ x ∈ field.scan.slots, x.schedule = .waiting 0#32)
    ∧ (let s := { field with tokens := [⟨17#8, 2, some 0⟩] }
       s.tokenState? 17#8 = some ⟨17#8, 2, some 0⟩ ∧ s.active.record? 17#8 = some station17
       ∧ station17.budget = some ⟨3, 5⟩) := by decide

theorem witness_SlotsAndRefillsComeDue_near : DueTimesNear field := by
  intro x hx due h
  have : ∀ x ∈ field.scan.slots, x.schedule = .waiting 0#32 := by decide
  rw [this x hx] at h
  cases h
  exact Or.inl (by decide)

/-- Of two slots of an IDLE branch due at one count the lower address is picked, whichever slot the event names (R70, R96). -/
theorem test_slots_due_together :
    let station35 := { station33 with addr := 35#8 }
    let s := { field with
      active := { mapped with stations := [station17, station30, station33, station35] }
      scan := { slots := [slot33, { slot33 with addr := 35#8 }], changes := [] } }
    (match exec (.slotDue 35#8) s with
    | .next t => (match (t.branch .b0).bound with | some (.poll p) => p.station | _ => 0#8) == 33#8
        && (t.scan.find? 35#8).map (fun x => x.schedule) == some (.overdue 0#32)
    | _ => false) = true := by decide

theorem field_lines : LinesFollowStates field := by intro b; cases b <;> decide

theorem witness_SilenceBringsFailsafe :
    field.seq.run ≠ .loading ∧ field.sup.state = .normal ∧ field.sup.silence = some 0 ∧ NoIdleClaim field
    ∧ SendingHasItems field ∧ LinesFollowStates field :=
  ⟨by decide, by decide, by decide, idleUnclaimed _ (by intro b; cases b <;> decide), by unfold SendingHasItems; decide,
    field_lines⟩

/-- A WRITE bound in GUARD, and a broadcast queued on one branch and bound in GUARD on another; station 30 has an action. -/
theorem witness_SilenceBringsFailsafe_crowded :
    let s := { crowded true with sup := { (crowded true).sup with silence := some 0 } }
    s.seq.run ≠ .loading ∧ s.sup.state = .normal ∧ NoIdleClaim s ∧ SendingHasItems s ∧ LinesFollowStates s ∧ TagsDistinct s
    ∧ EntriesPlaced s ∧ boundTaken s .b0 = true ∧ boundTaken s .b1 = true ∧ (s.branchSettings .b1).enabled = true
    ∧ failsafeItemsFor s .b1 ≠ [] ∧ failsafeItemsFor s .b0 = []
    ∧ (s.branch .b0).bound = some (.station 2) ∧ s.table.find? 2 = some writeEntry ∧ s.table.find? 3 = some spreadEntry :=
  ⟨by decide, by decide, crowded_unclaimed _, by unfold SendingHasItems; decide, crowded_lines _, crowded_tags _,
    crowded_placed true, by decide, by decide, by decide, by decide, by decide, by decide, by decide, by decide⟩

/-- Of two WRITEs that failsafe entry aborts the one admitted first completes first, though its slot is the higher (R13, R20). -/
theorem test_completions_by_admission :
    let late : Entry := { writeEntry with slot := 1, state := .queued, admitted := 5#32, attempts := 0 }
    let early : Entry := { late with slot := 2, tag := 0x77#8, admitted := 3#32 }
    let s := onB0 { withEntries field [late, early] with clock := { ms := 9#32, phase := 0 } }
      { field.branches.b0 with state := .fault, queue := [.station 1, .station 2], probeTimer := some 5 }
    (match exec .silenceExpiry s with
    | .next t => (t.table.find? 1).map (fun e => e.seq) == some (some (s.table.nextSeq + 1#16))
        && (t.table.find? 2).map (fun e => e.seq) == some (some s.table.nextSeq) && t.table.counters.aborted == 2
        && t.up.queue.map (fun i => i.frame.tag) == [0x77#8, writeEntry.tag]
    | _ => false) = true := by decide

theorem witness_StoredDataIsRead :
    Takes (managing [0x01#8]) 0 (takenEntry [0x01#8]) (0x01#8 :: [])
    ∧ Takes (managing [0x08#8, 0x01#8, 0xFF#8]) 0 (takenEntry [0x08#8, 0x01#8, 0xFF#8]) [0x08#8, 0x01#8, 0xFF#8] :=
  ⟨takes _, takes _⟩

theorem unlocked (p : List Octet) : Unlocked (managing p) := ⟨rfl, by show 19 ≤ 19; decide⟩

theorem witness_ShadowIsEditedByPut :
    Takes (managing (0x06#8 :: longRecord.octets)) 0 (takenEntry (0x06#8 :: longRecord.octets)) (0x06#8 :: longRecord.octets)
    ∧ Unlocked (managing (0x06#8 :: longRecord.octets)) ∧ longRecord.inRange = true
    ∧ MapOrdered (managing (0x06#8 :: longRecord.octets)).shadow
    ∧ Takes (managing (0x04#8 :: mapped.settings.octets)) 0 (takenEntry (0x04#8 :: mapped.settings.octets))
        (0x04#8 :: mapped.settings.octets) :=
  ⟨takes _, unlocked _, by decide, by unfold MapOrdered; decide, takes _⟩

theorem witness_ShadowIsEditedByPut_malformed :
    Takes (managing [0x06#8]) 0 (takenEntry [0x06#8]) (0x06#8 :: []) ∧ Unlocked (managing [0x06#8])
    ∧ ∀ r : StationRecord, r.inRange = true → [] ≠ r.octets :=
  ⟨takes _, unlocked _, fun r _ h => by simp [StationRecord.octets] at h⟩

theorem witness_DropStationRemovesTheRecord :
    Takes (managing [0x07#8, 17#8]) 0 (takenEntry [0x07#8, 17#8]) (0x07#8 :: [17#8]) ∧ Unlocked (managing [0x07#8, 17#8])
    ∧ (∃ r ∈ (managing [0x07#8, 17#8]).shadow.stations, r.addr = 17#8)
    ∧ ∀ r ∈ (managing [0x07#8, 254#8]).shadow.stations, r.addr ≠ 254#8 :=
  ⟨takes _, unlocked _, by decide, by decide⟩

theorem witness_ShadowIsClearedOrReverted :
    Takes (managing [0x0A#8]) 0 (takenEntry [0x0A#8]) (0x0A#8 :: []) ∧ Unlocked (managing [0x0A#8])
    ∧ Takes (managing [0x09#8, 1#8]) 0 (takenEntry [0x09#8, 1#8]) (0x09#8 :: [1#8]) :=
  ⟨takes _, unlocked _, takes _⟩

theorem witness_CommitRefusals :
    Takes (managing [0x0B#8]) 0 (takenEntry [0x0B#8]) (0x0B#8 :: []) ∧ Unlocked (managing [0x0B#8])
    ∧ (managing [0x0B#8]).store.busy = .idle
    ∧ (managing [0x0B#8]).shadow.stations = [station17] ++ station30 :: [station33]
    ∧ (∀ x ∈ [station17], brokenCondition (managing [0x0B#8]).shadow.settings x = none) :=
  ⟨takes _, unlocked _, by decide, by decide, by decide⟩

/-- A record without windows whose failsafe payload has not the shape of a WRITE. -/
theorem witness_CommitRefusals_shape :
    let r : StationRecord := { station30 with failsafe := some ⟨.write, [0x05#8]⟩ }
    let s : State := { managing [0x0B#8] with shadow := { mapped with stations := [r] } }
    Takes s 0 (takenEntry [0x0B#8]) [0x0B#8] ∧ Unlocked s ∧ s.store.busy = .idle ∧ r.windows = none
    ∧ (s.shadow.settings.branch.get r.branch).enabled = true ∧ r.addr ≠ s.shadow.settings.ownAddr
    ∧ shapeOk .write [0x05#8] = false :=
  ⟨takes [0x0B#8], unlocked [0x0B#8], by decide, by decide, by decide, by decide, by decide⟩

/-- Branch 1 is withdrawn with a share bound in GUARD and a READ queued, and the interval of station 33 changes. -/
theorem witness_CommitReplacesActive_crowded :
    let s := crowded false
    Takes s 0 (takenEntry [0x0B#8]) [0x0B#8] ∧ Unlocked s ∧ s.store.busy = .idle ∧ s.shadow.offence = none
    ∧ (∀ b, .station 0 ∉ (s.branch b).queue) ∧ SendingHasItems s ∧ LinesFollowStates s ∧ TagsDistinct s ∧ EntriesPlaced s
    ∧ MapOrdered s.shadow ∧ withdrawn s .b1 = true ∧ .station 4 ∈ (s.branch .b1).queue ∧ s.table.find? 4 = some waitingEntry
    ∧ s.table.find? 3 = some spreadEntry ∧ (s.branch .b1).state = .guard ∧ (s.branch .b1).bound = some (.share 3)
    ∧ withdrawn s .b0 = false ∧ (s.branch .b0).state ≠ .idle :=
  ⟨⟨fun h => (nomatch h), rfl, rfl, rfl, rfl, rfl, rfl⟩, ⟨rfl, by show 19 ≤ 19; decide⟩, by decide, by decide, by intro b; cases b <;> decide,
    by unfold SendingHasItems; decide, crowded_lines _, crowded_tags _, crowded_placed false, by unfold MapOrdered; decide, by decide,
    by decide, by decide, by decide, by decide, by decide, by decide, by decide⟩

theorem witness_CommitReplacesActive :
    Takes (managing [0x0B#8]) 0 (takenEntry [0x0B#8]) [0x0B#8] ∧ Unlocked (managing [0x0B#8])
    ∧ (managing [0x0B#8]).store.busy = .idle ∧ (managing [0x0B#8]).shadow.offence = none
    ∧ (∀ b, .station 0 ∉ ((managing [0x0B#8]).branch b).queue) ∧ SendingHasItems (managing [0x0B#8])
    ∧ LinesFollowStates (managing [0x0B#8]) ∧ TagsDistinct (managing [0x0B#8]) :=
  ⟨takes _, unlocked _, by decide, by decide, by intro b; cases b <;> decide, by unfold SendingHasItems; decide,
    by intro b; cases b <;> decide, by unfold TagsDistinct; decide⟩

theorem witness_CollectionReportsAndClears :
    Takes (managing [0x0C#8, 8#8]) 0 (takenEntry [0x0C#8, 8#8]) (0x0C#8 :: [8#8]) ∧ 1 ≤ (8#8 : Octet).toNat
    ∧ (8#8 : Octet).toNat ≤ 8 := ⟨takes _, by decide, by decide⟩

theorem witness_ViewsAnswer :
    Takes (managing [0x0D#8, 33#8]) 0 (takenEntry [0x0D#8, 33#8]) [0x0D#8, 33#8]
    ∧ (managing [0x0D#8, 33#8]).scan.find? 33#8 = some slot33
    ∧ (managing [0x0D#8, 33#8]).active.record? 33#8 = some station33
    ∧ Takes (managing [0x11#8, 23#8]) 0 (takenEntry [0x11#8, 23#8]) [0x11#8, 23#8]
    ∧ Takes (managing [0x10#8]) 0 (takenEntry [0x10#8]) (0x10#8 :: []) :=
  ⟨takes _, by decide, by decide, takes _, takes _⟩

theorem witness_CountersAreReadAndCleared :
    Takes (managing [0x0E#8, 0x04#8]) 0 (takenEntry [0x0E#8, 0x04#8]) [0x0E#8, 0x04#8]
    ∧ Takes (managing [0x0F#8, 0xFF#8]) 0 (takenEntry [0x0F#8, 0xFF#8]) [0x0F#8, 0xFF#8] := ⟨takes _, takes _⟩

theorem witness_SupervisionOperations :
    Takes (held (managing [0x15#8])) 0 (takenEntry [0x15#8]) (0x15#8 :: [])
    ∧ (held (managing [0x15#8])).sup.state = .failsafeHeld
    ∧ Takes (managing [0x16#8]) 0 (takenEntry [0x16#8]) (0x16#8 :: []) ∧ (managing [0x16#8]).sup.state = .normal
    ∧ SendingHasItems (managing [0x16#8]) ∧ LinesFollowStates (managing [0x16#8]) ∧ TagsDistinct (managing [0x16#8])
    ∧ (∀ b, .station 0 ∉ ((managing [0x16#8]).branch b).queue ∧ ((managing [0x16#8]).branch b).bound ≠ some (.station 0)) :=
  ⟨takes [0x15#8], rfl, takes _, rfl, by unfold SendingHasItems; decide, by intro b; cases b <;> decide,
    by unfold TagsDistinct; decide, by intro b; cases b <;> decide⟩

def stored (k : Nat) (st : SlotState) (busy : Busy) (s : State) : State :=
  { s with store := { s.store.update k (fun c => { c with state := st, header := true }) with busy := busy } }

theorem witness_StoreOperationsBegin :
    Takes (managing [0x12#8]) 0 (takenEntry [0x12#8]) (0x12#8 :: []) ∧ Unlocked (managing [0x12#8])
    ∧ (managing [0x12#8]).seq.run = .running ∧ (managing [0x12#8]).store.slots.length = 8
    ∧ (managing [0x12#8]).store.slots = [] ++ ImageSlot.blank :: List.replicate 7 ImageSlot.blank
    ∧ Takes (stored 7 .valid .idle (managing [0x13#8, 7#8])) 0 (takenEntry [0x13#8, 7#8]) (0x13#8 :: [7#8]) :=
  ⟨takes _, unlocked _, rfl, by decide, by decide, takes [0x13#8, 7#8]⟩

theorem witness_StoreOperationsEnd :
    let s := stored 7 .writing (.saving 7) { withEntries field [{ takenEntry [0x12#8] with state := .working }] with
      agent := { queue := [], service := .idle, working := some { slot := 0, op := .save, image := 7 } } }
    s.seq.run ≠ .loading ∧ s.agent.working = some { slot := 0, op := .save, image := 7 }
    ∧ s.table.find? 0 = some { takenEntry [0x12#8] with state := .working } ∧ s.store.busy = .saving 7
    ∧ s.store.slot? 7 = some { ImageSlot.blank with state := .writing, header := true } := by decide

theorem witness_RestartIsAccepted :
    Takes (managing [0x18#8, 2#8]) 0 (takenEntry [0x18#8, 2#8]) (0x18#8 :: [2#8])
    ∧ (managing [0x18#8, 2#8]).seq.run = .running ∧ (managing [0x18#8, 2#8]).store.busy = .idle := ⟨takes _, rfl, rfl⟩

theorem witness_EarlyChecksRefuse :
    Takes (managing []) 0 (takenEntry []) [] ∧ Takes (managing [0x19#8]) 0 (takenEntry [0x19#8]) [0x19#8]
    ∧ Takes (pending (managing [0x12#8])) 0 (takenEntry [0x12#8]) [0x12#8]
    ∧ (let s : State := { managing [0x0B#8] with pins := { State.reset.pins with cfgen := false } }
       LockedOut s ∧ Takes s 0 (takenEntry [0x0B#8]) [0x0B#8]) :=
  ⟨takes _, takes _, ⟨by decide, rfl, rfl, rfl, rfl, rfl, rfl⟩, ⟨rfl, by show 19 ≤ 19; decide⟩,
    ⟨by decide, rfl, rfl, rfl, rfl, rfl, rfl⟩⟩

/-! ### The conditions that every step keeps hold in a state from which a step is taken -/

theorem field_steps : ∃ t, step { field with pending := [.cfgenChange] } = .next t := ⟨_, rfl⟩

theorem witness_StepsKeepQueues : QueuesBounded field :=
  ⟨by decide, by intro b; cases b <;> decide, by decide, fun n h => (nomatch h), by intro _ _; rfl⟩

theorem witness_StepsKeepTagsDistinct : TagsDistinct (withEntries field [readEntry]) := by
  refine ⟨by decide, by decide, by decide⟩

/-- The agent's entry, a WRITE, a broadcast and a READ in their places; nothing RETURNING. -/
theorem witness_StepsKeepTagsDistinct_placed :
    TagsDistinct (crowded false) ∧ LinesFollowStates (crowded false) ∧ EntriesPlaced (crowded false)
    ∧ ReturningWaits (crowded false) :=
  ⟨crowded_tags _, crowded_lines _, crowded_placed false, fun _ h => absurd rfl h⟩

theorem witness_StepsKeepLines : LinesFollowStates field ∧ FramesFollowDrivers field :=
  ⟨field_lines, by intro b; cases b <;> decide⟩

theorem witness_StepsKeepCounts : CountsInRange field := by
  refine ⟨by intro b; cases b <;> decide, by decide⟩

theorem witness_StepsKeepIdleUnclaimed : NoIdleClaim field := idleUnclaimed _ (by intro b; cases b <;> decide)

theorem witness_StepsKeepStat : StatFollows (held field) := by unfold StatFollows; decide

theorem witness_StepsKeepFailsafeItems : LinesFollowStates field ∧ SendingHasItems field :=
  ⟨field_lines, by unfold SendingHasItems; decide⟩

theorem witness_FailsafeHoldsWritesBack : WritesHeldBack (held field) ∧ (held field).sup.state ≠ .normal := by
  refine ⟨fun _ b => ?_, by decide⟩
  cases b <;> exact ⟨by decide, fun _ h => (nomatch h), fun _ h => (nomatch h)⟩

theorem field_maps : MapsOrdered field := by
  refine ⟨by unfold MapOrdered; decide, by unfold MapOrdered; decide, ?_⟩
  intro c hc i hi
  have : ∀ c ∈ field.store.slots, c.image = none := by decide
  rw [this c hc] at hi
  cases hi

theorem witness_StepsKeepConfigurations : MapsOrdered field ∧ ActiveValid field := by
  refine ⟨field_maps, by decide, ?_⟩
  intro c hc i hi
  have : ∀ c ∈ field.store.slots, c.image = none := by decide
  rw [this c hc] at hi
  cases hi

theorem witness_StepsKeepTokens : MapsOrdered field ∧ TokensBounded field := by
  refine ⟨field_maps, fun _ => ⟨by decide, ?_⟩⟩
  intro t ht r b hr hb
  have : t = ⟨17#8, 3, none⟩ := by simpa [field] using ht
  subst this
  have h17 : field.active.record? 17#8 = some station17 := by decide
  rw [h17] at hr
  cases hr
  cases hb
  decide

theorem witness_StepsKeepSlotsAndChanges : MapsOrdered field ∧ SlotsFollowMap field ∧ ChangesFollowMarks field := by
  refine ⟨field_maps, fun _ => by decide, by decide, by decide, ?_, by decide⟩
  intro a
  constructor
  · intro h; cases h
  · rintro ⟨x, hx, -, hm⟩
    have : x = slot33 := by simpa [field] using hx
    subst this
    cases hm

theorem witness_BlankSlotsNeverIncrease : StoreConsistent (stored 7 .valid .idle field) := by
  refine ⟨by decide, by decide, ?_, ?_⟩ <;> intro k h <;> cases h

/-- The slot of a place agrees with its marks. -/
def marksCheck (s : State) (k : Nat) (c : ImageSlot) : Bool :=
  match c.state with
  | .blank => !c.header && !c.verify && !c.checkGood && !c.retire
  | .writing => c.header && !c.verify && !c.retire && c.image.isSome && decide (s.store.busy = .saving k)
  | .valid => c.header && c.verify && c.checkGood && c.image.isSome && (!c.retire || s.pins.supplyLow || s.pins.rstnLow)
  | .retired => c.header && c.verify && c.checkGood && c.image.isSome && c.retire
  | .spoiled => c.header && (!c.verify || !c.checkGood || c.image.isNone)

theorem marksAgree_of (s : State) (h : ∀ k < s.store.slots.length, ∀ c ∈ s.store.slots[k]?, marksCheck s k c = true) :
    MarksAgree s := by
  intro k c hc
  have := h k (List.getElem?_eq_some_iff.1 hc).1 c hc
  cases hs : c.state <;> simp_all [marksCheck, Bool.or_assoc]
  · cases hr : c.retire <;> simp_all

/-- Slot 0 VALID with its image, slot 1 RETIRED, slot 2 SPOILED, the others BLANK. -/
def savedStore : State :=
  let c : ImageSlot := { state := .valid, header := true, image := some mapped, checkGood := true, verify := true, retire := false }
  { field with store := { slots := [c, { c with state := .retired, retire := true }, { c with state := .spoiled, verify := false }]
                            ++ List.replicate 5 ImageSlot.blank, busy := .idle } }

theorem witness_BlankSlotsNeverIncrease_marks : StoreConsistent savedStore ∧ MarksAgree savedStore := by
  refine ⟨⟨by decide, by decide, ?_, ?_⟩, marksAgree_of _ (by decide)⟩ <;> intro k h <;> cases h

end Sys2Proof.Tests
end

section
/-! PROOFS. The management operations that read the stored data or edit SHADOW as a whole (chapter 2, R148, R161, R167). Each
answers by its own meaning, `AnswersBy`; what that meaning is, the equations of the operations say case by case. -/

namespace Sys2Proof.Machine

/-! ### Operations that act apart from the agent -/

/-- The operation neither reads nor writes the agent queue, which its take has shortened, and leaves the transaction table
alone: its effect on a state is that on the state before the take. -/
structure ActsApart (f : List Octet → State → Reply) : Prop where
  headTaken (args : List Octet) (s : State) : f args s.headTaken = { f args s with state := (f args s).state.headTaken }
  table (args : List Octet) (s : State) : (f args s).state.table = s.table

theorem getIdentity_actsApart : ActsApart getIdentity where
  headTaken args s := by cases args <;> rfl
  table args s := by cases args <;> rfl

theorem getStartRecord_actsApart : ActsApart getStartRecord where
  headTaken args s := by cases args <;> rfl
  table args s := by cases args <;> rfl

theorem getStore_actsApart : ActsApart getStore where
  headTaken args s := by cases args <;> rfl
  table args s := by cases args <;> rfl

theorem getSettings_actsApart : ActsApart getSettings where
  headTaken args s := by
    unfold getSettings
    split
    · split <;> rfl
    · rfl
  table args s := by
    unfold getSettings
    split
    · split <;> rfl
    · rfl

theorem State.headTaken_bank (s : State) (shadow : Bool) : s.headTaken.bank shadow = s.bank shadow := rfl

theorem getStation_actsApart : ActsApart getStation where
  headTaken args s := by
    unfold getStation
    simp only [State.headTaken_bank]
    split
    · split
      · split
        · split <;> rfl
        · rfl
      · rfl
    · rfl
  table args s := by
    unfold getStation
    split
    · split
      · split
        · split <;> rfl
        · rfl
      · rfl
    · rfl

theorem listStations_actsApart : ActsApart listStations where
  headTaken args s := by
    unfold listStations
    split
    · split <;> rfl
    · rfl
  table args s := by
    unfold listStations
    split
    · split <;> rfl
    · rfl

theorem dropStation_actsApart : ActsApart dropStation where
  headTaken args s := by
    unfold dropStation
    split
    · rename_i a
      split
      · by_cases hr : (s.shadow.record? a).isSome = true
        · rw [if_pos hr, if_pos (show (s.headTaken.shadow.record? a).isSome = true from hr)]
          rfl
        · rw [if_neg hr, if_neg (show ¬ (s.headTaken.shadow.record? a).isSome = true from hr)]
          rfl
      · rfl
    · rfl
  table args s := by
    unfold dropStation
    split
    · split
      · split <;> rfl
      · rfl
    · rfl

theorem clearShadow_actsApart : ActsApart clearShadow where
  headTaken args s := by cases args <;> rfl
  table args s := by cases args <;> rfl

theorem revertShadow_actsApart : ActsApart revertShadow where
  headTaken args s := by cases args <;> rfl
  table args s := by cases args <;> rfl

/-! ### The answer of such an operation -/

/-- The answer of an operation to the entry of a slot is the reply `r`, in the name of the OWN_ADDR of `s` (R17, R140). -/
def AnswersBy (s t : State) (slot : Nat) (e : Entry) (op : Op) (r : Reply) : Prop :=
  Answers r.state t slot e s.active.settings.ownAddr op.octet r.result.octet r.data (.entry slot)

/-- The operations that RESTART_PENDING does not bar (R145), but for COMMIT. -/
def Op.plain (op : Op) : Bool := op != .commit && !op.barredByRestart

theorem Op.barredByRestart_of_plain {op : Op} (h : op.plain = true) : op.barredByRestart = false := by
  rw [plain, Bool.and_eq_true, Bool.not_eq_true'] at h
  exact h.2

/-- Only the answers to COMMIT and RESTART carry a note beyond the slot (R128). -/
theorem Op.octet_ne_of_plain {op : Op} (h : op.plain = true) : op.octet ≠ 0x0B#8 ∧ op.octet ≠ 0x18#8 := by
  cases op with
  | commit => exact absurd h Bool.false_ne_true
  | restart => exact absurd h Bool.false_ne_true
  | _ => simp [Op.octet]

/-- An operation that acts apart from the agent, past the CFGEN lock where it is locked, answers with its meaning on the state
before the take (R140 to R142). -/
theorem answersBy_of_takes {s : State} {slot : Nat} {e : Entry} {args : List Octet} {f : List Octet → State → Reply} (op : Op)
    (hf : ActsApart f) (h : Takes s slot e (op.octet :: args)) (hl : op.locked = true → Unlocked s)
    (hop : op.plain = true) :
    ∃ t, takeOp op (oneStep op f) s = .next t ∧ AnswersBy s t slot e op (f args s) := by
  have hbarred := Op.barredByRestart_of_plain hop
  obtain ⟨hnotRate, hnotRestart⟩ := Op.octet_ne_of_plain hop
  have happly := hf.headTaken args s
  obtain ⟨t, ht, ha⟩ := answers_of_takeOp op f h hl (fun hb => absurd (hbarred.symm.trans hb) Bool.false_ne_true)
    (f args s).state (by rw [happly]) (by rw [hf.table]) (f args s).result (f args s).data (by rw [happly]) (by rw [happly])
  rw [releaseNote_managed h.slot_eq hnotRate (.inl hnotRestart)] at ha
  exact ⟨t, ht, ha⟩

section NoArguments

variable {s : State} {slot : Nat} {e : Entry} {args : List Octet} {f : List Octet → State → Reply}

/-- An operation that takes no argument octets answers OK with its data and its effect `u`, and BAD_ARGUMENT without effect where
it is given one (R144). -/
theorem answers_of_noArguments (op : Op) (hf : ActsApart f) (h : Takes s slot e (op.octet :: args))
    (hl : op.locked = true → Unlocked s) {data : List Octet} {u : State} (hok : f [] s = okData data u)
    (hbad : ∀ o os, f (o :: os) s = badArgument s) (hop : op.plain = true) :
    ∃ t, takeOp op (oneStep op f) s = .next t
      ∧ (args = [] → Answers u t slot e s.active.settings.ownAddr op.octet 0x00#8 data (.entry slot))
      ∧ (args ≠ [] → Answers s t slot e s.active.settings.ownAddr op.octet 0x02#8 [] (.entry slot)) := by
  obtain ⟨t, ht, ha⟩ := answersBy_of_takes op hf h hl hop
  refine ⟨t, ht, ?_⟩
  cases args with
  | nil =>
    rw [hok] at ha
    exact ⟨fun _ => ha, fun hne => absurd rfl hne⟩
  | cons o os =>
    rw [hbad] at ha
    exact ⟨nofun, fun _ => ha⟩

/-- The same in the form of `AnswersIf`, for an operation without effect. -/
theorem answersIf_of_noArguments (op : Op) (hf : ActsApart f) (h : Takes s slot e (op.octet :: args))
    (hl : op.locked = true → Unlocked s) {data : List Octet} (hok : f [] s = okData data s)
    (hbad : ∀ o os, f (o :: os) s = badArgument s) (hop : op.plain = true) :
    ∃ t, takeOp op (oneStep op f) s = .next t ∧ AnswersIf s t slot e op.octet args.isEmpty data := by
  obtain ⟨t, ht, hnil, hcons⟩ := answers_of_noArguments op hf h hl hok hbad hop
  refine ⟨t, ht, ?_⟩
  cases args with
  | nil => exact hnil rfl
  | cons o os => exact hcons (List.cons_ne_nil o os)

end NoArguments

/-- An answer leaves ACTIVE, the tokens and the scan unit alone. -/
theorem Answers.keeps {s t : State} {slot : Nat} {e : Entry} {own op code : Octet} {data : List Octet} {note : ReleaseNote}
    (h : Answers s t slot e own op code data note) : t.active = s.active ∧ t.tokens = s.tokens ∧ t.scan = s.scan := by
  obtain ⟨-, -, -, hframe⟩ := h
  rw [hframe]
  exact ⟨rfl, rfl, rfl⟩

/-! ### Identity, start record and store -/

/-- The serial number is sent high-order octet first (R148, R170). -/
theorem identityOctets_eq : identityOctets =
    [0x4F#8, 0x41#8, 0x20#8, oct (0x41 + Config.revision.val), Config.serialNumber.extractLsb' 24 8,
     Config.serialNumber.extractLsb' 16 8, Config.serialNumber.extractLsb' 8 8, Config.serialNumber.extractLsb' 0 8] := by
  have hbyte (n i : Nat) (h : n % 256 = Config.serialNumber.toNat / 2 ^ i % 256) :
      oct n = Config.serialNumber.extractLsb' i 8 := by
    apply BitVec.eq_of_toNat_eq
    rw [oct, BitVec.toNat_ofNat, BitVec.extractLsb'_toNat, Nat.shiftRight_eq_div_pow]
    exact h
  rw [← hbyte (Config.serialNumber.toNat / 65536 / 256) 24 (by omega),
    ← hbyte (Config.serialNumber.toNat / 65536) 16 (by omega),
    ← hbyte (Config.serialNumber.toNat % 65536 / 256) 8 (by omega),
    ← hbyte (Config.serialNumber.toNat % 65536) 0 (by omega)]
  rfl

/-- An absent slot number is FFh (R174). -/
theorem slotOct_eq (k : Option Nat) : slotOct k = (match k with | some n => oct n | none => 0xFF#8) := by
  cases k <;> rfl

/-! ### The bank selector -/

/-- The bank selector `o` chooses the configuration set `c` (R22). -/
def ChoosesBank (s : State) (o : Octet) (c : ConfigSet) : Prop := (o = 0x00#8 ∧ c = s.active) ∨ (o = 0x01#8 ∧ c = s.shadow)

theorem ChoosesBank.selects {s : State} {o : Octet} {c : ConfigSet} (h : ChoosesBank s o c) :
    ∃ shadow, bankOfOctet? o = some shadow ∧ s.bank shadow = c := by
  obtain ⟨rfl, rfl⟩ | ⟨rfl, rfl⟩ := h
  · exact ⟨false, rfl, rfl⟩
  · exact ⟨true, rfl, rfl⟩

/-- No bank has a number above 1 (R22). -/
theorem bankOfOctet?_none {o : Octet} (h : 1 < o.toNat) : bankOfOctet? o = none := by
  have h0 : o ≠ 0x00#8 := by rintro rfl; exact absurd h (by decide)
  have h1 : o ≠ 0x01#8 := by rintro rfl; exact absurd h (by decide)
  rw [bankOfOctet?, if_neg h0, if_neg h1]

/-- The arguments are not `n` octets of which the first is a bank selector (R22). -/
def UnfitForBank (n : Nat) (args : List Octet) : Prop := args.length ≠ n ∨ ∃ o, args.head? = some o ∧ 1 < o.toNat

theorem UnfitForBank.noBank {o : Octet} {os : List Octet} (h : UnfitForBank (os.length + 1) (o :: os)) :
    bankOfOctet? o = none := by
  obtain hlen | ⟨o', ho, hgt⟩ := h
  · exact absurd rfl hlen
  · cases ho
    exact bankOfOctet?_none hgt

/-! ### Settings, records and station lists -/

theorem getSettings_of_bank {s : State} {o : Octet} {c : ConfigSet} (h : ChoosesBank s o c) :
    getSettings [o] s = okData c.settings.octets s := by
  obtain ⟨shadow, ho, rfl⟩ := h.selects
  simp [getSettings, ho]

theorem getSettings_unfit {args : List Octet} (s : State) (h : UnfitForBank 1 args) : getSettings args s = badArgument s := by
  match args, h with
  | [], _ => rfl
  | [o], h => simp [getSettings, h.noBank]
  | _ :: _ :: _, _ => rfl

/-- 0 and 255 are no station addresses. -/
theorem stationAddress_eq_false {a : Octet} (h : a = 0#8 ∨ a = 0xFF#8) : stationAddress a = false := by
  obtain rfl | rfl := h <;> rfl

theorem stationAddress_eq_true {a : Octet} (h0 : a ≠ 0#8) (hF : a ≠ 0xFF#8) : stationAddress a = true := by
  simp [stationAddress, h0, hF]

theorem getStation_badAddress {s : State} {o a : Octet} {c : ConfigSet} (h : ChoosesBank s o c) (ha : a = 0#8 ∨ a = 0xFF#8) :
    getStation [o, a] s = badArgument s := by
  obtain ⟨shadow, ho, -⟩ := h.selects
  simp [getStation, ho, stationAddress_eq_false ha]

theorem getStation_absent {s : State} {o a : Octet} {c : ConfigSet} (h : ChoosesBank s o c) (ha : stationAddress a = true)
    (hr : c.record? a = none) : getStation [o, a] s = refusedBy .noSuchStation [] s := by
  obtain ⟨shadow, ho, rfl⟩ := h.selects
  simp [getStation, ho, ha, hr]

theorem getStation_found {s : State} {o a : Octet} {c : ConfigSet} {r : StationRecord} (h : ChoosesBank s o c)
    (ha : stationAddress a = true) (hr : c.record? a = some r) : getStation [o, a] s = okData r.octets s := by
  obtain ⟨shadow, ho, rfl⟩ := h.selects
  simp [getStation, ho, ha, hr]

theorem getStation_unfit {args : List Octet} (s : State) (h : UnfitForBank 2 args) : getStation args s = badArgument s := by
  match args, h with
  | [], _ => rfl
  | [_], _ => rfl
  | [o, _], h => simp [getStation, h.noBank]
  | _ :: _ :: _ :: _, _ => rfl

/-- The first 16 addresses of a map at or above a start address (R34). -/
def ConfigSet.addressesFrom (c : ConfigSet) (start : Octet) : List Octet :=
  ((c.stations.map fun r => r.addr).filter fun a => start.toNat ≤ a.toNat).take 16

theorem listStations_of_bank {s : State} {o start : Octet} {c : ConfigSet} (h : ChoosesBank s o c) :
    listStations [o, start] s = okData (oct (c.addressesFrom start).length :: c.addressesFrom start) s := by
  obtain ⟨shadow, ho, rfl⟩ := h.selects
  simp [listStations, ho, ConfigSet.addressesFrom, listSize]

theorem listStations_unfit {args : List Octet} (s : State) (h : UnfitForBank 2 args) :
    listStations args s = badArgument s := by
  match args, h with
  | [], _ => rfl
  | [_], _ => rfl
  | [o, _], h => simp [listStations, h.noBank]
  | _ :: _ :: _ :: _, _ => rfl

/-! ### Reading the stored data -/

section Reading

variable {s : State} {slot : Nat} {e : Entry} {args : List Octet}

theorem getIdentity_answers (h : Takes s slot e (0x01#8 :: args)) :
    ∃ t, exec .getIdentity s = .next t ∧ AnswersIf s t slot e 0x01#8 args.isEmpty identityOctets :=
  answersIf_of_noArguments .getIdentity getIdentity_actsApart h (fun hl => nomatch hl) rfl (fun _ _ => rfl) rfl

theorem getStartRecord_answers (h : Takes s slot e (0x02#8 :: args)) :
    ∃ t, exec .getStartRecord s = .next t ∧ AnswersIf s t slot e 0x02#8 args.isEmpty
      [s.seq.record.cause.octet, slotOct s.seq.record.loaded, oct s.seq.record.spoiled, s.seq.record.sup.octet] :=
  answersIf_of_noArguments .getStartRecord getStartRecord_actsApart h (fun hl => nomatch hl) rfl (fun _ _ => rfl) rfl

theorem getStore_answers (h : Takes s slot e (0x14#8 :: args)) :
    ∃ t, exec .getStore s = .next t ∧ AnswersIf s t slot e 0x14#8 args.isEmpty
      ((s.store.slots.map fun c => c.state.octet) ++ s.store.busy.octets ++ [slotOct s.seq.record.loaded]) :=
  answersIf_of_noArguments .getStore getStore_actsApart h (fun hl => nomatch hl) rfl (fun _ _ => rfl) rfl

theorem getSettings_answers (h : Takes s slot e (0x03#8 :: args)) :
    ∃ t, exec .getSettings s = .next t ∧ AnswersBy s t slot e .getSettings (getSettings args s) :=
  answersBy_of_takes .getSettings getSettings_actsApart h (fun hl => nomatch hl) rfl

theorem getStation_answers (h : Takes s slot e (0x05#8 :: args)) :
    ∃ t, exec .getStation s = .next t ∧ AnswersBy s t slot e .getStation (getStation args s) :=
  answersBy_of_takes .getStation getStation_actsApart h (fun hl => nomatch hl) rfl

theorem listStations_answers (h : Takes s slot e (0x08#8 :: args)) :
    ∃ t, exec .listStations s = .next t ∧ AnswersBy s t slot e .listStations (listStations args s) :=
  answersBy_of_takes .listStations listStations_actsApart h (fun hl => nomatch hl) rfl

end Reading

/-- Settles O34: each operation answers by its meaning on the state before the take, and the equations of the six operations say
what that is for fitting and unfitting arguments. -/
theorem storedDataIsRead : Obligations.StoredDataIsRead := by
  refine ⟨fun s slot e args => ⟨fun h => ?_, fun h => ?_, fun h => ?_⟩, fun s slot e => ⟨fun o c hbank => ?_, ?_, ?_⟩⟩
  · rw [← identityOctets_eq]
    exact getIdentity_answers h
  · obtain ⟨t, ht, ha⟩ := getStartRecord_answers h
    rw [slotOct_eq] at ha
    exact ⟨t, ht, ha⟩
  · obtain ⟨t, ht, ha⟩ := getStore_answers h
    rw [slotOct_eq] at ha
    exact ⟨t, ht, ha⟩
  · refine ⟨fun h => ?_, fun a h => ?_, fun start h => ?_⟩
    · obtain ⟨t, ht, ha⟩ := getSettings_answers h
      rw [getSettings_of_bank hbank] at ha
      exact ⟨t, ht, ha⟩
    · obtain ⟨t, ht, ha⟩ := getStation_answers h
      refine ⟨t, ht, fun hout => ?_, fun h0 hF => ⟨fun hnone => ?_, fun r hr => ?_⟩⟩
      · rw [getStation_badAddress hbank hout] at ha
        exact ha
      · rw [getStation_absent hbank (stationAddress_eq_true h0 hF) hnone] at ha
        exact ha
      · rw [getStation_found hbank (stationAddress_eq_true h0 hF) hr] at ha
        exact ha
    · obtain ⟨t, ht, ha⟩ := listStations_answers h
      rw [listStations_of_bank hbank] at ha
      exact ⟨t, ht, ha⟩
  · intro args hunfit h
    obtain ⟨t, ht, ha⟩ := getSettings_answers h
    rw [getSettings_unfit s hunfit] at ha
    exact ⟨t, ht, ha⟩
  · refine fun args hunfit => ⟨fun h => ?_, fun h => ?_⟩
    · obtain ⟨t, ht, ha⟩ := getStation_answers h
      rw [getStation_unfit s hunfit] at ha
      exact ⟨t, ht, ha⟩
    · obtain ⟨t, ht, ha⟩ := listStations_answers h
      rw [listStations_unfit s hunfit] at ha
      exact ⟨t, ht, ha⟩

/-! ### Removing one record from SHADOW -/

theorem ConfigSet.record?_isSome_iff (c : ConfigSet) (a : Octet) :
    (c.record? a).isSome = true ↔ ∃ r ∈ c.stations, r.addr = a := by
  simp [ConfigSet.record?, List.find?_isSome]

/-- DROP STATION writes nothing but SHADOW (R32). -/
theorem dropStation_state (args : List Octet) (s : State) :
    (dropStation args s).state = { s with shadow := (dropStation args s).state.shadow } := by
  unfold dropStation
  split
  · split
    · split <;> rfl
    · rfl
  · rfl

theorem dropStation_present {s : State} {a : Octet} (ha : stationAddress a = true)
    (hr : ∃ r ∈ s.shadow.stations, r.addr = a) :
    dropStation [a] s = okData [a] { s with shadow := s.shadow.drop a } := by
  simp [dropStation, ha, (s.shadow.record?_isSome_iff a).2 hr]

theorem dropStation_absent {s : State} {a : Octet} (ha : stationAddress a = true)
    (hr : ∀ r ∈ s.shadow.stations, r.addr ≠ a) :
    dropStation [a] s = refusedBy .noSuchStation [] s := by
  have hnone : ¬ (s.shadow.record? a).isSome = true := by
    rw [ConfigSet.record?_isSome_iff]
    rintro ⟨r, hmem, heq⟩
    exact hr r hmem heq
  simp [dropStation, ha, hnone]

theorem dropStation_badArgument {args : List Octet} (s : State) (h : ∀ a, args = [a] → a = 0#8 ∨ a = 0xFF#8) :
    dropStation args s = badArgument s := by
  match args, h with
  | [], _ => rfl
  | [a], h => simp [dropStation, stationAddress_eq_false (h a rfl)]
  | _ :: _ :: _, _ => rfl

/-- Settles O36: of DROP STATION's four outcomes one alone writes, and it writes SHADOW. -/
theorem dropStationRemovesTheRecord : Obligations.DropStationRemovesTheRecord := by
  intro s slot e args h hunlocked
  obtain ⟨t, ht, ha⟩ := answersBy_of_takes .dropStation dropStation_actsApart h (fun _ => hunlocked) rfl
  obtain ⟨hactive, htokens, hscan⟩ := Answers.keeps ha
  rw [dropStation_state] at hactive htokens hscan
  refine ⟨t, ht, hactive, htokens, hscan, ?_, fun hbad => ?_⟩
  · rintro a rfl h0 hF
    have haddr := stationAddress_eq_true h0 hF
    refine ⟨fun hpresent => ?_, fun habsent => ?_⟩
    · rw [dropStation_present haddr hpresent] at ha
      exact ha
    · rw [dropStation_absent haddr habsent] at ha
      exact ha
  · rw [dropStation_badArgument s hbad] at ha
    exact ha

/-! ### Clearing and reverting SHADOW -/

/-- Settles O37: without an argument the meaning of each operation is the effect stated, and with one it is BAD_ARGUMENT. -/
theorem shadowIsClearedOrReverted : Obligations.ShadowIsClearedOrReverted := by
  intro s slot e args hunlocked
  refine ⟨fun h => ?_, fun h => ?_⟩
  · exact answers_of_noArguments .clearShadow clearShadow_actsApart h (fun _ => hunlocked) rfl (fun _ _ => rfl) rfl
  · exact answers_of_noArguments .revertShadow revertShadow_actsApart h (fun _ => hunlocked) rfl (fun _ _ => rfl) rfl

end Sys2Proof.Machine
end

section
/-! PROOFS. Status scanning and the collection of changes (chapter 5): a missed poll in its slot, and GET CHANGES. -/

namespace Sys2Proof.Machine

/-! ### Slots of the scan unit -/

/-- The slot of an address after a change of it that keeps its address. -/
theorem Scan.find?_update {c : Scan} {a : Octet} {x : ScanSlot} (f : ScanSlot → ScanSlot) (hf : ∀ y, (f y).addr = y.addr)
    (h : c.find? a = some x) : (c.update a f).find? a = some (f x) := by
  have hfind : c.slots.find? (fun y => y.addr == a) = some x := h
  have haddr : x.addr = a := by simpa using List.find?_some hfind
  have hkeeps : ((fun y => y.addr == a) ∘ fun y : ScanSlot => if y.addr = a then f y else y) = fun y => y.addr == a := by
    funext y
    simp only [Function.comp_apply, apply_ite ScanSlot.addr, hf, ite_self]
  rw [Scan.find?, Scan.update, List.find?_map, hkeeps, hfind, Option.map_some, if_pos haddr]

/-- Where one slot alone has an address, a change at the address puts one slot in its place. -/
theorem Scan.update_of_unique {c : Scan} {x : ScanSlot} (f : ScanSlot → ScanSlot)
    (huniq : ∀ y ∈ c.slots, y.addr = x.addr → y = x) :
    c.update x.addr f = { c with slots := c.slots.map fun z => if z.addr = x.addr then f x else z } := by
  have hmap : (c.slots.map fun z => if z.addr = x.addr then f z else z)
      = c.slots.map fun z => if z.addr = x.addr then f x else z := by
    refine List.map_congr_left fun z hz => ?_
    by_cases hzx : z.addr = x.addr
    · rw [if_pos hzx, if_pos hzx, huniq z hz hzx]
    · rw [if_neg hzx, if_neg hzx]
  rw [Scan.update, hmap]

theorem Scan.update_update (c : Scan) (a : Octet) (f g : ScanSlot → ScanSlot) (hf : ∀ y, (f y).addr = y.addr) :
    (c.update a f).update a g = c.update a fun y => g (f y) := by
  simp only [Scan.update, List.map_map]
  congr 1
  refine List.map_congr_left fun z _ => ?_
  by_cases hz : z.addr = a
  · simp only [Function.comp_apply, if_pos hz, hf]
  · simp only [Function.comp_apply, if_neg hz]

/-! ### The test of the change mark -/

/-- The test of the change mark finds the slot to mark: its pair differs from the collected pair, and its mark is clear (R102). -/
def ScanSlot.toMark (x : ScanSlot) : Bool := x.differs && !x.mark

theorem Scan.testMark_of_toMark {c : Scan} {a : Octet} {x : ScanSlot} (h : c.find? a = some x) (hx : x.toMark = true) :
    c.testMark a = { c.update a (fun x => { x with mark := true }) with changes := c.changes ++ [a] } := by
  rw [Scan.testMark, h]
  exact if_pos hx

theorem Scan.testMark_of_not_toMark {c : Scan} {a : Octet} {x : ScanSlot} (h : c.find? a = some x) (hx : x.toMark = false) :
    c.testMark a = c := by
  rw [Scan.testMark, h]
  exact if_neg (ne_true_of_eq_false hx)

/-- A slot changed to `f x` and then tested: it is marked, and its address listed, just where the test finds it to mark (R102). -/
theorem Scan.testMark_update {c : Scan} {x : ScanSlot} (f : ScanSlot → ScanSlot) (hf : ∀ y, (f y).addr = y.addr)
    (h : c.find? x.addr = some x) (huniq : ∀ y ∈ c.slots, y.addr = x.addr → y = x) :
    (c.update x.addr f).testMark x.addr =
      { slots := c.slots.map fun z =>
          if z.addr = x.addr then { f x with mark := (f x).mark || (f x).toMark } else z
        changes := if (f x).toMark then c.changes ++ [x.addr] else c.changes } := by
  have hfind := Scan.find?_update f hf h
  cases hmark : (f x).toMark with
  | true =>
    rw [Scan.testMark_of_toMark hfind hmark, Scan.update_update c x.addr f _ hf, Scan.update_of_unique _ huniq, Bool.or_true]
    rfl
  | false =>
    rw [Scan.testMark_of_not_toMark hfind hmark, Scan.update_of_unique _ huniq, Bool.or_false]
    rfl

/-! ### A missed poll -/

/-- The schedule that a recorded poll sets, as the claims spell it (R100). -/
theorem ScanSlot.rescheduled_some (x : ScanSlot) (now sent : Millis) (n : Nat) :
    x.rescheduled now sent (some n) = { x with schedule := dueAfter now sent n } := rfl

theorem ScanSlot.rescheduled_addr (x : ScanSlot) (now sent : Millis) (n : Option Nat) :
    (x.rescheduled now sent n).addr = x.addr := by
  cases n <;> rfl

/-- Misses count up to 3, and stay there (R99). -/
theorem ScanSlot.missed_of_le {x : ScanSlot} (sent : Millis) (h : x.misses ≤ 3) :
    x.missed sent =
      { x with misses := if x.misses = 3 then 3 else x.misses + 1
               state := if (if x.misses = 3 then 3 else x.misses + 1) = 3 then .offline else x.state
               lastPoll := some sent, pollBound := false } := by
  have hcount : min 3 (x.misses + 1) = if x.misses = 3 then 3 else x.misses + 1 := by
    split <;> omega
  rw [ScanSlot.missed, hcount]

/-- The recording of a miss: outcome and schedule in the slot, then the test of its mark (R99, R100, R102). -/
theorem State.recordPoll_miss (s : State) (a : Octet) (sent : Millis) :
    s.recordPoll a none sent =
      { s with scan :=
          (s.scan.update a fun x => (x.missed sent).rescheduled s.clock.ms sent (s.active.scan? a)).testMark a } := rfl

/-- Settles O31: the missed slot is written in its place, and the test of its mark decides the rest. -/
theorem missIsRecorded : Obligations.MissIsRecorded := by
  intro s x sent n hfind huniq hscan hmisses
  have haddr (y : ScanSlot) : ((y.missed sent).rescheduled s.clock.ms sent (s.active.scan? x.addr)).addr = y.addr :=
    (y.missed sent).rescheduled_addr ..
  rw [State.recordPoll_miss, Scan.testMark_update _ haddr hfind huniq, hscan, ScanSlot.rescheduled_some,
    ScanSlot.missed_of_le sent hmisses]
  rfl

/-! ### The items of GET CHANGES -/

/-- An octet of a word, by its place. -/
theorem oct_div_eq_extractLsb' {n : Nat} (w : BitVec n) (i : Nat) : oct (w.toNat / 2 ^ i) = w.extractLsb' i 8 := by
  apply BitVec.eq_of_toNat_eq
  rw [oct, BitVec.toNat_ofNat, BitVec.extractLsb'_toNat, Nat.shiftRight_eq_div_pow]

theorem wordOct_eq (w : Word16) : wordOct w = [w.extractLsb' 8 8, w.extractLsb' 0 8] := by
  rw [← oct_div_eq_extractLsb' w 8, ← oct_div_eq_extractLsb' w 0, pow_zero, Nat.div_one]
  rfl

/-- The five octets of an item, an absent word flagged and sent as FFFFh (R176). -/
theorem changeItem_eq (x : ScanSlot) : changeItem x =
    [x.addr, x.state.octet, if x.word.isNone then 0x01#8 else 0x00#8]
      ++ (match x.word with | some w => [w.extractLsb' 8 8, w.extractLsb' 0 8] | none => [0xFF#8, 0xFF#8]) := by
  unfold changeItem changeFlags
  cases x.word with
  | none => rfl
  | some w =>
    rw [wordField, wordOct_eq]
    rfl

/-- The collection as the claims spell it (R104). -/
theorem Scan.collect_eq (c : Scan) (n : Nat) : c.collect n =
    { slots := c.slots.map fun x =>
        if x.addr ∈ c.changes.take n then { x with collState := x.state, collWord := x.word, mark := false } else x
      changes := c.changes.drop n } := by
  simp only [Scan.collect, List.contains_iff_mem, ScanSlot.collected]

/-! ### GET CHANGES -/

theorem getChanges_actsApart : ActsApart getChanges where
  headTaken args s := by
    unfold getChanges
    split
    · split <;> rfl
    · rfl
  table args s := by
    unfold getChanges
    split
    · split <;> rfl
    · rfl

theorem getChanges_badArgument {args : List Octet} (s : State) (h : ∀ max, args = [max] → max = 0#8 ∨ 8 < max.toNat) :
    getChanges args s = badArgument s := by
  match args, h with
  | [], _ => rfl
  | [max], h =>
    have hout : ¬ (1 ≤ max.toNat ∧ max.toNat ≤ 8) := by
      obtain rfl | hgt := h max rfl
      · decide
      · omega
    exact if_neg hout
  | _ :: _ :: _, _ => rfl

theorem getChanges_of_le {max : Octet} (s : State) (h1 : 1 ≤ max.toNat) (h8 : max.toNat ≤ 8) :
    getChanges [max] s =
      okData (oct (s.scan.changes.take max.toNat).length :: s.scan.changeItems (s.scan.changes.take max.toNat)
          ++ [oct (s.scan.changes.length - max.toNat)])
        { s with scan := s.scan.collect max.toNat } := by
  rw [← List.length_drop]
  exact if_pos ⟨h1, h8⟩

/-- Settles O40: GET CHANGES answers by its meaning, which for a fitting argument is the report and the collection, item by item
as the statement spells them. -/
theorem collectionReportsAndClears : Obligations.CollectionReportsAndClears := by
  intro s slot e args h
  obtain ⟨t, ht, ha⟩ := answersBy_of_takes .getChanges getChanges_actsApart h (fun hl => nomatch hl) rfl
  refine ⟨t, ht, fun hbad => ?_, ?_⟩
  · rw [getChanges_badArgument s hbad] at ha
    exact ha
  · rintro max rfl h1 h8
    rw [getChanges_of_le s h1 h8, Scan.collect_eq] at ha
    simp only [Scan.changeItems, changeItem_eq] at ha
    exact ha

end Sys2Proof.Machine
end

section
/-! PROOFS. STAT (R124): every step keeps it asserted exactly in the failsafe states of a live part. All operations but a few
leave what R124 speaks of as it is; failsafe entry, RESUME, the starts and the resets set it anew. -/

namespace Sys2Proof.Machine

/-! ### What R124 speaks of -/

/-- What R124 ties together: whether the part is live, whether it is in a failsafe state, and STAT. -/
structure StatView where
  live     : Bool
  failsafe : Bool
  stat     : Bool

def State.statView (s : State) : StatView := { live := s.live, failsafe := s.sup.state != .normal, stat := s.sup.stat }

/-- R124 as one equation of the view. -/
def StatView.follows (v : StatView) : Prop := v.stat = (v.live && v.failsafe)

theorem statFollows_iff (s : State) : StatFollows s ↔ s.statView.follows := by
  by_cases hrun : s.seq.run = .loading
  · simp [StatFollows, StatView.follows, State.statView, State.live, hrun]
  · cases hstat : s.sup.stat <;> simp [StatFollows, StatView.follows, State.statView, State.live, hrun, hstat]

theorem StatFollows.of_statView {s t : State} (h : t.statView = s.statView) (hs : StatFollows s) : StatFollows t := by
  rw [statFollows_iff, h, ← statFollows_iff]
  exact hs

/-! ### Single updates -/

@[simp] theorem State.setBranch_statView (s : State) (b : BranchId) (x : Branch) :
    (s.setBranch b x).statView = s.statView := rfl
@[simp] theorem State.setRx_statView (s : State) (b : BranchId) (r : Receiver) :
    (s.setRx b r).statView = s.statView := rfl
@[simp] theorem State.setUpRx_statView (s : State) (r : Receiver) : (s.setUpRx r).statView = s.statView := rfl
@[simp] theorem State.countUp_statView (s : State) (f : UpCounters → UpCounters) :
    (s.countUp f).statView = s.statView := rfl
@[simp] theorem State.drawn_statView (s : State) : s.drawn.statView = s.statView := rfl
@[simp] theorem State.updateEntry_statView (s : State) (slot : Nat) (f : Entry → Entry) :
    (s.updateEntry slot f).statView = s.statView := rfl
@[simp] theorem State.updateTokens_statView (s : State) (a : Octet) (f : TokenState → TokenState) :
    (s.updateTokens a f).statView = s.statView := rfl
@[simp] theorem State.restartSilence_statView (s : State) : s.restartSilence.statView = s.statView := rfl
@[simp] theorem State.allocate_statView (s : State) (e : Entry) : (s.allocate e).statView = s.statView := rfl
@[simp] theorem State.startSpacing_statView (s : State) : s.startSpacing.statView = s.statView := rfl
@[simp] theorem State.itemGone_statView (s : State) : s.itemGone.statView = s.statView := rfl
@[simp] theorem State.itemOutcome_statView (s : State) (f : FailsafeItem) (o : LineOutcome) :
    (s.itemOutcome f o).statView = s.statView := rfl
@[simp] theorem State.shareAborted_statView (s : State) (b : BranchId) (slot : Nat) :
    (s.shareAborted b slot).statView = s.statView := rfl
@[simp] theorem State.freeBranch_statView (s : State) (b : BranchId) : (s.freeBranch b).statView = s.statView := rfl
@[simp] theorem State.enqueue_statView (s : State) (b : BranchId) (q : QueueItem) :
    (s.enqueue b q).statView = s.statView := rfl
@[simp] theorem State.recordStart_statView (s : State) (cause : StartCause) (loaded : Option Nat) :
    (s.recordStart cause loaded).statView = s.statView := rfl
@[simp] theorem State.commitTokens_statView (s : State) (old : ConfigSet) :
    (s.commitTokens old).statView = s.statView := rfl
@[simp] theorem State.commitSlots_statView (s : State) (old : ConfigSet) :
    (s.commitSlots old).statView = s.statView := rfl
@[simp] theorem State.clearUp_statView (s : State) : s.clearUp.statView = s.statView := rfl
@[simp] theorem State.clearBranch_statView (s : State) (b : BranchId) : (s.clearBranch b).statView = s.statView := rfl
@[simp] theorem State.clearTxn_statView (s : State) : s.clearTxn.statView = s.statView := rfl

/-! ### Repeated updates -/

theorem foldl_statView {α : Type} {f : State → α → State} (hf : ∀ t a, (f t a).statView = t.statView)
    (l : List α) (s : State) : (l.foldl f s).statView = s.statView := by
  induction l generalizing s with
  | nil => rfl
  | cons a l ih => rw [List.foldl_cons, ih, hf]

@[simp] theorem State.sharesAborted_statView (s : State) (b : BranchId) (slots : List Nat) :
    (s.sharesAborted b slots).statView = s.statView :=
  foldl_statView (fun t slot => t.shareAborted_statView b slot) slots s

@[simp] theorem State.itemsSkipped_statView (s : State) (fs : List FailsafeItem) :
    (s.itemsSkipped fs).statView = s.statView :=
  foldl_statView (fun t f => t.itemOutcome_statView f .skipped) fs s

theorem State.eachBranch_statView {f : State → BranchId → State × List Job}
    (hf : ∀ t b, (f t b).1.statView = t.statView) (s : State) : (s.eachBranch f).1.statView = s.statView := by
  simp only [State.eachBranch, hf]

/-! ### Completions, arbiters and the agent -/

@[simp] theorem State.complete_statView (s : State) (slot : Nat) (f : Form) :
    (s.complete slot f).statView = s.statView := by
  rw [State.complete_frame]
  rfl

@[simp] theorem State.completeAll_statView (s : State) (jobs : List Job) :
    (s.completeAll jobs).statView = s.statView := by
  rw [State.completeAll_frame]
  rfl

@[simp] theorem State.settle_statView (s : State) : s.settle.statView = s.statView := by
  rw [State.settle_frame]
  rfl

@[simp] theorem State.serveNext_statView (s : State) : s.serveNext.statView = s.statView := by
  rw [State.serveNext_frame]
  rfl

/-- FAILSAFE_SENDING and FAILSAFE_HELD are both failsafe states, so the end of sending leaves STAT right (R119). -/
@[simp] theorem State.heldIfDone_statView (s : State) : s.heldIfDone.statView = s.statView := by
  unfold State.heldIfDone
  split
  · rename_i hdone
    rw [State.statView, State.statView, hdone.1]
    rfl
  · rfl

/-! ### Branch lines -/

@[simp] theorem State.pollEnded_statView (s : State) (p : PollItem) (w : Option Word16) :
    (s.pollEnded p w).statView = s.statView := by
  unfold State.pollEnded
  split <;> rfl

@[simp] theorem State.pollReleased_statView (s : State) (p : PollItem) : (s.pollReleased p).statView = s.statView := by
  unfold State.pollReleased
  split <;> rfl

@[simp] theorem State.noteCause_statView (s : State) (c : Cause) (i : Option BoundItem) :
    (s.noteCause c i).statView = s.statView := by
  unfold State.noteCause
  split <;> rfl

@[simp] theorem State.countAttempt_statView (s : State) (i : BoundItem) : (s.countAttempt i).statView = s.statView := by
  cases i <;> rfl

@[simp] theorem State.failureOutcome_statView (s : State) (i : Option BoundItem) :
    (s.failureOutcome i).statView = s.statView := by
  unfold State.failureOutcome
  split <;> simp

@[simp] theorem State.successOutcome_statView (s : State) (payload : List Octet) (i : Option BoundItem) :
    (s.successOutcome payload i).statView = s.statView := by
  unfold State.successOutcome
  split
  · simp
  · split <;> simp
  · simp
  · rfl

@[simp] theorem State.faultDisposal_statView (s : State) (b : BranchId) (i : Option BoundItem) :
    (s.faultDisposal b i).statView = s.statView := by
  unfold State.faultDisposal
  split <;> simp

@[simp] theorem State.attemptFails_statView (s : State) (b : BranchId) (c : Cause) :
    (s.attemptFails b c).statView = s.statView := by
  unfold State.attemptFails
  extract_lets x closed s1
  have hs1 : s1.statView = s.statView := by simp [s1]
  split <;> simp [hs1]

@[simp] theorem State.attemptSucceeds_statView (s : State) (b : BranchId) (payload : List Octet) :
    (s.attemptSucceeds b payload).statView = s.statView := by
  simp [State.attemptSucceeds]

@[simp] theorem State.replyReceived_statView (s : State) (b : BranchId) (f : Frame) :
    (s.replyReceived b f).statView = s.statView := by
  unfold State.replyReceived
  extract_lets x
  split
  · split <;> simp
  · split <;> simp

@[simp] theorem State.enterFault_statView (s : State) (b : BranchId) : (s.enterFault b).statView = s.statView := by
  simp [State.enterFault]

@[simp] theorem State.lineActivity_statView (s : State) (b : BranchId) : (s.lineActivity b).statView = s.statView := by
  unfold State.lineActivity
  extract_lets x s1
  split
  · split <;> simp [s1]
  · rfl
  · rfl
  · rfl

@[simp] theorem State.branchValid_statView (s : State) (b : BranchId) (f : Frame) :
    (s.branchValid b f).statView = s.statView := by
  unfold State.branchValid
  split <;> simp

@[simp] theorem State.branchBroken_statView (s : State) (b : BranchId) : (s.branchBroken b).statView = s.statView := by
  unfold State.branchBroken
  split <;> simp

@[simp] theorem State.branchStarted_statView (s : State) (b : BranchId) :
    (s.branchStarted b).statView = s.statView := by
  unfold State.branchStarted
  split <;> simp

@[simp] theorem State.gapOn_statView (s : State) (b : BranchId) : (s.gapOn b).statView = s.statView := by
  unfold State.gapOn
  extract_lets u
  split <;> simp [u]

@[simp] theorem State.octetOn_statView (s : State) (b : BranchId) (o : Octet) :
    (s.octetOn b o).statView = s.statView := by
  unfold State.octetOn
  split <;> simp

@[simp] theorem State.shareSent_statView (s : State) (b : BranchId) (slot : Nat) :
    (s.shareSent b slot).statView = s.statView := by
  simp [State.shareSent]

/-! ### The upstream line and admission -/

@[simp] theorem State.refuse_statView (s : State) (f : Frame) (r : RefusalReason) :
    (s.refuse f r).statView = s.statView := by
  unfold State.refuse
  split <;> rfl

@[simp] theorem State.takeToken_statView (s : State) (r : StationRecord) : (s.takeToken r).statView = s.statView := by
  unfold State.takeToken
  split <;> rfl

@[simp] theorem State.enqueueShare_statView (s : State) (slot : Nat) (eligible : Quad Bool) (b : BranchId) :
    (s.enqueueShare slot eligible b).statView = s.statView := by
  unfold State.enqueueShare
  split <;> rfl

@[simp] theorem State.enqueueAgent_statView (s : State) (slot : Nat) : (s.enqueueAgent slot).statView = s.statView := by
  unfold State.enqueueAgent
  extract_lets agent s'
  split
  · exact s'.serveNext_statView
  · rfl

@[simp] theorem State.admission_statView (s : State) (f : Frame) : (s.admission f).statView = s.statView := by
  unfold State.admission
  cases s.judge f with
  | discard => rfl
  | refuse r => exact s.refuse_statView f r
  | station r k slot => simp [State.carryOut]
  | manage slot => simp [State.carryOut]
  | broadcast eligible slot => simp [State.carryOut, foldl_statView]

@[simp] theorem State.upstreamValid_statView (s : State) (f : Frame) : (s.upstreamValid f).statView = s.statView := by
  unfold State.upstreamValid
  extract_lets s1
  split <;> simp [s1]

@[simp] theorem State.upstreamOctet_statView (s : State) (o : Octet) : (s.upstreamOctet o).statView = s.statView := by
  unfold State.upstreamOctet
  split <;> simp

@[simp] theorem State.promote_statView (s : State) : s.promote.statView = s.statView := by
  unfold State.promote
  split
  · rfl
  · split
    · rfl
    · split <;> rfl

@[simp] theorem State.release_statView (s : State) (n : ReleaseNote) : (s.release n).statView = s.statView := by
  cases n <;> rfl

@[simp] theorem State.rateChange_statView (s : State) (n : ReleaseNote) : (s.rateChange n).statView = s.statView := by
  cases n <;> rfl

/-! ### Commit -/

@[simp] theorem State.commitSilence_statView (s : State) (old : ConfigSet) :
    (s.commitSilence old).statView = s.statView := by
  unfold State.commitSilence
  split
  · rfl
  · split <;> rfl

@[simp] theorem State.commitBranch_statView (s : State) (old : ConfigSet) (b : BranchId) :
    (s.commitBranch old b).1.statView = s.statView := by
  unfold State.commitBranch
  split
  · simp [State.disableBranch]
  · unfold State.enableBranch
    dsimp only
    split <;> rfl
  · rfl

@[simp] theorem State.replaceActive_statView (s : State) : s.replaceActive.1.statView = s.statView := by
  simp only [State.replaceActive, State.heldIfDone_statView, State.commitSilence_statView, State.commitSlots_statView,
    State.commitTokens_statView]
  exact State.eachBranch_statView (fun t b => t.commitBranch_statView s.active b) _

/-! ### What sets STAT anew -/

theorem State.failsafeClaim_statView (s : State) (b : BranchId) : (s.failsafeClaim b).1.statView = s.statView := by
  simp [State.failsafeClaim]

theorem State.listAction_statView (s : State) (r : StationRecord) : (s.listAction r).statView = s.statView := by
  unfold State.listAction
  split
  · rfl
  · dsimp only
    split <;> rfl

/-- Failsafe entry asserts STAT and ends in a failsafe state (R114). -/
theorem State.failsafeEntry_statView (s : State) (cause : EntryCause) :
    (s.failsafeEntry cause).1.statView = { live := s.live, failsafe := true, stat := true } := by
  unfold State.failsafeEntry
  extract_lets sup s1 r s2 st sup2 s3
  have hs2 : s2.statView = s1.statView :=
    (foldl_statView State.listAction_statView _ _).trans (State.eachBranch_statView State.failsafeClaim_statView _)
  obtain ⟨hlive, -, hstat⟩ := StatView.mk.inj hs2
  have hst : (st != .normal) = true := by
    unfold st
    split <;> rfl
  calc s3.statView = { live := s2.live, failsafe := st != .normal, stat := s2.sup.stat } := rfl
    _ = { live := s.live, failsafe := true, stat := true } := by rw [hlive, hst, hstat]; rfl

theorem State.failsafeEntry_statFollows {s : State} (cause : EntryCause) (hl : s.live = true) :
    StatFollows (s.failsafeEntry cause).1 := by
  rw [statFollows_iff, State.failsafeEntry_statView, hl]
  rfl

/-- A part held reset or LOADING has STAT released (R162, R181). -/
theorem State.quieted_statFollows (s : State) : StatFollows s.quieted := (statFollows_iff _).2 rfl

theorem State.coldBegun_statFollows (s : State) (cause : StartCause) : StatFollows (s.coldBegun cause) :=
  s.quieted_statFollows

theorem State.resetBegun_statFollows (s : State) : StatFollows s.resetBegun := s.cutStore.quieted_statFollows

theorem coldSupervision_stat (m : StartMode) : (coldSupervision m).stat = ((coldSupervision m).state != .normal) := by
  cases m <;> rfl

/-- A cold start sets STAT with the supervision state that START_MODE names (R125). -/
theorem State.coldEnded_statFollows (s : State) : StatFollows s.coldEnded := by
  simp only [statFollows_iff, State.coldEnded, State.settle_statView, State.recordStart_statView,
    State.restartSilence_statView]
  exact coldSupervision_stat s.active.settings.startMode

theorem State.warmSupervision_stat (s : State) : s.warmSupervision.stat = (s.warmSupervision.state != .normal) := by
  unfold State.warmSupervision
  split
  · rename_i hnormal
    simp [hnormal]
  · rfl

/-- A warm start releases STAT in NORMAL and asserts it in FAILSAFE_HELD (R126). -/
theorem State.warmStart_statFollows (s : State) : StatFollows s.warmStart := by
  simp only [statFollows_iff, State.warmStart, State.settle_statView, State.recordStart_statView,
    State.restartSilence_statView]
  exact s.warmSupervision_stat

theorem State.transmitted_statFollows {s : State} (i : OutItem) (h : StatFollows s) :
    StatFollows (s.transmitted i) := by
  unfold State.transmitted
  generalize hu : ((((s.itemGone).release i.note).promote).rateChange i.note).startSpacing = u
  have hview : u.statView = s.statView := by simp [← hu]
  unfold State.restarted
  split
  · exact u.warmStart_statFollows
  · exact u.coldBegun_statFollows .mgmtCold
  · exact h.of_statView hview

/-! ### Outcomes -/

/-- The next state of an outcome, where it has one, has the property. -/
def NextHas (p : State → Prop) : Effect → Prop
  | .next t => p t
  | .fault _ => True
  | .refused _ => True

theorem NextHas.holds {p : State → Prop} {e : Effect} {t : State} (h : NextHas p e) (ht : e = .next t) : p t := by
  subst ht
  exact h

/-- An outcome behind a condition without which the command is refused. -/
theorem NextHas.guarded {p : State → Prop} {c : Prop} [Decidable c] {e : Effect} {r : Refusal} (h : c → NextHas p e) :
    NextHas p (if c then e else .refused r) := by
  split
  · exact h ‹_›
  · trivial

/-- An outcome whose next state, where it has one, has the view of `s`. -/
def KeepsView (s : State) : Effect → Prop := NextHas fun t => t.statView = s.statView

theorem KeepsView.statFollows {s : State} {e : Effect} (h : KeepsView s e) (hs : StatFollows s) :
    NextHas StatFollows e := by
  cases e with
  | next t => exact hs.of_statView h
  | fault _ => trivial
  | refused _ => trivial

/-! ### Events of the lines and timers -/

theorem execEndOfTransmission_keepsStat {s : State} (h : StatFollows s) :
    NextHas StatFollows (execEndOfTransmission s) := by
  refine NextHas.guarded fun _ => ?_
  split
  · exact State.transmitted_statFollows _ h
  · trivial

theorem execEndOfSpacing_keepsView (s : State) : KeepsView s (execEndOfSpacing s) := by
  refine NextHas.guarded fun _ => ?_
  split
  · rfl
  · trivial

theorem execGuardComplete_keepsView (b : BranchId) (s : State) : KeepsView s (execGuardComplete b s) := by
  refine NextHas.guarded fun _ => NextHas.guarded fun _ => ?_
  split
  · trivial
  · split
    · trivial
    · exact s.countAttempt_statView _

theorem execBranchEndOfSending_keepsView (b : BranchId) (s : State) : KeepsView s (execBranchEndOfSending b s) := by
  refine NextHas.guarded fun _ => NextHas.guarded fun _ => ?_
  split
  · exact State.shareSent_statView _ b _
  · rfl
  · trivial

theorem execReplyDeadlineExpiry_keepsView (b : BranchId) (s : State) : KeepsView s (execReplyDeadlineExpiry b s) := by
  refine NextHas.guarded fun _ => NextHas.guarded fun _ => ?_
  split
  · exact s.attemptFails_statView b .silent
  · rfl

theorem execSlotDue_keepsView (a : Octet) (s : State) : KeepsView s (execSlotDue a s) := by
  refine NextHas.guarded fun _ => ?_
  split
  · trivial
  · exact NextHas.guarded fun _ => State.settle_statView _

theorem execRefillExpiry_keepsView (a : Octet) (s : State) : KeepsView s (execRefillExpiry a s) := by
  refine NextHas.guarded fun _ => ?_
  split
  · exact NextHas.guarded fun _ => s.updateTokens_statView a _
  · trivial

theorem execSilenceExpiry_keepsStat (s : State) : NextHas StatFollows (execSilenceExpiry s) :=
  NextHas.guarded fun hl => NextHas.guarded fun _ =>
    (s.failsafeEntry_statFollows .silence hl).of_statView (by simp)

/-! ### Ends of store operations, starts and resets -/

@[simp] theorem State.workingDone_statView (s : State) (r : Result) (image : Nat) :
    (s.workingDone r image).statView = s.statView := by
  unfold State.workingDone
  split
  · rfl
  · exact State.completeAll_statView _ _

theorem execEndOfSave_keepsView (verified : Bool) (s : State) : KeepsView s (execEndOfSave verified s) := by
  refine NextHas.guarded fun _ => ?_
  split
  · exact State.workingDone_statView _ _ _
  · trivial

theorem execEndOfRetire_keepsView (s : State) : KeepsView s (execEndOfRetire s) := by
  refine NextHas.guarded fun _ => ?_
  split
  · exact State.workingDone_statView _ _ _
  · trivial

theorem execPower_keepsStat {s : State} (h : StatFollows s) : NextHas StatFollows (execPower s) := by
  refine NextHas.guarded fun _ => ?_
  split
  · exact h
  · exact State.coldBegun_statFollows _ .power

theorem execRstnRelease_keepsStat {s : State} (h : StatFollows s) : NextHas StatFollows (execRstnRelease s) := by
  refine NextHas.guarded fun _ => ?_
  split
  · exact h
  · exact State.coldBegun_statFollows _ .line

theorem execSupplyFall_keepsStat (s : State) : NextHas StatFollows (execSupplyFall s) := by
  unfold execSupplyFall
  split
  · trivial
  · exact State.resetBegun_statFollows _

theorem execRstnLow_keepsStat (s : State) : NextHas StatFollows (execRstnLow s) := by
  unfold execRstnLow
  split
  · trivial
  · exact State.resetBegun_statFollows _

/-! ### The take -/

theorem State.live_of_takeReady {s : State} {slot : Nat} (h : s.takeReady = some slot) : s.live = true := by
  by_contra hl
  simp [State.takeReady, hl] at h

/-- The action keeps STAT right in a live part, where alone a take comes about. -/
def ActionKeepsStat (act : TakeAction) : Prop :=
  ∀ slot args s, s.live = true → StatFollows s → StatFollows (act slot args s).1

theorem takeHead_keepsStat {act : TakeAction} (hact : ActionKeepsStat act) (named : List Octet → Bool) {s : State}
    (h : StatFollows s) : NextHas StatFollows (takeHead named act s) := by
  unfold takeHead
  split
  · trivial
  · rename_i slot hready
    split
    · trivial
    · rename_i e _
      have hl : s.live = true := State.live_of_takeReady hready
      have hacted : StatFollows (act slot e.payload.tail s.headTaken).1 := hact _ _ s.headTaken hl h
      exact NextHas.guarded fun _ => hacted.of_statView (by simp)

theorem State.sampleCfgen_statView (s : State) : s.sampleCfgen.2.statView = s.statView := by
  unfold State.sampleCfgen
  split <;> rfl

/-- The early checks of a take touch nothing of the view (R140, R142). -/
theorem guardedAction_keepsStat {act : TakeAction} (hact : ActionKeepsStat act) (op : Op) :
    ActionKeepsStat (guardedAction op act) := by
  intro slot args s hl h
  unfold guardedAction
  split
  · exact h
  · split
    · have hview := s.sampleCfgen_statView
      have hsampled : StatFollows s.sampleCfgen.2 := h.of_statView hview
      dsimp only
      split
      · exact hact slot args _ ((congrArg StatView.live hview).trans hl) hsampled
      · exact hsampled
    · exact hact slot args s hl h

theorem takeOp_keepsStat (op : Op) {act : TakeAction} (hact : ActionKeepsStat act) {s : State} (h : StatFollows s) :
    NextHas StatFollows (takeOp op act s) :=
  takeHead_keepsStat (guardedAction_keepsStat hact op) _ h

/-- The operation leaves the view as it is. -/
def ReplyKeepsView (f : List Octet → State → Reply) : Prop := ∀ args s, (f args s).state.statView = s.statView

theorem ReplyKeepsView.takeOp {f : List Octet → State → Reply} (hf : ReplyKeepsView f) (op : Op) {s : State}
    (h : StatFollows s) : NextHas StatFollows (takeOp op (oneStep op f) s) :=
  takeOp_keepsStat op (fun _ args u _ hu => hu.of_statView (hf args u)) h

theorem badOperationAction_keepsStat (payload : List Octet) : ActionKeepsStat (badOperationAction payload) := by
  intro slot args s _ h
  cases payload <;> exact h

/-! ### Operations that leave the view as it is -/

theorem getIdentity_keepsView : ReplyKeepsView getIdentity := by
  intro args s
  cases args <;> rfl

theorem getStartRecord_keepsView : ReplyKeepsView getStartRecord := by
  intro args s
  cases args <;> rfl

theorem getStore_keepsView : ReplyKeepsView getStore := by
  intro args s
  cases args <;> rfl

theorem revertShadow_keepsView : ReplyKeepsView revertShadow := by
  intro args s
  cases args <;> rfl

theorem clearShadow_keepsView : ReplyKeepsView clearShadow := by
  intro args s
  cases args <;> rfl

theorem getSettings_keepsView : ReplyKeepsView getSettings := by
  intro args s
  unfold getSettings
  (repeat' split) <;> rfl

theorem putSettings_keepsView : ReplyKeepsView putSettings := by
  intro args s
  unfold putSettings
  split <;> rfl

theorem getStation_keepsView : ReplyKeepsView getStation := by
  intro args s
  unfold getStation
  (repeat' split) <;> rfl

theorem putStation_keepsView : ReplyKeepsView putStation := by
  intro args s
  unfold putStation
  (repeat' split) <;> rfl

theorem dropStation_keepsView : ReplyKeepsView dropStation := by
  intro args s
  rw [dropStation_state]
  rfl

theorem listStations_keepsView : ReplyKeepsView listStations := by
  intro args s
  unfold listStations
  (repeat' split) <;> rfl

theorem getChanges_keepsView : ReplyKeepsView getChanges := by
  intro args s
  unfold getChanges
  (repeat' split) <;> rfl

theorem peekStatus_keepsView : ReplyKeepsView peekStatus := by
  intro args s
  unfold peekStatus
  (repeat' split) <;> rfl

theorem getCounters_keepsView : ReplyKeepsView getCounters := by
  intro args s
  unfold getCounters
  (repeat' split) <;> rfl

theorem State.clearGroup_statView (s : State) (g : CounterGroup) : (s.clearGroup g).statView = s.statView := by
  cases g with
  | all =>
    have hbranches : (BranchId.all.foldl State.clearBranch s).statView = s.statView :=
      foldl_statView State.clearBranch_statView BranchId.all s
    rw [State.clearGroup, State.clearTxn_statView, State.clearUp_statView, hbranches]
  | upstream => exact s.clearUp_statView
  | branch b => exact s.clearBranch_statView b
  | transactions => exact s.clearTxn_statView

theorem clearCounters_keepsView : ReplyKeepsView clearCounters := by
  intro args s
  unfold clearCounters
  split
  · split
    · rfl
    · exact s.clearGroup_statView _
  · rfl

theorem getBranch_keepsView : ReplyKeepsView getBranch := by
  intro args s
  unfold getBranch
  (repeat' split) <;> rfl

theorem getTransactions_keepsView : ReplyKeepsView getTransactions := by
  intro args s
  unfold getTransactions
  (repeat' split) <;> rfl

theorem getFailsafeReport_keepsView : ReplyKeepsView getFailsafeReport := by
  intro args s
  unfold getFailsafeReport
  split <;> rfl

/-! ### Operations with actions of their own -/

theorem commitAction_keepsStat : ActionKeepsStat commitAction := by
  intro slot args s _ h
  unfold commitAction
  split
  · exact h
  · split
    · exact h
    · split
      · exact h
      · exact h.of_statView (by simp)

theorem saveImageAction_keepsStat : ActionKeepsStat saveImageAction := by
  intro slot args s _ h
  unfold saveImageAction
  (repeat' split) <;> exact h

theorem retireImageAction_keepsStat : ActionKeepsStat retireImageAction := by
  intro slot args s _ h
  unfold retireImageAction
  (repeat' split) <;> exact h

/-- RESUME goes to NORMAL with STAT released (R121). -/
theorem resume_keepsStat : ActionKeepsStat (oneStep .resume resume) := by
  intro slot args s _ h
  show StatFollows (resume args s).state
  unfold resume
  split
  · split
    · rw [statFollows_iff]
      exact (Bool.and_false s.live).symm
    · exact h
    · exact h
  · exact h

theorem forceFailsafeAction_keepsStat : ActionKeepsStat forceFailsafeAction := by
  intro slot args s hl h
  unfold forceFailsafeAction
  split
  · exact h
  · split
    · exact (s.failsafeEntry_statFollows .forced hl).of_statView (by simp)
    · exact h

/-- RESTART_PENDING, which a live part enters, is live too (R165). -/
theorem restart_keepsStat : ActionKeepsStat (oneStep .restart restart) := by
  intro slot args s hl h
  show StatFollows (restart args s).state
  unfold restart
  split
  · split
    · exact h
    · split
      · exact h
      · refine h.of_statView ?_
        show StatView.mk true _ _ = StatView.mk s.live _ _
        rw [hl]
        rfl
  · exact h

/-! ### Every command and every step -/

theorem exec_keepsStat (i : Instr) {s : State} (h : StatFollows s) : NextHas StatFollows (exec i s) := by
  cases i with
  | validIn o | upstreamCheck o | upstreamLength o | upstreamNoise o | upstreamFrameOctet o =>
    exact h.of_statView (s.upstreamOctet_statView o)
  | upstreamGap => exact NextHas.guarded fun _ => h
  | endOfTransmission => exact execEndOfTransmission_keepsStat h
  | endOfSpacing => exact (execEndOfSpacing_keepsView s).statFollows h
  | guardComplete b => exact (execGuardComplete_keepsView b s).statFollows h
  | branchOctet b o | branchFrameOctet b o | branchFrameValid b o | branchFrameCheck b o | branchFrameLength b o =>
    exact h.of_statView (s.octetOn_statView b o)
  | branchGap b => exact NextHas.guarded fun _ => h.of_statView (s.gapOn_statView b)
  | guardQuietWaitExpiry b => exact NextHas.guarded fun _ => NextHas.guarded fun _ => h
  | branchEndOfSending b => exact (execBranchEndOfSending_keepsView b s).statFollows h
  | replyDeadlineExpiry b => exact (execReplyDeadlineExpiry_keepsView b s).statFollows h
  | probeTimerExpiry b => exact NextHas.guarded fun _ => NextHas.guarded fun _ => h
  | probeQuietEnd b => exact NextHas.guarded fun _ => NextHas.guarded fun _ => h.of_statView (State.settle_statView _)
  | slotDue a => exact (execSlotDue_keepsView a s).statFollows h
  | refillExpiry a => exact (execRefillExpiry_keepsView a s).statFollows h
  | silenceExpiry => exact execSilenceExpiry_keepsStat s
  | endOfSave verified => exact (execEndOfSave_keepsView verified s).statFollows h
  | endOfRetire => exact (execEndOfRetire_keepsView s).statFollows h
  | power => exact execPower_keepsStat h
  | supplyFall => exact execSupplyFall_keepsStat s
  | rstnLow => exact execRstnLow_keepsStat s
  | rstnRelease => exact execRstnRelease_keepsStat h
  | endOfLoading => exact NextHas.guarded fun _ => s.coldEnded_statFollows
  | cfgenChange => exact h
  | badOperation => exact takeHead_keepsStat (badOperationAction_keepsStat _) _ h
  | getIdentity => exact getIdentity_keepsView.takeOp _ h
  | getStartRecord => exact getStartRecord_keepsView.takeOp _ h
  | getSettings => exact getSettings_keepsView.takeOp _ h
  | putSettings => exact putSettings_keepsView.takeOp _ h
  | getStation => exact getStation_keepsView.takeOp _ h
  | putStation => exact putStation_keepsView.takeOp _ h
  | dropStation => exact dropStation_keepsView.takeOp _ h
  | listStations => exact listStations_keepsView.takeOp _ h
  | revertShadow => exact revertShadow_keepsView.takeOp _ h
  | clearShadow => exact clearShadow_keepsView.takeOp _ h
  | commit => exact takeOp_keepsStat _ commitAction_keepsStat h
  | getChanges => exact getChanges_keepsView.takeOp _ h
  | peekStatus => exact peekStatus_keepsView.takeOp _ h
  | getCounters => exact getCounters_keepsView.takeOp _ h
  | clearCounters => exact clearCounters_keepsView.takeOp _ h
  | getBranch => exact getBranch_keepsView.takeOp _ h
  | getTransactions => exact getTransactions_keepsView.takeOp _ h
  | saveImage => exact takeOp_keepsStat _ saveImageAction_keepsStat h
  | retireImage => exact takeOp_keepsStat _ retireImageAction_keepsStat h
  | getStore => exact getStore_keepsView.takeOp _ h
  | resume => exact takeOp_keepsStat _ resume_keepsStat h
  | forceFailsafe => exact takeOp_keepsStat _ forceFailsafeAction_keepsStat h
  | getFailsafeReport => exact getFailsafeReport_keepsView.takeOp _ h
  | restart => exact takeOp_keepsStat _ restart_keepsStat h

theorem State.startBit_statView (s : State) (l : Option BranchId) : (s.startBit l).statView = s.statView := by
  rw [State.startBit_frame]
  rfl

theorem State.tick_statView (s : State) : s.tick.statView = s.statView := by
  unfold State.tick
  dsimp only
  split <;> rfl

theorem State.nextDue_statView (s : State) : s.nextDue.2.statView = s.statView := by
  obtain ⟨-, hsame | hdrawn⟩ := s.nextDue_mem
  · rw [hsame]
  · rw [hdrawn, State.drawn_statView]

theorem step_keepsStat {s : State} (h : StatFollows s) : NextHas StatFollows (step s) := by
  unfold step
  split
  · exact exec_keepsStat _ h
  · have hdue : StatFollows s.nextDue.2 := h.of_statView s.nextDue_statView
    split <;> rename_i hnext <;> rw [hnext] at hdue
    · exact exec_keepsStat _ hdue
    · exact hdue.of_statView (State.startBit_statView _ _)
    · exact hdue.of_statView (State.tick_statView _)
    · exact hdue

/-- Settles O53: the step's command, or the part's own time, keeps the equation of the view. -/
theorem stepsKeepStat : Obligations.StepsKeepStat :=
  fun _ _ h ht => (step_keepsStat h).holds ht

end Sys2Proof.Machine
end

section
/-! PROOFS. The counter groups (R149, R150): GET COUNTERS, and CLEAR COUNTERS, which unlike the operations that act apart from the
agent writes in the transaction table: its counters, never its entries. -/

namespace Sys2Proof.Machine

/-! ### The groups -/

theorem CounterGroup.ofOctet?_branch {g : Octet} {b : BranchId} (h : g.toNat = b.toNat + 1) :
    CounterGroup.ofOctet? g = some (.branch b) := by
  have hg : g = BitVec.ofNat 8 (b.toNat + 1) := by rw [← h, BitVec.ofNat_toNat, BitVec.setWidth_eq]
  subst hg
  cases b <;> rfl

/-- Above TRANSACTIONS there is but ALL (R150). -/
theorem CounterGroup.ofOctet?_none {g : Octet} (h : 5 < g.toNat) (hall : g ≠ 0xFF#8) : CounterGroup.ofOctet? g = none := by
  have hne (o : Octet) (ho : o.toNat ≤ 5) : g ≠ o := by
    rintro rfl
    exact absurd h (Nat.not_lt.2 ho)
  simp only [ofOctet?, hne 0x00#8 (by decide), hne 0x01#8 (by decide), hne 0x02#8 (by decide), hne 0x03#8 (by decide),
    hne 0x04#8 (by decide), hne 0x05#8 (by decide), hall, if_false]

/-- The values of a group as octets, high-order octet first (R149, R170). -/
theorem flatMap_wordOct (ws : List Word16) :
    ws.flatMap wordOct = ws.flatMap fun w => [w.extractLsb' 8 8, w.extractLsb' 0 8] := by
  rw [funext wordOct_eq]

theorem State.groupValues_headTaken (s : State) (group : CounterGroup) :
    s.headTaken.groupValues group = s.groupValues group := by
  cases group <;> rfl

theorem State.clearGroup_headTaken (s : State) (group : CounterGroup) :
    s.headTaken.clearGroup group = (s.clearGroup group).headTaken := by
  cases group <;> rfl

theorem State.clearGroup_entries (s : State) (group : CounterGroup) :
    (s.clearGroup group).table.entries = s.table.entries := by
  cases group <;> rfl

/-- ALL is the groups UPSTREAM, BRANCH 0 to 3 and TRANSACTIONS, each at 0 (R150). -/
theorem State.clearGroup_all (s : State) :
    let zeroed (b : BranchId) : Branch := { s.branch b with counters := BranchCounters.zero }
    s.clearGroup .all = { s with
      up := { s.up with counters := UpCounters.zero }
      table := { s.table with counters := TxnCounters.zero }
      branches := ⟨zeroed .b0, zeroed .b1, zeroed .b2, zeroed .b3⟩ } := by
  simp only [State.clearGroup, BranchId.all, List.foldl_cons, List.foldl_nil, State.clearBranch, State.setBranch, State.branch,
    Quad.set, Quad.get, State.clearUp, State.clearTxn]

/-! ### GET COUNTERS -/

theorem getCounters_of_group {g : Octet} {group : CounterGroup} (s : State) (h : CounterGroup.ofOctet? g = some group)
    (hall : group ≠ .all) :
    getCounters [g] s =
      okData (g :: (s.groupValues group).flatMap fun w => [w.extractLsb' 8 8, w.extractLsb' 0 8]) s := by
  rw [← flatMap_wordOct]
  cases group with
  | all => exact absurd rfl hall
  | _ => simp only [getCounters, h]

/-- GET COUNTERS refuses ALL with the octets that name no group (R149). -/
theorem getCounters_above {g : Octet} (s : State) (h : 5 < g.toNat) : getCounters [g] s = badArgument s := by
  by_cases hall : g = 0xFF#8
  · rw [hall]
    rfl
  · simp only [getCounters, CounterGroup.ofOctet?_none h hall]

theorem getCounters_badLength {args : List Octet} (s : State) (h : args.length ≠ 1) : getCounters args s = badArgument s := by
  match args, h with
  | [], _ => rfl
  | [_], h => exact absurd rfl h
  | _ :: _ :: _, _ => rfl

theorem getCounters_actsApart : ActsApart getCounters where
  headTaken args s := by
    unfold getCounters
    simp only [State.groupValues_headTaken]
    split
    · split <;> rfl
    · rfl
  table args s := by
    unfold getCounters
    split
    · split <;> rfl
    · rfl

theorem getCounters_answers {s : State} {slot : Nat} {e : Entry} {args : List Octet} (h : Takes s slot e (0x0E#8 :: args)) :
    ∃ t, exec .getCounters s = .next t ∧ AnswersBy s t slot e .getCounters (getCounters args s) :=
  answersBy_of_takes .getCounters getCounters_actsApart h (fun hl => nomatch hl) rfl

/-! ### CLEAR COUNTERS -/

theorem clearCounters_of_group {g : Octet} {group : CounterGroup} (s : State) (h : CounterGroup.ofOctet? g = some group) :
    clearCounters [g] s =
      okData (g :: (s.groupValues group).flatMap fun w => [w.extractLsb' 8 8, w.extractLsb' 0 8]) (s.clearGroup group) := by
  rw [← flatMap_wordOct]
  simp only [clearCounters, h]

theorem clearCounters_noGroup {g : Octet} (s : State) (h : CounterGroup.ofOctet? g = none) :
    clearCounters [g] s = badArgument s := by
  simp only [clearCounters, h]

theorem clearCounters_badLength {args : List Octet} (s : State) (h : args.length ≠ 1) :
    clearCounters args s = badArgument s := by
  match args, h with
  | [], _ => rfl
  | [_], h => exact absurd rfl h
  | _ :: _ :: _, _ => rfl

/-- The clearing does not see that the take has shortened the agent queue. -/
theorem clearCounters_headTaken (args : List Octet) (s : State) :
    clearCounters args s.headTaken = { clearCounters args s with state := (clearCounters args s).state.headTaken } := by
  unfold clearCounters
  simp only [State.groupValues_headTaken, State.clearGroup_headTaken]
  split
  · split <;> rfl
  · rfl

theorem clearCounters_entries (args : List Octet) (s : State) :
    (clearCounters args s).state.table.entries = s.table.entries := by
  unfold clearCounters
  split
  · split
    · rfl
    · exact s.clearGroup_entries _
  · rfl

/-- The entry of CLEAR COUNTERS completes in the state that the clearing has left, so that MANAGED counts it after the clearing
(R150). -/
theorem clearCounters_answers {s : State} {slot : Nat} {e : Entry} {args : List Octet}
    (h : Takes s slot e (0x0F#8 :: args)) :
    ∃ t, exec .clearCounters s = .next t ∧ AnswersBy s t slot e .clearCounters (clearCounters args s) := by
  have happly := clearCounters_headTaken args s
  obtain ⟨t, ht, ha⟩ := answers_of_takeOp .clearCounters clearCounters h (fun hl => nomatch hl) (fun hb => nomatch hb)
    (clearCounters args s).state (by rw [happly]) (clearCounters_entries args s) (clearCounters args s).result
    (clearCounters args s).data (by rw [happly]) (by rw [happly])
  rw [releaseNote_managed h.slot_eq (by decide) (.inl (by decide))] at ha
  exact ⟨t, ht, ha⟩

/-! ### The statement -/

/-- Settles O42: each operation answers by its meaning on the state before the take, and the group that the argument names, if
any, says what that is. -/
theorem countersAreReadAndCleared : Obligations.CountersAreReadAndCleared := by
  refine fun s slot e g => ⟨fun h => ?_, fun h => ?_, fun op c args hmem hlen h => ?_⟩
  · obtain ⟨t, ht, ha⟩ := getCounters_answers h
    refine ⟨t, ht, ?_, fun b hb => ?_, ?_, fun habove => ?_⟩
    · rintro rfl
      rw [getCounters_of_group (group := .upstream) s rfl nofun] at ha
      exact ha
    · rw [getCounters_of_group s (CounterGroup.ofOctet?_branch hb) nofun] at ha
      exact ha
    · rintro rfl
      rw [getCounters_of_group (group := .transactions) s rfl nofun] at ha
      exact ha
    · rw [getCounters_above s habove] at ha
      exact ha
  · obtain ⟨t, ht, ha⟩ := clearCounters_answers h
    refine ⟨t, ht, ?_, fun b hb => ?_, ?_, ?_, fun habove hall => ?_⟩
    · rintro rfl
      rw [clearCounters_of_group (group := .upstream) s rfl] at ha
      exact ha
    · rw [clearCounters_of_group s (CounterGroup.ofOctet?_branch hb)] at ha
      exact ha
    · rintro rfl
      rw [clearCounters_of_group (group := .transactions) s rfl] at ha
      exact ha
    · rintro rfl
      rw [clearCounters_of_group (group := .all) s rfl, State.clearGroup_all] at ha
      exact ha
    · rw [clearCounters_noGroup s (CounterGroup.ofOctet?_none habove hall)] at ha
      exact ha
  · simp only [List.mem_cons, List.not_mem_nil, or_false, Prod.mk.injEq] at hmem
    obtain ⟨rfl, rfl⟩ | ⟨rfl, rfl⟩ := hmem
    · obtain ⟨t, ht, ha⟩ := getCounters_answers h
      rw [getCounters_badLength s hlen] at ha
      exact ⟨t, ht, ha⟩
    · obtain ⟨t, ht, ha⟩ := clearCounters_answers h
      rw [clearCounters_badLength s hlen] at ha
      exact ⟨t, ht, ha⟩

end Sys2Proof.Machine
end

section
/-! PROOFS. Every event as a course of moves: single changes of the state, each with what must hold where it is made. A condition that
every move keeps is kept by every event; the case analysis over the commands is made here once. -/

namespace Sys2Proof.Machine

open Relation

/-! ### Moves of one branch -/

/-- Changes of one branch that leave its queue and its failsafe list alone and do not make it IDLE. -/
inductive BranchStep (live : Bool) (x : Branch) : Branch → Prop
  | receiver (r : Receiver) (h : r = .off ↔ x.rx = .off) : BranchStep live x { x with rx := r }
  | counters (c : BranchCounters) : BranchStep live x { x with counters := c }
  | phase (p : GuardPhase) : BranchStep live x { x with phase := p }
  | probeQuiet : BranchStep live x { x with probeQuiet := none }
  | probeBegun (c : BranchSettings) : BranchStep live x (x.probeBegun c)
  | interrupted (h : x.state = .guard) (hi : x.interrupts + 1 < 8) : BranchStep live x x.interrupted
  | guardAgain (c : BranchSettings) (h : x.state = .guard) : BranchStep live x (x.beginGuard c)
  | receives (h : x.state = .awaiting) : BranchStep live x { x with state := .receiving }
  | awaitsAgain (h : x.state = .receiving) : BranchStep live x { x with state := .awaiting }
  | deadlinePassed : BranchStep live x { x with deadlinePassed := true }
  | windowCloses (c : BranchCounters) :
      BranchStep live x { x with deadline := none, deadlinePassed := false, counters := c }
  | retries (c : BranchSettings) (h : x.state = .awaiting ∨ x.state = .receiving) (hb : x.bound.isSome = true)
      (hs : ∀ k, x.bound ≠ some (.share k)) (hm : x.finalMark = false) : BranchStep live x (x.beginGuard c)
  | sends (item : BoundItem) (f : Frame) (now : Millis) (hl : live = true) (h : x.state = .guard)
      (hb : x.bound = some item) : BranchStep live x (x.startSending item f now)
  | awaits (n : Nat) (hl : live = true) (h : x.state = .sending) (hb : x.bound.isSome = true) :
      BranchStep live x { x.stopSending with state := .awaiting, deadline := some n, deadlinePassed := false }
  | ticks (hl : live = true) : BranchStep live x x.tick

/-- What no event changes of an entry while it is occupied. -/
structure Entry.SameRequest (e e' : Entry) : Prop where
  slot : e'.slot = e.slot
  tag  : e'.tag = e.tag
  kind : e'.kind = e.kind

/-! ### Starts before their first picks -/

/-- The part at the end of LOADING, before the branches make their first picks (R164). -/
def State.coldStarted (s : State) : State :=
  State.recordStart (State.restartSilence
    { s with
      seq := { s.seq with run := .running }
      clock := { ms := 0#32, phase := 0 }
      tokens := fullTokens s.active
      table := startedTable TxnCounters.zero
      up := { rx := .outside, queue := [], tx := .idle, rate := s.active.settings.upRate, counters := UpCounters.zero }
      branches := startedBranches s.active (Quad.same BranchCounters.zero)
      scan := { slots := coldSlots s.active, changes := [] }
      sup := coldSupervision s.active.settings.startMode
      agent := startedAgent }) s.seq.cause s.seq.loaded

theorem State.coldEnded_eq (s : State) : s.coldEnded = s.coldStarted.settle := rfl

/-- The part at a warm start, before the branches make their first picks (R166). -/
def State.warmStarted (s : State) : State :=
  State.recordStart (State.restartSilence
    { s with
      seq := { s.seq with run := .running }
      clock := { ms := 0#32, phase := 0 }
      tokens := fullTokens s.active
      table := startedTable s.table.counters
      up := { rx := .outside, queue := [], tx := .spacing (spacingChars * s.active.settings.upRate.charPeriods)
              rate := s.active.settings.upRate, counters := s.up.counters }
      branches := startedBranches s.active (s.branches.map fun x => x.counters)
      scan := { s.scan with slots := s.scan.slots.map ScanSlot.warm }
      sup := s.warmSupervision
      agent := startedAgent }) .mgmtWarm none

theorem State.warmStart_eq (s : State) : s.warmStart = s.warmStarted.settle := rfl

/-- The end of a transmission but for the restart it may set off (R131). -/
def State.sent (s : State) (i : OutItem) : State :=
  ((((s.itemGone).release i.note).promote).rateChange i.note).startSpacing

theorem State.transmitted_eq (s : State) (i : OutItem) : s.transmitted i = (s.sent i).restarted i.note := rfl

/-! ### Moves of the part -/

/-- Moves after which no arbiter has to run: none gives an IDLE branch a claimant. -/
inductive Calm : State → State → Prop
  | drawn (s : State) : Calm s s.drawn
  | completes (s : State) (k : Nat) (f : Form) : Calm s (s.complete k f)
  | editsEntry (s : State) (k : Nat) (f : Entry → Entry) (h : ∀ e : Entry, e.SameRequest (f e)) : Calm s (s.updateEntry k f)
  | countsTxn (s : State) (c : TxnCounters) : Calm s { s with table := { s.table with counters := c } }
  | allocates (s : State) (e : Entry) (hs : s.table.slotFree e.slot = true) (hl : e.slot < 24)
      (ht : s.table.tagHeld e.tag = false) (hk : s.sup.state ≠ .normal → e.kind ≠ .write ∧ e.kind ≠ .command) :
      Calm s (s.allocate e)
  | refuses (s : State) (f : Frame) (r : RefusalReason) : Calm s (s.refuse f r)
  | countsUp (s : State) (f : UpCounters → UpCounters) : Calm s (s.countUp f)
  | upReceiver (s : State) (r : Receiver) : Calm s (s.setUpRx r)
  | headBegins (s : State) (h : s.up.tx = .spacing 0) : Calm s { s with up := s.up.beginHead }
  | agent (s : State) (a : Agent) (h : a.queue.length ≤ s.agent.queue.length ∨ a.queue.length ≤ 4) :
      Calm s { s with agent := a }
  | silence (s : State) (n : Option Nat) : Calm s { s with sup := { s.sup with silence := n } }
  | report (s : State) (ls : List ReportLine) : Calm s { s with sup := { s.sup with lines := ls } }
  | resumes (s : State) (h : s.sup.state = .failsafeHeld) :
      Calm s { s with sup := { s.sup with state := .normal, stat := false } }
  | takesToken (s : State) (r : StationRecord) (hr : s.active.record? r.addr = some r) : Calm s (s.takeToken r)
  | refills (s : State) (a : Octet) (b : Budget) (r : StationRecord) (hr : s.active.record? a = some r)
      (hb : r.budget = some b) : Calm s (s.updateTokens a fun t => t.refilled b)
  | collects (s : State) (n : Nat) : Calm s { s with scan := s.scan.collect n }
  | branch (s : State) (b : BranchId) (y : Branch) (h : BranchStep s.live (s.branch b) y) : Calm s (s.setBranch b y)
  | shadow (s : State) (c : ConfigSet) (h : MapOrdered s.active → MapOrdered s.shadow → MapOrdered c) :
      Calm s { s with shadow := c }
  | saveBegins (s : State) (k : Nat) (hb : s.store.busy = .idle) (h : s.store.lowestBlank = some k) :
      Calm s { s with store := { s.store.update k (fun c => c.saveBegun s.active) with busy := .saving k } }
  | retireBegins (s : State) (k : Nat) (c : ImageSlot) (hb : s.store.busy = .idle) (h : s.store.slot? k = some c)
      (hc : c.state = .valid) : Calm s { s with store := { s.store with busy := .retiring k } }
  | saveEnds (s : State) (k : Nat) (v : Bool) (hb : s.store.busy = .saving k) :
      Calm s { s with store := { s.store.update k (fun c => c.saveEnded v) with busy := .idle } }
  | retireEnds (s : State) (k : Nat) (hb : s.store.busy = .retiring k) :
      Calm s { s with store := { s.store.update k ImageSlot.retireEnded with busy := .idle } }
  | restartPends (s : State) (h : s.live = true) : Calm s { s with seq := { s.seq with run := .restartPending } }
  | strap (s : State) (level : Bool) (age : Nat) : Calm s { s with pins := { s.pins with cfgen := level, cfgenAge := age } }
  | falls (s : State) (p : Pins) (h : p.supplyLow = true ∨ p.rstnLow = true) :
      Calm s { s with pins := p }.resetBegun
  | staysHeld (s : State) (p : Pins) (h : p.supplyLow = true ∨ p.rstnLow = true) : Calm s { s with pins := p }
  | coldBegins (s : State) (p : Pins) (cause : StartCause) : Calm s ({ s with pins := p }.coldBegun cause)
  | periodPasses (s : State) : Calm s s.tick

/-- Moves after which an IDLE branch may have a claimant, and the picks of the arbiters. -/
inductive Stir : State → State → Prop
  | picks (s : State) (b : BranchId) : Stir s (s.arbitrate b)
  | enqueues (s : State) (b : BranchId) (q : QueueItem) (h : (s.branch b).queue.length < 8)
      (hf : s.sup.state ≠ .normal → s.failsafeTakes q = false) : Stir s (s.enqueue b q)
  | records (s : State) (a : Octet) (w : Option Word16) (sent : Millis) : Stir s (s.recordPoll a w sent)
  | releasesPoll (s : State) (p : PollItem) : Stir s (s.pollReleased p)
  | slotsDue (s : State) : Stir s { s with scan := { s.scan with slots := s.scan.slots.map (ScanSlot.atCount s.clock.ms) } }
  | recovers (s : State) (b : BranchId) (h : (s.branch b).state = .fault) : Stir s (s.setBranch b (s.branch b).recovered)
  | shareEnds (s : State) (b : BranchId) (k : Nat) (hl : s.live = true) (h : (s.branch b).state = .sending)
      (hb : (s.branch b).bound = some (.share k)) :
      Stir s (s.setBranch b ((s.branch b).stopSending.released (s.branchSettings b).enabled))
  | leaves (s : State) (b : BranchId) (h : (s.branch b).state = .awaiting ∨ (s.branch b).state = .receiving) :
      Stir s (s.freeBranch b).heldIfDone
  | faults (s : State) (b : BranchId) (h : (s.branch b).state = .guard) (hi : 8 ≤ (s.branch b).interrupts + 1) :
      Stir s (s.setBranch b ((s.branch b).interrupted.faulted (s.branchSettings b).enabled)).heldIfDone
  | commits (s : State) (hl : s.live = true) (h : s.shadow.offence = none) : Stir s s.replaceActive.1
  | entersFailsafe (s : State) (cause : EntryCause) (hl : s.live = true) (h : s.sup.state = .normal) :
      Stir s (s.failsafeEntry cause).1
  | coldStarts (s : State) : Stir s s.coldStarted
  | warmStarts (s : State) (hl : s.live = true) : Stir s s.warmStarted

def Move (s t : State) : Prop := Calm s t ∨ Stir s t

/-- The moves of an event: calm ones alone, or any moves, then the arbiters of branches 0 to 3 (R68), then calm ones. -/
inductive Course (s t : State) : Prop
  | calm (h : ReflTransGen Calm s t)
  | settles (u : State) (h : ReflTransGen Move s u) (ht : ReflTransGen Calm u.settle t)

/-- An event begins with the end of a transmission, or at once (R131). -/
inductive Opening (s : State) : State → Prop
  | atOnce : Opening s s
  | sent (i : OutItem) (rest : List OutItem) (hl : s.live = true) (ht : s.up.tx = .sending 0) (hq : s.up.queue = i :: rest) :
      Opening s (s.sent i)

/-! ### Courses -/

theorem Course.refl (s : State) : Course s s := .calm .refl

theorem Course.of_calm {s t : State} (h : Calm s t) : Course s t := .calm (.single h)

theorem Course.trans_calm {s t u : State} (h : Course s t) (hc : ReflTransGen Calm t u) : Course s u := by
  cases h with
  | calm h => exact .calm (h.trans hc)
  | settles v h ht => exact .settles v h (ht.trans hc)

theorem move_of_calm {s t : State} (h : ReflTransGen Calm s t) : ReflTransGen Move s t := ReflTransGen.mono (p := Move) (fun _ _ => Or.inl) _ _ h

theorem Course.after_calm {s t u : State} (hc : ReflTransGen Calm s t) (h : Course t u) : Course s u := by
  cases h with
  | calm h => exact .calm (hc.trans h)
  | settles v h ht => exact .settles v ((move_of_calm hc).trans h) ht

theorem Course.settled {s u : State} (h : ReflTransGen Move s u) : Course s u.settle := .settles u h .refl

theorem reflTransGen_settle (s : State) : ReflTransGen Move s s.settle :=
  (((ReflTransGen.single (.inr (.picks s .b0))).tail (.inr (.picks _ .b1))).tail (.inr (.picks _ .b2))).tail (.inr (.picks _ .b3))

theorem Course.moves {s t : State} (h : Course s t) : ReflTransGen Move s t := by
  cases h with
  | calm h => exact move_of_calm h
  | settles u h ht => exact (h.trans (reflTransGen_settle u)).trans (move_of_calm ht)

/-- What every move keeps, every course keeps. -/
theorem Course.keeps {p : State → Prop} (hcalm : ∀ s t, Calm s t → p s → p t) (hstir : ∀ s t, Stir s t → p s → p t)
    {s t : State} (h : Course s t) (hs : p s) : p t := by
  replace h := h.moves
  induction h with
  | refl => exact hs
  | tail _ hmove ih => exact hmove.elim (fun h => hcalm _ _ h ih) (fun h => hstir _ _ h ih)

end Sys2Proof.Machine
end

section
/-! PROOFS. The course of every command: which moves its meaning is made of. -/

namespace Sys2Proof.Machine

open Relation

/-! ### Repeated calm moves -/

theorem foldl_calm {α : Type} {f : State → α → State} (hf : ∀ t a, ReflTransGen Calm t (f t a)) (l : List α) (s : State) :
    ReflTransGen Calm s (l.foldl f s) := by
  induction l generalizing s with
  | nil => exact .refl
  | cons a l ih => exact (hf s a).trans (ih _)

theorem State.completeAll_calm (s : State) (jobs : List Job) : ReflTransGen Calm s (s.completeAll jobs) :=
  foldl_calm (fun t (j : Job) => .single (.completes t j.slot j.form)) (s.sortJobs jobs) s

theorem Entry.moveNotSent_sameRequest (b : BranchId) (e : Entry) : e.SameRequest (e.moveNotSent b) := by
  unfold Entry.moveNotSent
  split
  · exact ⟨rfl, rfl, rfl⟩
  · split <;> exact ⟨rfl, rfl, rfl⟩

theorem Entry.moveSent_sameRequest (b : BranchId) (e : Entry) : e.SameRequest (e.moveSent b) := by
  unfold Entry.moveSent
  split
  · exact ⟨rfl, rfl, rfl⟩
  · split <;> exact ⟨rfl, rfl, rfl⟩

theorem State.shareAborted_calm (s : State) (b : BranchId) (k : Nat) : Calm s (s.shareAborted b k) :=
  .editsEntry s k _ (Entry.moveNotSent_sameRequest b)

theorem State.sharesAborted_calm (s : State) (b : BranchId) (ks : List Nat) : ReflTransGen Calm s (s.sharesAborted b ks) :=
  foldl_calm (fun t k => .single (t.shareAborted_calm b k)) ks s

theorem State.itemOutcome_calm (s : State) (f : FailsafeItem) (o : LineOutcome) : Calm s (s.itemOutcome f o) := .report s _

theorem State.itemsSkipped_calm (s : State) (fs : List FailsafeItem) : ReflTransGen Calm s (s.itemsSkipped fs) :=
  foldl_calm (fun t f => .single (t.itemOutcome_calm f .skipped)) fs s

theorem State.serveNext_calm (s : State) : ReflTransGen Calm s s.serveNext := by
  unfold State.serveNext
  split
  · exact .single (.agent s _ (.inl (Nat.le_refl _)))
  · exact .tail (.single (.agent s { s.agent with service := .serving (serviceTime s.free) } (.inl (Nat.le_refl _)))) (.drawn _)

/-! ### Changes that commute -/

theorem foldl_setBranch {α : Type} {f : State → α → State} (b : BranchId) (y : Branch)
    (hf : ∀ t a, f (t.setBranch b y) a = (f t a).setBranch b y) (l : List α) (s : State) :
    l.foldl f (s.setBranch b y) = (l.foldl f s).setBranch b y := by
  induction l generalizing s with
  | nil => rfl
  | cons a l ih => rw [List.foldl_cons, hf, ih, List.foldl_cons]

theorem State.sharesAborted_setBranch (s : State) (b c : BranchId) (y : Branch) (ks : List Nat) :
    (s.setBranch b y).sharesAborted c ks = (s.sharesAborted c ks).setBranch b y :=
  foldl_setBranch b y (fun _ _ => rfl) ks s

theorem State.itemsSkipped_setBranch (s : State) (b : BranchId) (y : Branch) (fs : List FailsafeItem) :
    (s.setBranch b y).itemsSkipped fs = (s.itemsSkipped fs).setBranch b y :=
  foldl_setBranch b y (fun _ _ => rfl) fs s

theorem State.pollReleased_setBranch (s : State) (b : BranchId) (y : Branch) (p : PollItem) :
    (s.setBranch b y).pollReleased p = (s.pollReleased p).setBranch b y := by
  unfold State.pollReleased
  split <;> rfl

theorem State.faultDisposal_setBranch (s : State) (b c : BranchId) (y : Branch) (i : Option BoundItem) :
    (s.setBranch b y).faultDisposal c i = (s.faultDisposal c i).setBranch b y := by
  unfold State.faultDisposal
  split
  · rfl
  · exact s.pollReleased_setBranch b y _
  · rfl
  · rfl

/-- The end of failsafe sending and a completion touch different blocks. -/
theorem State.complete_heldIfDone (s : State) (k : Nat) (f : Form) : s.heldIfDone.complete k f = (s.complete k f).heldIfDone := by
  have hsup : (s.complete k f).sup = s.sup := by rw [State.complete_frame]
  have hleft : (s.complete k f).failsafeLeft = s.failsafeLeft := by rw [State.complete_frame]; rfl
  unfold State.heldIfDone
  rw [hsup, hleft]
  split
  · unfold State.complete
    cases s.table.find? k with
    | none => rfl
    | some e =>
      dsimp only
      split
      · split <;> rfl
      · rfl
  · rfl

theorem State.completeEach_heldIfDone (jobs : List Job) (s : State) :
    s.heldIfDone.completeEach jobs = (s.completeEach jobs).heldIfDone := by
  unfold State.completeEach
  induction jobs generalizing s with
  | nil => rfl
  | cons j js ih => rw [List.foldl_cons, State.complete_heldIfDone, ih, List.foldl_cons]

theorem State.insertJob_congr {s t : State} (hc : t.clock = s.clock) (ht : t.table.entries = s.table.entries) (j : Job)
    (ks : List Job) : t.insertJob j ks = s.insertJob j ks := by
  have hage (k : Nat) : t.admissionAge k = s.admissionAge k := by
    unfold State.admissionAge
    rw [Table.find?_congr ht, hc]
  have hfirst (k : Job) : t.jobFirst j k = s.jobFirst j k := by simp [State.jobFirst, hage]
  induction ks with
  | nil => rfl
  | cons k ks ih => rw [State.insertJob, hfirst, ih, State.insertJob]

/-- The order of completions depends on the entries and the clock alone (R13). -/
theorem State.sortJobs_congr {s t : State} (hc : t.clock = s.clock) (ht : t.table.entries = s.table.entries) (jobs : List Job) :
    t.sortJobs jobs = s.sortJobs jobs := by
  unfold State.sortJobs
  rw [show t.insertJob = s.insertJob from funext fun j => funext fun ks => State.insertJob_congr hc ht j ks]

theorem State.heldIfDone_frame (s : State) : s.heldIfDone = { s with sup := s.heldIfDone.sup } := by
  unfold State.heldIfDone
  split <;> rfl

theorem State.completeAll_heldIfDone (s : State) (jobs : List Job) :
    s.heldIfDone.completeAll jobs = (s.completeAll jobs).heldIfDone := by
  have hsort : s.heldIfDone.sortJobs jobs = s.sortJobs jobs :=
    State.sortJobs_congr (by rw [State.heldIfDone_frame]) (by rw [State.heldIfDone_frame]) jobs
  rw [State.completeAll, hsort, State.completeEach_heldIfDone]
  rfl

/-! ### The outcome of an attempt -/

theorem State.pollEnded_moves (s : State) (p : PollItem) (w : Option Word16) : ReflTransGen Move s (s.pollEnded p w) := by
  unfold State.pollEnded
  split
  · exact .single (.inr (.records s _ _ _))
  · exact .refl

theorem State.noteCause_calm (s : State) (c : Cause) (i : Option BoundItem) : ReflTransGen Calm s (s.noteCause c i) := by
  unfold State.noteCause
  split
  · exact .single (.editsEntry s _ _ fun _ => ⟨rfl, rfl, rfl⟩)
  · exact .refl

theorem State.failureOutcome_moves (s : State) (i : Option BoundItem) : ReflTransGen Move s (s.failureOutcome i) := by
  unfold State.failureOutcome
  split
  · exact .single (.inl (.completes s _ _))
  · exact s.pollEnded_moves _ _
  · exact .single (.inl (s.itemOutcome_calm _ _))
  · exact .refl

theorem State.successOutcome_moves (s : State) (payload : List Octet) (i : Option BoundItem) :
    ReflTransGen Move s (s.successOutcome payload i) := by
  unfold State.successOutcome
  split
  · exact .single (.inl (.completes s _ _))
  · split
    · exact s.pollEnded_moves _ _
    · exact .refl
  · exact .single (.inl (s.itemOutcome_calm _ _))
  · exact .refl

theorem State.recordPoll_branches' (s : State) (p : PollItem) (w : Option Word16) : (s.pollEnded p w).branches = s.branches := by
  unfold State.pollEnded
  split <;> rfl

@[simp] theorem State.complete_branches (s : State) (k : Nat) (f : Form) : (s.complete k f).branches = s.branches := by
  rw [State.complete_frame]

@[simp] theorem State.failureOutcome_branches (s : State) (i : Option BoundItem) : (s.failureOutcome i).branches = s.branches := by
  unfold State.failureOutcome
  split
  · exact s.complete_branches _ _
  · exact s.recordPoll_branches' _ _
  · rfl
  · rfl

@[simp] theorem State.successOutcome_branches (s : State) (payload : List Octet) (i : Option BoundItem) :
    (s.successOutcome payload i).branches = s.branches := by
  unfold State.successOutcome
  split
  · exact s.complete_branches _ _
  · split
    · exact s.recordPoll_branches' _ _
    · rfl
  · rfl
  · rfl

@[simp] theorem State.noteCause_branches (s : State) (c : Cause) (i : Option BoundItem) : (s.noteCause c i).branches = s.branches := by
  unfold State.noteCause
  split <;> rfl

theorem State.branch_congr {s t : State} (h : t.branches = s.branches) (b : BranchId) : t.branch b = s.branch b := by
  rw [State.branch, h, State.branch]

/-- A retry needs a clear mark and a bound item that is no share (R82). -/
theorem State.bound_of_retryAllowed {s : State} {x : Branch} (h : s.retryAllowed x = true) :
    x.finalMark = false ∧ x.bound.isSome = true ∧ ∀ k, x.bound ≠ some (.share k) := by
  unfold State.retryAllowed at h
  cases hb : x.bound with
  | none => simp [hb] at h
  | some i => cases i <;> simp_all

theorem State.attemptFails_course (s : State) (b : BranchId) (c : Cause)
    (h : (s.branch b).state = .awaiting ∨ (s.branch b).state = .receiving) : Course s (s.attemptFails b c) := by
  unfold State.attemptFails
  extract_lets x closed s1
  have hx : (s.noteCause c x.bound).branch b = x := State.branch_congr (s.noteCause_branches c x.bound) b
  have hclosed : Calm (s.noteCause c x.bound) s1 := by
    refine .branch _ b closed ?_
    rw [hx]
    exact .windowCloses _
  have hs1 : ReflTransGen Calm s s1 := (s.noteCause_calm c x.bound).tail hclosed
  have hb1 : s1.branch b = closed := State.branch_setBranch_self _ b closed
  split
  · rename_i hretry
    obtain ⟨hmark, hbound, hshare⟩ := State.bound_of_retryAllowed hretry
    refine .calm (hs1.tail (.branch s1 b _ ?_))
    rw [hb1]
    exact .retries _ h hbound hshare hmark
  · have hout : (s1.failureOutcome x.bound).branch b = closed :=
      (State.branch_congr (s1.failureOutcome_branches x.bound) b).trans hb1
    exact .settled (((move_of_calm hs1).trans (s1.failureOutcome_moves x.bound)).tail
      (.inr (.leaves _ b (by rw [hout]; exact h))))

theorem State.attemptSucceeds_course (s : State) (b : BranchId) (payload : List Octet)
    (h : (s.branch b).state = .awaiting ∨ (s.branch b).state = .receiving) : Course s (s.attemptSucceeds b payload) := by
  unfold State.attemptSucceeds
  extract_lets x c counted
  have hs1 : ReflTransGen Move s (s.setBranch b counted) := .single (.inl (.branch s b counted (.counters _)))
  have hout : ((s.setBranch b counted).successOutcome payload x.bound).branch b = counted :=
    (State.branch_congr ((s.setBranch b counted).successOutcome_branches payload x.bound) b).trans
      (State.branch_setBranch_self _ b counted)
  exact .settled ((hs1.trans (State.successOutcome_moves _ payload x.bound)).tail
    (.inr (.leaves _ b (by rw [hout]; exact h))))

theorem State.countStray_calm (s : State) (b : BranchId) : Calm s (s.setBranch b (s.branch b).countStray) :=
  .branch s b _ (.counters _)

theorem State.replyReceived_course (s : State) (b : BranchId) (f : Frame) (h : (s.branch b).state = .receiving) :
    Course s (s.replyReceived b f) := by
  unfold State.replyReceived
  extract_lets x
  have hstray : (s.setBranch b x.countStray).branch b = x.countStray := State.branch_setBranch_self s b _
  split
  · split
    · exact s.attemptFails_course b _ (.inr h)
    · exact s.attemptSucceeds_course b _ (.inr h)
  · split
    · exact .after_calm (.single (s.countStray_calm b)) (State.attemptFails_course _ b _ (.inr (by rw [hstray]; exact h)))
    · refine .calm (.tail (.single (s.countStray_calm b)) ?_)
      have hagain : s.setBranch b { x.countStray with state := .awaiting }
          = (s.setBranch b x.countStray).setBranch b { x.countStray with state := .awaiting } := by simp
      rw [hagain]
      refine .branch _ b _ ?_
      rw [hstray]
      exact .awaitsAgain h

/-! ### Line fault -/

theorem State.faultDisposal_moves (s : State) (b : BranchId) (i : Option BoundItem) :
    ReflTransGen Move s (s.faultDisposal b i) := by
  unfold State.faultDisposal
  split
  · exact .single (.inl (s.shareAborted_calm b _))
  · exact .single (.inr (.releasesPoll s _))
  · exact .single (.inl (s.itemOutcome_calm _ _))
  · exact .refl

/-- What a fault event takes off the branch, before the branch itself changes (R85, R86). -/
def State.faultCleared (s : State) (b : BranchId) (x : Branch) : State :=
  ((s.faultDisposal b x.bound).sharesAborted b (shareSlots x.queue)).itemsSkipped x.failsafe

theorem State.faultCleared_moves (s : State) (b : BranchId) (x : Branch) : ReflTransGen Move s (s.faultCleared b x) :=
  (s.faultDisposal_moves b x.bound).trans (move_of_calm ((State.sharesAborted_calm _ b _).trans (State.itemsSkipped_calm _ _)))

theorem State.faultCleared_setBranch (s : State) (b c : BranchId) (x y : Branch) :
    (s.setBranch c y).faultCleared b x = (s.faultCleared b x).setBranch c y := by
  rw [State.faultCleared, State.faultDisposal_setBranch, State.sharesAborted_setBranch, State.itemsSkipped_setBranch]
  rfl

theorem foldl_frame {α β : Type} {f : State → α → State} {v : State → β} (hf : ∀ t a, v (f t a) = v t) (l : List α) (s : State) :
    v (l.foldl f s) = v s := by
  induction l generalizing s with
  | nil => rfl
  | cons a l ih => rw [List.foldl_cons, ih, hf]

theorem State.pollReleased_frame (s : State) (p : PollItem) : s.pollReleased p = { s with scan := (s.pollReleased p).scan } := by
  unfold State.pollReleased
  split <;> rfl

theorem State.sharesAborted_frame (ks : List Nat) (s : State) (b : BranchId) :
    s.sharesAborted b ks = { s with table := (s.sharesAborted b ks).table } := by
  unfold State.sharesAborted
  induction ks generalizing s with
  | nil => rfl
  | cons k ks ih => rw [List.foldl_cons, ih]; rfl

theorem State.itemsSkipped_frame (fs : List FailsafeItem) (s : State) :
    s.itemsSkipped fs = { s with sup := (s.itemsSkipped fs).sup } := by
  unfold State.itemsSkipped
  induction fs generalizing s with
  | nil => rfl
  | cons f fs ih => rw [List.foldl_cons, ih]; rfl

theorem State.faultDisposal_frame (s : State) (b : BranchId) (i : Option BoundItem) : s.faultDisposal b i =
    { s with table := (s.faultDisposal b i).table, scan := (s.faultDisposal b i).scan, sup := (s.faultDisposal b i).sup } := by
  unfold State.faultDisposal
  split
  · rfl
  · rw [State.pollReleased_frame]
  · rfl
  · rfl

/-- A fault event clears the items of its branch in the table, the slots and the report. -/
theorem State.faultCleared_frame (s : State) (b : BranchId) (x : Branch) : s.faultCleared b x =
    { s with table := (s.faultCleared b x).table, scan := (s.faultCleared b x).scan, sup := (s.faultCleared b x).sup } := by
  unfold State.faultCleared
  rw [State.itemsSkipped_frame, State.sharesAborted_frame, State.faultDisposal_frame]

theorem State.enterFault_eq (s : State) (b : BranchId) : s.enterFault b =
    (((s.faultCleared b (s.branch b)).setBranch b ((s.branch b).faulted (s.branchSettings b).enabled)).heldIfDone.completeAll
      (abortJobs .lineFault (boundStationSlots (s.branch b).bound ++ stationSlots (s.branch b).queue)
        ++ (s.faultCleared b (s.branch b)).doneJobs)).settle := by
  rw [State.completeAll_heldIfDone]
  rfl

/-- The interruption that brings FAULT, with the fault event (R73, R85). -/
theorem State.enterFault_course (s : State) (b : BranchId) (h : (s.branch b).state = .guard)
    (hi : 8 ≤ (s.branch b).interrupts + 1) : Course s ((s.setBranch b (s.branch b).interrupted).enterFault b) := by
  have hx : (s.faultCleared b (s.branch b).interrupted).branch b = s.branch b := by rw [State.faultCleared_frame]; rfl
  have hcfg : (s.faultCleared b (s.branch b).interrupted).branchSettings b = s.branchSettings b := by
    rw [State.faultCleared_frame]; rfl
  have hfault := Stir.faults (s.faultCleared b (s.branch b).interrupted) b (by rw [hx]; exact h) (by rw [hx]; exact hi)
  rw [State.enterFault_eq, State.branch_setBranch_self, State.faultCleared_setBranch, State.setBranch_setBranch]
  rw [hx, hcfg] at hfault
  exact .settled (((s.faultCleared_moves b _).tail (.inr hfault)).trans (move_of_calm (State.completeAll_calm _ _)))

theorem State.lineActivity_course (s : State) (b : BranchId) : Course s (s.lineActivity b) := by
  unfold State.lineActivity
  extract_lets x s1
  split
  · rename_i n hstate hphase
    split
    · rename_i hi
      exact s.enterFault_course b hstate hi
    · rename_i hi
      exact .of_calm (.branch s b _ (.interrupted hstate (Nat.lt_of_not_le hi)))
  · exact .of_calm (.branch s b _ (.phase _))
  · exact .of_calm (.branch s b _ .probeQuiet)
  · exact .refl s

/-! ### Octets on a branch -/

theorem State.branchStarted_course (s : State) (b : BranchId) : Course s (s.branchStarted b) := by
  unfold State.branchStarted
  split
  · exact .of_calm (.branch s b _ (.receives ‹_›))
  · exact s.lineActivity_course b

theorem State.branchBroken_course (s : State) (b : BranchId) : Course s (s.branchBroken b) := by
  unfold State.branchBroken
  split
  · exact s.attemptFails_course b _ (.inr ‹_›)
  · exact s.lineActivity_course b

theorem State.branchValid_course (s : State) (b : BranchId) (f : Frame) : Course s (s.branchValid b f) := by
  unfold State.branchValid
  split
  · exact s.replyReceived_course b f ‹_›
  · exact .after_calm (.single (s.countStray_calm b)) (State.lineActivity_course _ b)

/-- A receiver that takes an octet is on, and stays on. -/
theorem Receiver.take_on {r : Receiver} {o : Octet} (h : (r.take o).1 ≠ .ignored) : r ≠ .off ∧ (r.take o).2 ≠ .off := by
  cases r with
  | off => exact absurd rfl h
  | outside => unfold Receiver.take; dsimp only; split <;> simp
  | inside os q st bg => unfold Receiver.take; dsimp only; (repeat' split) <;> simp

theorem State.setRx_calm (s : State) (b : BranchId) (r : Receiver) (h : r = .off ↔ (s.branch b).rx = .off) : Calm s (s.setRx b r) :=
  .branch s b _ (.receiver r h)

theorem State.octetOn_course (s : State) (b : BranchId) (o : Octet) : Course s (s.octetOn b o) := by
  have hrx {x : Reception} {r : Receiver} (h : (s.branch b).rx.take o = (x, r)) (hx : x ≠ .ignored) :
      ReflTransGen Calm s (s.setRx b r) := by
    obtain ⟨hon, hon'⟩ := Receiver.take_on (r := (s.branch b).rx) (o := o) (by rw [h]; exact hx)
    rw [h] at hon'
    exact .single (s.setRx_calm b r (by simp [hon, hon']))
  unfold State.octetOn
  split <;> rename_i heq
  · exact .refl s
  · exact .after_calm (hrx heq nofun) (State.lineActivity_course _ b)
  · exact .after_calm (hrx heq nofun) (State.branchStarted_course _ b)
  · exact .after_calm (hrx heq nofun) (State.lineActivity_course _ b)
  · exact .after_calm (hrx heq nofun) (State.branchBroken_course _ b)
  · exact .after_calm (hrx heq nofun) (State.branchBroken_course _ b)
  · exact .after_calm (hrx heq nofun) (State.branchValid_course _ b _)

theorem State.gapOn_course (s : State) (b : BranchId) (h : (s.branch b).rx.gapReached (s.branch b).rate.charPeriods = true) :
    Course s (s.gapOn b) := by
  obtain ⟨os, q, st, hin, -⟩ := (Receiver.gapReached_iff _ _).1 h
  unfold State.gapOn
  extract_lets u
  have hu : ReflTransGen Calm s u := .single (s.setRx_calm b .outside (by simp [hin]))
  split
  · rename_i hstate
    refine .after_calm hu (State.attemptFails_course _ b _ (.inr ?_))
    rw [show u.branch b = { s.branch b with rx := .outside } from State.branch_setBranch_self s b _]
    exact hstate
  · exact .calm hu

theorem State.shareSent_course (s : State) (b : BranchId) (k : Nat) (hl : s.live = true) (h : (s.branch b).state = .sending)
    (hb : (s.branch b).bound = some (.share k)) : Course s ((s.setBranch b (s.branch b).stopSending).shareSent b k) := by
  have hmove : Calm s (s.updateEntry k (Entry.moveSent b)) := .editsEntry s k _ (Entry.moveSent_sameRequest b)
  have hends := Stir.shareEnds (s.updateEntry k (Entry.moveSent b)) b k hl h hb
  have heq : ((s.setBranch b (s.branch b).stopSending).updateEntry k (Entry.moveSent b)).freeBranch b
      = (s.updateEntry k (Entry.moveSent b)).setBranch b
          (((s.updateEntry k (Entry.moveSent b)).branch b).stopSending.released
            ((s.updateEntry k (Entry.moveSent b)).branchSettings b).enabled) := by
    simp only [State.freeBranch, State.updateEntry_branch, State.branch_setBranch_self]
    exact State.setBranch_setBranch (s.updateEntry k (Entry.moveSent b)) b _ _
  unfold State.shareSent
  extract_lets s1
  rw [heq]
  exact .settled (((ReflTransGen.single (.inl hmove)).tail (.inr hends)).trans (move_of_calm (State.completeAll_calm _ _)))

end Sys2Proof.Machine
end

section
/-! PROOFS. The courses of admission, of the timers, of the starts and of the agent's operations; and the course of every step. -/

namespace Sys2Proof.Machine

open Relation

/-! ### Admission -/

theorem Table.lowestFree_spec {t : Table} {k : Nat} (h : t.lowestFree = some k) : k < 24 ∧ t.slotFree k = true :=
  ⟨List.mem_range.1 (List.mem_of_find?_eq_some h), List.find?_some h⟩

theorem ConfigSet.record?_addr {c : ConfigSet} {a : Octet} {r : StationRecord} (h : c.record? a = some r) : r.addr = a := by
  simpa using List.find?_some h

/-- A station request that the chain admits passed each of its checks (R49 to R54). -/
theorem State.judgeStation_admits {s : State} {f : Frame} {k k' : ReqKind} {r : StationRecord} {slot : Nat}
    (h : s.judgeStation f k = .station r k' slot) :
    k' = k ∧ s.active.record? f.dest = some r ∧ s.table.tagHeld f.tag = false ∧ s.table.lowestFree = some slot
      ∧ (s.branch r.branch).queue.length < 8 := by
  unfold State.judgeStation at h
  cases hr : s.active.record? f.dest with
  | none => simp [hr] at h
  | some r' =>
    simp only [hr] at h
    repeat' (split at h <;> try cases h)
    exact ⟨rfl, rfl, by simpa using ‹¬ s.table.tagHeld f.tag = true›, ‹_›, by
      simpa [branchQueueSize] using ‹¬ branchQueueSize ≤ _›⟩

theorem State.judgeManage_admits {s : State} {f : Frame} {slot : Nat} (h : s.judgeManage f = .manage slot) :
    s.table.tagHeld f.tag = false ∧ s.table.lowestFree = some slot ∧ s.agent.queue.length < 4 := by
  unfold State.judgeManage at h
  repeat' (split at h <;> try cases h)
  exact ⟨by simpa using ‹¬ s.table.tagHeld f.tag = true›, ‹_›, by simpa [agentQueueSize] using ‹¬ agentQueueSize ≤ _›⟩

theorem State.judgeBroadcast_admits {s : State} {f : Frame} {k : ReqKind} {el : Quad Bool} {slot : Nat}
    (h : s.judgeBroadcast f k = .broadcast el slot) :
    k = .command ∧ el = s.eligibleSet ∧ s.table.tagHeld f.tag = false ∧ s.table.lowestFree = some slot
      ∧ ∀ b, s.eligible b = true → (s.branch b).queue.length < 8 := by
  unfold State.judgeBroadcast at h
  repeat' (split at h <;> try cases h)
  have hroom := ‹¬ (BranchId.all.any fun b => s.eligible b && decide (branchQueueSize ≤ (s.branch b).queue.length)) = true›
  refine ⟨by simpa using ‹¬ k ≠ .command›, rfl, by simpa using ‹¬ s.table.tagHeld f.tag = true›, ‹_›, fun b hb => ?_⟩
  have hall : b ∈ BranchId.all := by cases b <;> decide
  exact Nat.lt_of_not_le fun hfull => hroom (List.any_eq_true.2 ⟨b, hall, by simp [hb, show branchQueueSize ≤ _ from hfull]⟩)

/-- What the chain admits, by kind: the checks of the kind passed, and no WRITE, COMMAND or broadcast outside NORMAL (R48). -/
inductive Admitted (s : State) (f : Frame) : Verdict → Prop
  | discard : Admitted s f .discard
  | refuse (r : RefusalReason) : Admitted s f (.refuse r)
  | station {r : StationRecord} {k : ReqKind} {slot : Nat} (h : s.judgeStation f k = .station r k slot) (hk : k ≠ .manage)
      (hn : s.sup.state ≠ .normal → k ≠ .write ∧ k ≠ .command) : Admitted s f (.station r k slot)
  | manage {slot : Nat} (h : s.judgeManage f = .manage slot) : Admitted s f (.manage slot)
  | broadcast {slot : Nat} (h : s.judgeBroadcast f .command = .broadcast s.eligibleSet slot) (hn : s.sup.state = .normal) :
      Admitted s f (.broadcast s.eligibleSet slot)

theorem Admitted.of_judgeStation {s : State} {f : Frame} {k : ReqKind} (hk : k ≠ .manage)
    (hn : s.sup.state ≠ .normal → k ≠ .write ∧ k ≠ .command) : Admitted s f (s.judgeStation f k) := by
  have hv : (∃ r, s.judgeStation f k = .refuse r) ∨ ∃ r slot, s.judgeStation f k = .station r k slot := by
    unfold State.judgeStation
    (repeat' split) <;> simp
  obtain ⟨r, hv⟩ | ⟨r, slot, hv⟩ := hv
  · exact hv ▸ .refuse r
  · exact hv ▸ .station hv hk hn

theorem Admitted.of_judgeManage (s : State) (f : Frame) : Admitted s f (s.judgeManage f) := by
  have hv : (∃ r, s.judgeManage f = .refuse r) ∨ ∃ slot, s.judgeManage f = .manage slot := by
    unfold State.judgeManage
    (repeat' split) <;> simp
  obtain ⟨r, hv⟩ | ⟨slot, hv⟩ := hv
  · exact hv ▸ .refuse r
  · exact hv ▸ .manage hv

theorem Admitted.of_judgeBroadcast {s : State} {f : Frame} {k : ReqKind} (hn : s.sup.state ≠ .normal → k ≠ .command) :
    Admitted s f (s.judgeBroadcast f k) := by
  have hv : (∃ r, s.judgeBroadcast f k = .refuse r) ∨ ∃ slot, s.judgeBroadcast f k = .broadcast s.eligibleSet slot := by
    unfold State.judgeBroadcast
    (repeat' split) <;> simp
  obtain ⟨r, hv⟩ | ⟨slot, hv⟩ := hv
  · exact hv ▸ .refuse r
  · obtain ⟨rfl, -⟩ := State.judgeBroadcast_admits hv
    exact hv ▸ .broadcast hv (by_contra fun h => hn h rfl)

theorem State.judge_admitted (s : State) (f : Frame) : Admitted s f (s.judge f) := by
  unfold State.judge
  split
  · exact .discard
  · rename_i k _
    split
    · exact .discard
    · split
      · split
        · exact .of_judgeManage s f
        · exact .refuse _
      · split
        · exact .refuse _
        · rename_i hk
          split
          · exact .refuse _
          · rename_i hn
            have hn' : s.sup.state ≠ .normal → k ≠ .write ∧ k ≠ .command := fun h => by
              simp only [h, ne_eq, not_false_eq_true, true_and, not_or] at hn
              exact hn
            split
            · exact .of_judgeBroadcast fun h => (hn' h).2
            · exact .of_judgeStation hk hn'

/-- An entry put in a free slot is found there. -/
theorem find?_insertEntry (e : Entry) (l : List Entry) (k : Nat) (hfree : ∀ x ∈ l, x.slot ≠ e.slot) :
    (insertEntry e l).find? (fun x => x.slot == k) = if k = e.slot then some e else l.find? fun x => x.slot == k := by
  induction l with
  | nil => by_cases hk : e.slot = k <;> simp [insertEntry, hk, eq_comm (a := k)]
  | cons x xs ih =>
    have hx : x.slot ≠ e.slot := hfree x (List.mem_cons_self ..)
    have ih' := ih fun y hy => hfree y (List.mem_cons_of_mem _ hy)
    unfold insertEntry
    split
    · by_cases hk : e.slot = k <;> simp [hk, eq_comm (a := k)]
    · by_cases hxk : x.slot = k
      · simp [hxk, show k ≠ e.slot from hxk ▸ hx]
      · simp [hxk, ih']

theorem Table.slotFree_iff {t : Table} {k : Nat} : t.slotFree k = true ↔ ∀ x ∈ t.entries, x.slot ≠ k := by
  simp [Table.slotFree]

theorem Table.find?_allocate (t : Table) (e : Entry) (k : Nat) (hfree : t.slotFree e.slot = true) :
    (t.allocate e).find? k = if k = e.slot then some e else t.find? k :=
  find?_insertEntry e t.entries k (Table.slotFree_iff.1 hfree)

theorem State.takeToken_frame (s : State) (r : StationRecord) : s.takeToken r = { s with tokens := (s.takeToken r).tokens } := by
  unfold State.takeToken
  split <;> rfl

theorem State.enqueueShares_moves (s : State) (slot : Nat) (hn : s.sup.state = .normal) (el : Quad Bool) (l : List BranchId)
    (hl : l.Nodup) (hroom : ∀ b ∈ l, el.get b = true → (s.branch b).queue.length < 8) :
    ReflTransGen Move s (l.foldl (fun t b => t.enqueueShare slot el b) s) := by
  induction l generalizing s with
  | nil => exact .refl
  | cons b l ih =>
    obtain ⟨hb, hl'⟩ := List.nodup_cons.1 hl
    by_cases hel : el.get b = true
    · have hstep : s.enqueueShare slot el b = s.enqueue b (.share slot) := if_pos hel
      rw [List.foldl_cons, hstep]
      refine .head (.inr (.enqueues s b _ (hroom b (List.mem_cons_self ..) hel) fun h => absurd hn h)) (ih _ hn hl' ?_)
      intro c hc
      have hcb : c ≠ b := fun h => hb (h ▸ hc)
      rw [show (s.enqueue b (.share slot)).branch c = s.branch c from State.branch_setBranch_other s b c _ hcb]
      exact hroom c (List.mem_cons_of_mem _ hc)
    · have hstep : s.enqueueShare slot el b = s := if_neg hel
      rw [List.foldl_cons, hstep]
      exact ih s hn hl' fun c hc => hroom c (List.mem_cons_of_mem _ hc)

theorem State.eligibleSet_get (s : State) (b : BranchId) : s.eligibleSet.get b = s.eligible b := by
  cases b <;> rfl

theorem State.admission_course (s : State) (f : Frame) : Course s (s.admission f) := by
  have had := s.judge_admitted f
  unfold State.admission
  generalize s.judge f = v at had
  cases had with
  | discard => exact .of_calm (.countsUp s fun c => { c with discard := bump c.discard })
  | refuse r => exact .of_calm (.refuses s f r)
  | @station r k slot h hk hn =>
    obtain ⟨-, hr, htag, hfree, hroom⟩ := State.judgeStation_admits h
    obtain ⟨hlt, hslot⟩ := Table.lowestFree_spec hfree
    have htok : Calm s (s.takeToken r) := .takesToken s r (by rw [ConfigSet.record?_addr hr]; exact hr)
    have halloc : Calm (s.takeToken r) ((s.takeToken r).allocate (stationEntry slot f k r s.clock.ms)) := by
      refine .allocates _ _ ?_ hlt ?_ ?_
      · rw [State.takeToken_frame]; exact hslot
      · rw [State.takeToken_frame]; exact htag
      · rw [State.takeToken_frame]; exact hn
    have hq : Stir ((s.takeToken r).allocate (stationEntry slot f k r s.clock.ms))
        (((s.takeToken r).allocate (stationEntry slot f k r s.clock.ms)).enqueue r.branch (.station slot)) := by
      refine .enqueues _ r.branch (.station slot) ?_ fun hsup => ?_
      · rw [State.takeToken_frame]; exact hroom
      · rw [State.takeToken_frame] at hsup
        obtain ⟨hw, hc⟩ := hn hsup
        have hfind : ((s.takeToken r).allocate (stationEntry slot f k r s.clock.ms)).table.find? slot
            = some (stationEntry slot f k r s.clock.ms) := by
          refine (Table.find?_allocate _ _ slot ?_).trans (if_pos rfl)
          rw [State.takeToken_frame]; exact hslot
        simp only [State.failsafeTakes, State.claimedByFailsafe, hfind]
        simp [stationEntry, freshEntry, hw, hc]
    exact .settled (((ReflTransGen.single (.inl htok)).tail (.inl halloc)).tail (.inr hq))
  | @manage slot h =>
    obtain ⟨htag, hfree, hroom⟩ := State.judgeManage_admits h
    obtain ⟨hlt, hslot⟩ := Table.lowestFree_spec hfree
    have halloc : Calm s (s.allocate (freshEntry slot f .manage .manage s.clock.ms)) :=
      .allocates s _ hslot hlt htag fun _ => ⟨nofun, nofun⟩
    have hq : ReflTransGen Calm (s.allocate (freshEntry slot f .manage .manage s.clock.ms))
        ((s.allocate (freshEntry slot f .manage .manage s.clock.ms)).enqueueAgent slot) := by
      have hagent := Calm.agent (s.allocate (freshEntry slot f .manage .manage s.clock.ms))
        { s.agent with queue := s.agent.queue ++ [slot] } (.inr (by simpa using hroom))
      unfold State.enqueueAgent
      extract_lets agent s'
      split
      · exact (ReflTransGen.single hagent).trans s'.serveNext_calm
      · exact .single hagent
    exact .calm ((ReflTransGen.single halloc).trans hq)
  | @broadcast slot h hn =>
    obtain ⟨-, -, htag, hfree, hroom⟩ := State.judgeBroadcast_admits h
    obtain ⟨hlt, hslot⟩ := Table.lowestFree_spec hfree
    have halloc : Calm s (s.allocate (broadcastEntry slot f s.eligibleSet s.clock.ms)) :=
      .allocates s _ hslot hlt htag fun h => absurd hn h
    refine .settled ((ReflTransGen.single (.inl halloc)).trans
      (State.enqueueShares_moves (s.allocate (broadcastEntry slot f s.eligibleSet s.clock.ms)) slot hn s.eligibleSet BranchId.all (by decide) fun b _ hb => hroom b ?_))
    rw [← State.eligibleSet_get]
    exact hb

theorem State.upstreamValid_course (s : State) (f : Frame) : Course s (s.upstreamValid f) := by
  have hheard : ReflTransGen Calm s (s.countUp fun c => { c with validIn := bump c.validIn }).restartSilence :=
    .tail (.single (.countsUp s _)) (.silence _ _)
  unfold State.upstreamValid
  extract_lets s1
  split
  · exact .calm (hheard.tail (.countsUp _ _))
  · exact .after_calm hheard (State.admission_course _ f)

theorem State.upstreamOctet_course (s : State) (o : Octet) : Course s (s.upstreamOctet o) := by
  have hcounted (r : Receiver) (f : UpCounters → UpCounters) : Course s ((s.setUpRx r).countUp f) :=
    .calm (.tail (.single (.upReceiver s r)) (.countsUp _ f))
  unfold State.upstreamOctet
  split
  · exact .refl s
  · exact hcounted _ _
  · exact .of_calm (.upReceiver s _)
  · exact .of_calm (.upReceiver s _)
  · exact hcounted _ _
  · exact hcounted _ _
  · exact .after_calm (.single (.upReceiver s _)) (State.upstreamValid_course _ _)

/-! ### Events of the lines and timers -/

/-- The next state of an outcome, where it has one, is reached by a course. -/
abbrev Runs (s : State) : Effect → Prop := NextHas (Course s)

theorem execEndOfSpacing_runs (s : State) : Runs s (execEndOfSpacing s) := by
  refine NextHas.guarded fun _ => ?_
  split
  · exact .of_calm (.headBegins s ‹_›)
  · trivial

theorem State.countAttempt_calm (s : State) (i : BoundItem) : ReflTransGen Calm s (s.countAttempt i) := by
  cases i with
  | station k => exact .single (.editsEntry s k _ fun _ => ⟨rfl, rfl, rfl⟩)
  | _ => exact .refl

theorem State.countAttempt_frame (s : State) (i : BoundItem) : s.countAttempt i = { s with table := (s.countAttempt i).table } := by
  cases i <;> rfl

theorem Branch.guardDone_iff (x : Branch) : x.guardDone = true ↔ x.state = .guard ∧ x.phase = .running 0 := by
  simp [Branch.guardDone]
theorem Branch.waitDone_iff (x : Branch) : x.waitDone = true ↔ x.state = .guard ∧ x.phase = .waiting 0 := by
  simp [Branch.waitDone]
theorem Branch.sendDone_iff (x : Branch) : x.sendDone = true ↔ x.state = .sending ∧ x.sendLeft = some 0 := by
  simp [Branch.sendDone]
theorem Branch.deadlineDue_iff (x : Branch) : x.deadlineDue = true ↔
    (x.state = .awaiting ∨ x.state = .receiving) ∧ x.deadline = some 0 ∧ x.deadlinePassed = false := by
  simp [Branch.deadlineDue, and_assoc]
theorem Branch.probeDue_iff (x : Branch) : x.probeDue = true ↔ x.state = .fault ∧ x.probeTimer = some 0 := by
  simp [Branch.probeDue]
theorem Branch.probeDone_iff (x : Branch) : x.probeDone = true ↔ x.state = .fault ∧ x.probeQuiet = some 0 := by
  simp [Branch.probeDone]

theorem execGuardComplete_runs (b : BranchId) (s : State) : Runs s (execGuardComplete b s) := by
  refine NextHas.guarded fun hl => NextHas.guarded fun hdone => ?_
  have hstate := ((s.branch b).guardDone_iff.1 hdone).1
  split
  · trivial
  · rename_i item hitem
    split
    · trivial
    · rename_i f _
      refine .calm ((s.countAttempt_calm item).tail (.branch _ b _ ?_))
      rw [State.countAttempt_frame]
      exact .sends item f _ hl hstate hitem

theorem execGuardQuietWaitExpiry_runs (b : BranchId) (s : State) : Runs s (execGuardQuietWaitExpiry b s) :=
  NextHas.guarded fun _ => NextHas.guarded fun hdone =>
    .of_calm (.branch s b _ (.guardAgain _ ((s.branch b).waitDone_iff.1 hdone).1))

theorem execBranchEndOfSending_runs (b : BranchId) (s : State) : Runs s (execBranchEndOfSending b s) := by
  refine NextHas.guarded fun hl => NextHas.guarded fun hdone => ?_
  have hstate := ((s.branch b).sendDone_iff.1 hdone).1
  split
  · rename_i k hb
    exact s.shareSent_course b k hl hstate hb
  · rename_i item _ hb
    show Course s ((s.setBranch b _).setBranch b _)
    rw [State.setBranch_setBranch]
    exact .of_calm (.branch s b _ (.awaits _ hl hstate (by rw [hb]; rfl)))
  · trivial

theorem execReplyDeadlineExpiry_runs (b : BranchId) (s : State) : Runs s (execReplyDeadlineExpiry b s) := by
  refine NextHas.guarded fun _ => NextHas.guarded fun hdue => ?_
  have hstate := ((s.branch b).deadlineDue_iff.1 hdue).1
  split
  · exact s.attemptFails_course b _ hstate
  · exact .of_calm (.branch s b _ .deadlinePassed)

theorem execProbeTimerExpiry_runs (b : BranchId) (s : State) : Runs s (execProbeTimerExpiry b s) :=
  NextHas.guarded fun _ => NextHas.guarded fun _ => .of_calm (.branch s b _ (.probeBegun _))

theorem execProbeQuietEnd_runs (b : BranchId) (s : State) : Runs s (execProbeQuietEnd b s) :=
  NextHas.guarded fun _ => NextHas.guarded fun hdone =>
    .settled (.single (.inr (.recovers s b ((s.branch b).probeDone_iff.1 hdone).1)))

theorem execBranchGap_runs (b : BranchId) (s : State) : Runs s (execBranchGap b s) :=
  NextHas.guarded fun h => s.gapOn_course b h

theorem execUpstreamGap_runs (s : State) : Runs s (execUpstreamGap s) :=
  NextHas.guarded fun _ => .calm (.tail (.single (.upReceiver s .outside)) (.countsUp _ _))

theorem execSlotDue_runs (a : Octet) (s : State) : Runs s (execSlotDue a s) := by
  refine NextHas.guarded fun _ => ?_
  split
  · trivial
  · exact NextHas.guarded fun _ => .settled (.single (.inr (.slotsDue s)))

theorem execRefillExpiry_runs (a : Octet) (s : State) : Runs s (execRefillExpiry a s) := by
  refine NextHas.guarded fun _ => ?_
  split
  · rename_i t b _ hb
    obtain ⟨r, hr, hrb⟩ := Option.bind_eq_some_iff.1 hb
    exact NextHas.guarded fun _ => .of_calm (.refills s a b r hr hrb)
  · trivial

theorem execSilenceExpiry_runs (s : State) : Runs s (execSilenceExpiry s) := by
  refine NextHas.guarded fun hl => NextHas.guarded fun hdue => ?_
  have hn : s.sup.state = .normal := by
    simp only [Supervision.silenceDue, Bool.and_eq_true, beq_iff_eq] at hdue
    exact hdue.1
  exact .settled ((ReflTransGen.single (.inr (.entersFailsafe s .silence hl hn))).trans
    (move_of_calm (State.completeAll_calm _ _)))

/-! ### Ends of store operations, starts and resets -/

theorem State.workingDone_calm (s : State) (r : Result) (image : Nat) : ReflTransGen Calm s (s.workingDone r image) := by
  unfold State.workingDone
  split
  · exact .refl
  · exact (ReflTransGen.single (.agent s { s.agent with working := none } (.inl (Nat.le_refl _)))).trans
      (State.completeAll_calm _ _)

theorem execEndOfSave_runs (verified : Bool) (s : State) : Runs s (execEndOfSave verified s) := by
  refine NextHas.guarded fun _ => ?_
  split
  · exact .calm ((ReflTransGen.single (.saveEnds s _ verified ‹_›)).trans (State.workingDone_calm _ _ _))
  · trivial

theorem execEndOfRetire_runs (s : State) : Runs s (execEndOfRetire s) := by
  refine NextHas.guarded fun _ => ?_
  split
  · exact .calm ((ReflTransGen.single (.retireEnds s _ ‹_›)).trans (State.workingDone_calm _ _ _))
  · trivial

theorem execPower_runs (s : State) : Runs s (execPower s) := by
  refine NextHas.guarded fun _ => ?_
  split
  · exact .of_calm (.staysHeld s _ (.inr ‹_›))
  · exact .of_calm (.coldBegins s _ .power)

theorem execRstnRelease_runs (s : State) : Runs s (execRstnRelease s) := by
  refine NextHas.guarded fun _ => ?_
  split
  · exact .of_calm (.staysHeld s _ (.inl ‹_›))
  · exact .of_calm (.coldBegins s _ .line)

theorem execSupplyFall_runs (s : State) : Runs s (execSupplyFall s) := by
  unfold execSupplyFall
  split
  · trivial
  · exact .of_calm (.falls s _ (.inl rfl))

theorem execRstnLow_runs (s : State) : Runs s (execRstnLow s) := by
  unfold execRstnLow
  split
  · trivial
  · exact .of_calm (.falls s _ (.inr rfl))

theorem execEndOfLoading_runs (s : State) : Runs s (execEndOfLoading s) := by
  refine NextHas.guarded fun _ => ?_
  show Course s s.coldEnded
  rw [State.coldEnded_eq]
  exact .settled (.single (.inr (.coldStarts s)))

/-! ### The take -/

/-- In a live part the state that the action leaves is reached by a course. -/
def ActionRuns (act : TakeAction) : Prop := ∀ slot args s, s.live = true → Course s (act slot args s).1

theorem takeHead_runs {act : TakeAction} (hact : ActionRuns act) (named : List Octet → Bool) (s : State) :
    Runs s (takeHead named act s) := by
  unfold takeHead
  split
  · trivial
  · rename_i slot hready
    split
    · trivial
    · rename_i e _
      have hl : s.live = true := State.live_of_takeReady hready
      have htaken : Calm s s.headTaken := .agent s { s.agent with queue := s.agent.queue.tail } (.inl (by simp))
      exact NextHas.guarded fun _ => .trans_calm (.after_calm (.single htaken) (hact slot e.payload.tail s.headTaken hl))
        ((State.completeAll_calm _ _).trans (State.serveNext_calm _))

theorem State.sampleCfgen_calm (s : State) : ReflTransGen Calm s s.sampleCfgen.2 := by
  unfold State.sampleCfgen
  split
  · exact .refl
  · exact .single (.drawn s)

theorem State.sampleCfgen_live (s : State) : s.sampleCfgen.2.live = s.live := by
  unfold State.sampleCfgen
  split <;> rfl

theorem guardedAction_runs {act : TakeAction} (hact : ActionRuns act) (op : Op) : ActionRuns (guardedAction op act) := by
  intro slot args s hl
  unfold guardedAction
  split
  · exact .refl s
  · split
    · dsimp only
      split
      · exact .after_calm s.sampleCfgen_calm (hact slot args _ (s.sampleCfgen_live.trans hl))
      · exact .calm s.sampleCfgen_calm
    · exact hact slot args s hl

theorem takeOp_runs (op : Op) {act : TakeAction} (hact : ActionRuns act) (s : State) : Runs s (takeOp op act s) :=
  takeHead_runs (guardedAction_runs hact op) _ s

/-- In a live part the state of the operation's reply is reached by a course. -/
def ReplyRuns (f : List Octet → State → Reply) : Prop := ∀ args s, s.live = true → Course s (f args s).state

theorem ReplyRuns.takeOp {f : List Octet → State → Reply} (hf : ReplyRuns f) (op : Op) (s : State) :
    Runs s (takeOp op (oneStep op f) s) :=
  takeOp_runs op (fun _ args u hl => hf args u hl) s

/-- An operation without effect. -/
theorem ReplyRuns.of_same {f : List Octet → State → Reply} (hf : ∀ args s, (f args s).state = s) : ReplyRuns f :=
  fun args s _ => by rw [hf]; exact .refl s

theorem badOperationAction_runs (payload : List Octet) : ActionRuns (badOperationAction payload) := by
  intro slot args s _
  cases payload <;> exact .refl s

theorem getIdentity_same (args : List Octet) (s : State) : (getIdentity args s).state = s := by
  cases args <;> rfl

theorem getStartRecord_same (args : List Octet) (s : State) : (getStartRecord args s).state = s := by
  cases args <;> rfl

theorem getStore_same (args : List Octet) (s : State) : (getStore args s).state = s := by
  cases args <;> rfl

theorem getSettings_same (args : List Octet) (s : State) : (getSettings args s).state = s := by
  unfold getSettings
  (repeat' split) <;> rfl

theorem getStation_same (args : List Octet) (s : State) : (getStation args s).state = s := by
  unfold getStation
  (repeat' split) <;> rfl

theorem listStations_same (args : List Octet) (s : State) : (listStations args s).state = s := by
  unfold listStations
  (repeat' split) <;> rfl

theorem peekStatus_same (args : List Octet) (s : State) : (peekStatus args s).state = s := by
  unfold peekStatus
  (repeat' split) <;> rfl

theorem getCounters_same (args : List Octet) (s : State) : (getCounters args s).state = s := by
  unfold getCounters
  (repeat' split) <;> rfl

theorem getBranch_same (args : List Octet) (s : State) : (getBranch args s).state = s := by
  unfold getBranch
  (repeat' split) <;> rfl

theorem getTransactions_same (args : List Octet) (s : State) : (getTransactions args s).state = s := by
  unfold getTransactions
  (repeat' split) <;> rfl

theorem getFailsafeReport_same (args : List Octet) (s : State) : (getFailsafeReport args s).state = s := by
  unfold getFailsafeReport
  split <;> rfl

/-! ### Operations on SHADOW -/

theorem insertRecord_keys (r : StationRecord) (l : List StationRecord) (a : Nat)
    (h : a ∈ (insertRecord r l).map fun x => x.addr.toNat) : a = r.addr.toNat ∨ a ∈ l.map fun x => x.addr.toNat := by
  induction l with
  | nil => simpa [insertRecord] using h
  | cons x xs ih =>
    unfold insertRecord at h
    split at h
    · simp only [List.map_cons, List.mem_cons] at h ⊢
      exact h.imp_right .inr
    · split at h
      · simpa only [List.map_cons, List.mem_cons] using h
      · simp only [List.map_cons, List.mem_cons] at h ⊢
        obtain h | h := h
        · exact .inr (.inl h)
        · exact (ih h).imp_right .inr

/-- A record is put in its place in address order (R29). -/
theorem insertRecord_sorted (r : StationRecord) (l : List StationRecord)
    (h : (l.map fun x => x.addr.toNat).Pairwise (· < ·)) : ((insertRecord r l).map fun x => x.addr.toNat).Pairwise (· < ·) := by
  induction l with
  | nil => simp [insertRecord]
  | cons x xs ih =>
    simp only [List.map_cons, List.pairwise_cons] at h
    obtain ⟨hx, hxs⟩ := h
    unfold insertRecord
    split
    · rename_i heq
      simp only [List.map_cons, List.pairwise_cons, heq]
      exact ⟨hx, hxs⟩
    · rename_i hne
      split
      · rename_i hlt
        rw [BitVec.lt_def] at hlt
        simp only [List.map_cons, List.pairwise_cons, List.mem_cons]
        refine ⟨fun a ha => ?_, hx, hxs⟩
        obtain rfl | ha := ha
        · exact hlt
        · exact hlt.trans (hx a ha)
      · rename_i hge
        rw [BitVec.lt_def, Nat.not_lt] at hge
        have hlt : x.addr.toNat < r.addr.toNat := Nat.lt_of_le_of_ne hge fun h => hne (BitVec.eq_of_toNat_eq h.symm)
        simp only [List.map_cons, List.pairwise_cons]
        refine ⟨fun a ha => ?_, ih hxs⟩
        obtain rfl | ha := insertRecord_keys r xs a ha
        · exact hlt
        · exact hx a ha

theorem insertRecord_length (r : StationRecord) (l : List StationRecord) :
    (insertRecord r l).length ≤ l.length + 1
      ∧ ((l.map fun x => x.addr.toNat).Pairwise (· < ·) → (∃ x ∈ l, x.addr = r.addr) → (insertRecord r l).length = l.length) := by
  induction l with
  | nil => simp [insertRecord]
  | cons x xs ih =>
    obtain ⟨hle, heq⟩ := ih
    unfold insertRecord
    split
    · simp
    · rename_i hne
      split
      · rename_i hlt
        refine ⟨by simp, fun hsorted hmem => ?_⟩
        simp only [List.map_cons, List.pairwise_cons] at hsorted
        obtain ⟨y, hy, hya⟩ := hmem
        rw [BitVec.lt_def] at hlt
        obtain rfl | hy := List.mem_cons.1 hy
        · exact absurd hya.symm hne
        · have := hsorted.1 y.addr.toNat (List.mem_map.2 ⟨y, hy, rfl⟩)
          rw [hya] at this
          omega
      · refine ⟨by simpa using hle, fun hsorted hmem => ?_⟩
        simp only [List.map_cons, List.pairwise_cons] at hsorted
        obtain ⟨y, hy, hya⟩ := hmem
        obtain rfl | hy := List.mem_cons.1 hy
        · exact absurd hya.symm hne
        · simp [heq hsorted.2 ⟨y, hy, hya⟩]

theorem ConfigSet.record?_isSome {c : ConfigSet} {a : Octet} : (c.record? a).isSome = true ↔ ∃ x ∈ c.stations, x.addr = a := by
  simp [ConfigSet.record?]

/-- A record that replaces one, or finds room, keeps the map ordered (R29, R30). -/
theorem ConfigSet.put_ordered {c : ConfigSet} (r : StationRecord) (h : MapOrdered c)
    (hroom : (c.record? r.addr).isSome = true ∨ c.stations.length < 64) : MapOrdered (c.put r) := by
  obtain ⟨hlen, hsorted⟩ := h
  obtain ⟨hle, heq⟩ := insertRecord_length r c.stations
  refine ⟨?_, insertRecord_sorted r _ hsorted⟩
  obtain hsome | hroom := hroom
  · exact (heq hsorted (ConfigSet.record?_isSome.1 hsome)).trans_le hlen
  · exact hle.trans hroom

theorem ConfigSet.drop_ordered {c : ConfigSet} (a : Octet) (h : MapOrdered c) : MapOrdered (c.drop a) := by
  obtain ⟨hlen, hsorted⟩ := h
  exact ⟨(List.length_filter_le _ _).trans hlen, hsorted.sublist (List.filter_sublist.map _)⟩

theorem putSettings_runs : ReplyRuns putSettings := by
  intro args s _
  unfold putSettings
  split
  · exact .of_calm (.shadow s _ fun _ h => h)
  · exact .refl s

theorem putStation_runs : ReplyRuns putStation := by
  intro args s _
  unfold putStation
  split
  · exact .refl s
  · rename_i r _
    split
    · exact .of_calm (.shadow s _ fun _ h => ConfigSet.put_ordered r h (.inl ‹_›))
    · split
      · exact .of_calm (.shadow s _ fun _ h => ConfigSet.put_ordered r h (.inr ‹_›))
      · exact .refl s

theorem dropStation_runs : ReplyRuns dropStation := by
  intro args s _
  unfold dropStation
  split
  · rename_i a
    split
    · split
      · exact .of_calm (.shadow s _ fun _ h => ConfigSet.drop_ordered a h)
      · exact .refl s
    · exact .refl s
  · exact .refl s

theorem revertShadow_runs : ReplyRuns revertShadow := by
  intro args s _
  cases args with
  | nil => exact .of_calm (.shadow s s.active fun h _ => h)
  | cons => exact .refl s

theorem clearShadow_runs : ReplyRuns clearShadow := by
  intro args s _
  cases args with
  | nil => exact .of_calm (.shadow s _ fun _ _ => ⟨Nat.zero_le _, List.Pairwise.nil⟩)
  | cons => exact .refl s

/-! ### Operations with other effects -/

theorem getChanges_runs : ReplyRuns getChanges := by
  intro args s _
  unfold getChanges
  split
  · split
    · exact .of_calm (.collects s _)
    · exact .refl s
  · exact .refl s

theorem State.clearUp_calm (s : State) : Calm s s.clearUp := .countsUp s fun _ => UpCounters.zero

theorem State.clearBranch_calm (s : State) (b : BranchId) : Calm s (s.clearBranch b) := .branch s b _ (.counters _)

theorem State.clearTxn_calm (s : State) : Calm s s.clearTxn := .countsTxn s _

theorem State.clearGroup_calm (s : State) (g : CounterGroup) : ReflTransGen Calm s (s.clearGroup g) := by
  cases g with
  | upstream => exact .single s.clearUp_calm
  | branch b => exact .single (s.clearBranch_calm b)
  | transactions => exact .single s.clearTxn_calm
  | all =>
    exact ((foldl_calm (fun t b => .single (t.clearBranch_calm b)) BranchId.all s).tail (State.clearUp_calm _)).tail
      (State.clearTxn_calm _)

theorem clearCounters_runs : ReplyRuns clearCounters := by
  intro args s _
  unfold clearCounters
  split
  · split
    · exact .refl s
    · exact .calm (s.clearGroup_calm _)
  · exact .refl s

theorem resume_runs : ReplyRuns resume := by
  intro args s _
  unfold resume
  split
  · split
    · exact .calm (.tail (.single (.resumes s ‹_›)) (.silence _ _))
    · exact .refl s
    · exact .refl s
  · exact .refl s

theorem restart_runs : ReplyRuns restart := by
  intro args s hl
  unfold restart
  split
  · split
    · exact .refl s
    · split
      · exact .refl s
      · exact .of_calm (.restartPends s hl)
  · exact .refl s

theorem commitAction_runs : ActionRuns commitAction := by
  intro slot args s hl
  unfold commitAction
  split
  · exact .refl s
  · split
    · exact .refl s
    · split
      · exact .refl s
      · exact .settled (.single (.inr (.commits s hl ‹_›)))

theorem forceFailsafeAction_runs : ActionRuns forceFailsafeAction := by
  intro slot args s hl
  unfold forceFailsafeAction
  split
  · exact .refl s
  · split
    · exact .settled (.single (.inr (.entersFailsafe s .forced hl ‹_›)))
    · exact .refl s

theorem State.leftWorking_calm (s : State) (w : Working) : ReflTransGen Calm s (s.leftWorking w) :=
  .tail (.single (.editsEntry s w.slot (fun e => { e with state := .working }) fun _ => ⟨rfl, rfl, rfl⟩))
    (.agent (s.updateEntry w.slot fun e => { e with state := .working }) { s.agent with working := some w } (.inl (Nat.le_refl _)))

theorem saveImageAction_runs : ActionRuns saveImageAction := by
  intro slot args s _
  unfold saveImageAction
  split
  · exact .refl s
  · split
    · exact .refl s
    · rename_i hidle
      split
      · exact .refl s
      · exact .calm ((ReflTransGen.single (.saveBegins s _ (not_not.1 hidle) ‹_›)).trans (State.leftWorking_calm _ _))

theorem retireImageAction_runs : ActionRuns retireImageAction := by
  intro slot args s _
  unfold retireImageAction
  split
  · split
    · split
      · exact .refl s
      · rename_i hidle
        split
        · split
          · exact .calm ((ReflTransGen.single (.retireBegins s _ _ (not_not.1 hidle) ‹_› ‹_›)).trans
              (State.leftWorking_calm _ _))
          · exact .refl s
        · exact .refl s
    · exact .refl s
  · exact .refl s

/-! ### Every command and every step -/

/-- The command is not the end of a transmission, which alone opens an event with more than a course. -/
theorem exec_runs {c : Instr} (hc : c ≠ .endOfTransmission) (s : State) : Runs s (exec c s) := by
  cases c with
  | validIn o | upstreamCheck o | upstreamLength o | upstreamNoise o | upstreamFrameOctet o => exact s.upstreamOctet_course o
  | upstreamGap => exact execUpstreamGap_runs s
  | endOfTransmission => exact absurd rfl hc
  | endOfSpacing => exact execEndOfSpacing_runs s
  | guardComplete b => exact execGuardComplete_runs b s
  | branchOctet b o | branchFrameOctet b o | branchFrameValid b o | branchFrameCheck b o | branchFrameLength b o =>
    exact s.octetOn_course b o
  | branchGap b => exact execBranchGap_runs b s
  | guardQuietWaitExpiry b => exact execGuardQuietWaitExpiry_runs b s
  | branchEndOfSending b => exact execBranchEndOfSending_runs b s
  | replyDeadlineExpiry b => exact execReplyDeadlineExpiry_runs b s
  | probeTimerExpiry b => exact execProbeTimerExpiry_runs b s
  | probeQuietEnd b => exact execProbeQuietEnd_runs b s
  | slotDue a => exact execSlotDue_runs a s
  | refillExpiry a => exact execRefillExpiry_runs a s
  | silenceExpiry => exact execSilenceExpiry_runs s
  | endOfSave verified => exact execEndOfSave_runs verified s
  | endOfRetire => exact execEndOfRetire_runs s
  | power => exact execPower_runs s
  | supplyFall => exact execSupplyFall_runs s
  | rstnLow => exact execRstnLow_runs s
  | rstnRelease => exact execRstnRelease_runs s
  | endOfLoading => exact execEndOfLoading_runs s
  | cfgenChange => exact .of_calm (.strap s _ _)
  | badOperation => exact takeHead_runs (badOperationAction_runs _) _ s
  | getIdentity => exact (ReplyRuns.of_same getIdentity_same).takeOp _ s
  | getStartRecord => exact (ReplyRuns.of_same getStartRecord_same).takeOp _ s
  | getSettings => exact (ReplyRuns.of_same getSettings_same).takeOp _ s
  | putSettings => exact putSettings_runs.takeOp _ s
  | getStation => exact (ReplyRuns.of_same getStation_same).takeOp _ s
  | putStation => exact putStation_runs.takeOp _ s
  | dropStation => exact dropStation_runs.takeOp _ s
  | listStations => exact (ReplyRuns.of_same listStations_same).takeOp _ s
  | revertShadow => exact revertShadow_runs.takeOp _ s
  | clearShadow => exact clearShadow_runs.takeOp _ s
  | commit => exact takeOp_runs _ commitAction_runs s
  | getChanges => exact getChanges_runs.takeOp _ s
  | peekStatus => exact (ReplyRuns.of_same peekStatus_same).takeOp _ s
  | getCounters => exact (ReplyRuns.of_same getCounters_same).takeOp _ s
  | clearCounters => exact clearCounters_runs.takeOp _ s
  | getBranch => exact (ReplyRuns.of_same getBranch_same).takeOp _ s
  | getTransactions => exact (ReplyRuns.of_same getTransactions_same).takeOp _ s
  | saveImage => exact takeOp_runs _ saveImageAction_runs s
  | retireImage => exact takeOp_runs _ retireImageAction_runs s
  | getStore => exact (ReplyRuns.of_same getStore_same).takeOp _ s
  | resume => exact resume_runs.takeOp _ s
  | forceFailsafe => exact takeOp_runs _ forceFailsafeAction_runs s
  | getFailsafeReport => exact (ReplyRuns.of_same getFailsafeReport_same).takeOp _ s
  | restart => exact restart_runs.takeOp _ s

theorem State.sent_frame (s : State) (i : OutItem) : s.sent i = { s with table := (s.sent i).table, up := (s.sent i).up } := by
  have hpromote (t : State) : t.promote = { t with table := t.promote.table, up := t.promote.up } := by
    unfold State.promote
    split
    · rfl
    · split
      · rfl
      · split <;> rfl
  have hrate (t : State) (n : ReleaseNote) : t.rateChange n = { t with up := (t.rateChange n).up } := by cases n <;> rfl
  have hrelease (t : State) (n : ReleaseNote) : t.release n = { t with table := (t.release n).table } := by cases n <;> rfl
  unfold State.sent State.startSpacing
  rw [hrate, hpromote, hrelease]
  rfl

theorem State.restarted_course (s : State) (n : ReleaseNote) (hl : s.live = true) : Course s (s.restarted n) := by
  unfold State.restarted
  split
  · rw [State.warmStart_eq]
    exact .settled (.single (.inr (.warmStarts s hl)))
  · exact .of_calm (.coldBegins s s.pins .mgmtCold)
  · exact .refl s

theorem execEndOfTransmission_runs (s : State) :
    NextHas (fun t => ∃ u, Opening s u ∧ Course u t) (execEndOfTransmission s) := by
  refine NextHas.guarded fun hl => ?_
  split
  · rename_i i rest ht hq
    refine ⟨s.sent i, .sent i rest hl ht hq, ?_⟩
    rw [State.transmitted_eq]
    exact State.restarted_course _ _ (by rw [State.sent_frame]; exact hl)
  · trivial

/-- Every command: an opening, then a course. -/
theorem exec_course {c : Instr} {s t : State} (h : exec c s = .next t) : ∃ u, Opening s u ∧ Course u t := by
  by_cases hc : c = .endOfTransmission
  · subst hc
    exact (execEndOfTransmission_runs s).holds h
  · exact ⟨s, .atOnce, (exec_runs hc s).holds h⟩

/-- A state but for the queue of the waiting commands, and the counter of free values. -/
inductive Awaited (s : State) : State → Prop
  | waiting (rest : List Instr) : Awaited s { s with pending := rest }
  | free (n : Nat) : Awaited s { s with free := n }

theorem Awaited.refl (s : State) : Awaited s s := .waiting s.pending

theorem State.startBit_calm (s : State) (l : Option BranchId) : Calm s (s.startBit l) := by
  cases l with
  | none => exact .upReceiver s _
  | some b => exact s.setRx_calm b _ (by cases (s.branch b).rx <;> simp)

/-- Every step: a command waits or an own event is due, or time passes; then an opening and a course. -/
theorem step_course {s t : State} (h : step s = .next t) : ∃ u v, Awaited s u ∧ Opening u v ∧ Course v t := by
  have hown : Awaited s s.nextDue.2 := by
    obtain ⟨-, hsame | hdrawn⟩ := s.nextDue_mem
    · rw [hsame]
      exact .refl s
    · rw [hdrawn]
      exact .free _
  unfold step at h
  split at h
  · rename_i c rest _
    obtain ⟨v, hopen, hcourse⟩ := exec_course h
    exact ⟨_, v, .waiting rest, hopen, hcourse⟩
  · split at h <;> rename_i hnext <;> rw [hnext] at hown
    · obtain ⟨v, hopen, hcourse⟩ := exec_course h
      exact ⟨_, v, hown, hopen, hcourse⟩
    · cases h
      exact ⟨_, _, hown, .atOnce, .of_calm (State.startBit_calm _ _)⟩
    · cases h
      exact ⟨_, _, hown, .atOnce, .of_calm (.periodPasses _)⟩
    · cases h
      exact ⟨_, _, hown, .atOnce, .refl _⟩

/-- A condition that the moves and the ends of transmission keep, and that says nothing of the waiting commands and the free
values, is kept by every step. -/
theorem step_keeps {p : State → Prop} (hawaited : ∀ s u, Awaited s u → p s → p u)
    (hsent : ∀ s i rest, s.live = true → s.up.tx = .sending 0 → s.up.queue = i :: rest → p s → p (s.sent i))
    (hcalm : ∀ s t, Calm s t → p s → p t) (hstir : ∀ s t, Stir s t → p s → p t) {s t : State} (hs : p s)
    (h : step s = .next t) : p t := by
  obtain ⟨u, v, hu, hv, hcourse⟩ := step_course h
  have hpu : p u := hawaited s u hu hs
  refine hcourse.keeps hcalm hstir ?_
  cases hv with
  | atOnce => exact hpu
  | sent i rest hl ht hq => exact hsent u i rest hl ht hq hpu

end Sys2Proof.Machine
end

section
/-! PROOFS. The image store (R154 to R160), the configuration sets (R29, R36, R163) and the ranges of the counts (R63, R95): what the
moves of an event keep of them. -/

namespace Sys2Proof.Machine

open Relation

/-! ### Blocks that moves leave alone -/

/-- The blocks that only the operations on configurations and the store, and the starts, write. -/
structure StoredData where
  store  : Store
  active : ConfigSet
  shadow : ConfigSet
  held   : Bool

/-- The part is held reset. -/
def Pins.held (p : Pins) : Bool := p.supplyLow || p.rstnLow

def State.stored (s : State) : StoredData :=
  { store := s.store, active := s.active, shadow := s.shadow, held := s.pins.held }

@[simp] theorem State.complete_stored (s : State) (k : Nat) (f : Form) : (s.complete k f).stored = s.stored := by
  rw [State.complete_frame]; rfl

@[simp] theorem State.takeToken_stored (s : State) (r : StationRecord) : (s.takeToken r).stored = s.stored := by
  rw [State.takeToken_frame]; rfl

@[simp] theorem State.refuse_stored (s : State) (f : Frame) (r : RefusalReason) : (s.refuse f r).stored = s.stored := by
  unfold State.refuse
  split <;> rfl

@[simp] theorem State.arbitrate_stored (s : State) (b : BranchId) : (s.arbitrate b).stored = s.stored := by
  rw [State.arbitrate_frame]; rfl

@[simp] theorem State.pollReleased_stored (s : State) (p : PollItem) : (s.pollReleased p).stored = s.stored := by
  rw [State.pollReleased_frame]; rfl

@[simp] theorem State.heldIfDone_stored (s : State) : s.heldIfDone.stored = s.stored := by
  rw [State.heldIfDone_frame]; rfl

@[simp] theorem State.sent_stored (s : State) (i : OutItem) : (s.sent i).stored = s.stored := by
  rw [State.sent_frame]; rfl

@[simp] theorem State.tick_stored (s : State) : s.tick.stored = s.stored := by
  unfold State.tick
  dsimp only
  split <;> rfl

theorem State.eachBranch_frame {α : Type} {v : State → α} {f : State → BranchId → State × List Job}
    (hf : ∀ t b, v (f t b).1 = v t) (s : State) : v (s.eachBranch f).1 = v s := by
  simp only [State.eachBranch, hf]

theorem State.commitBranch_frame (s : State) (old : ConfigSet) (b : BranchId) : (s.commitBranch old b).1 =
    { s with table := (s.commitBranch old b).1.table, sup := (s.commitBranch old b).1.sup
             branches := (s.commitBranch old b).1.branches } := by
  unfold State.commitBranch
  split
  · simp only [State.disableBranch]
    rw [State.itemsSkipped_frame, State.sharesAborted_frame]
    rfl
  · unfold State.enableBranch
    dsimp only
    split <;> rfl
  · rfl

theorem State.commitSilence_frame (s : State) (old : ConfigSet) :
    s.commitSilence old = { s with sup := (s.commitSilence old).sup } := by
  unfold State.commitSilence
  split
  · rfl
  · split <;> rfl

/-- A commit copies SHADOW to ACTIVE (R36). -/
theorem State.replaceActive_stored (s : State) : s.replaceActive.1.stored = { s.stored with active := s.shadow } := by
  have heach := State.eachBranch_frame (v := State.stored) (f := fun t b => t.commitBranch s.active b)
    (fun t b => by rw [State.commitBranch_frame]; rfl) { s with active := s.shadow }
  unfold State.replaceActive
  dsimp only
  rw [State.heldIfDone_stored, State.commitSilence_frame]
  exact heach

theorem State.failsafeClaim_stored (s : State) (b : BranchId) : (s.failsafeClaim b).1.stored = s.stored := by
  unfold State.failsafeClaim
  dsimp only
  rw [State.sharesAborted_frame]
  rfl

theorem State.listAction_stored (s : State) (r : StationRecord) : (s.listAction r).stored = s.stored := by
  unfold State.listAction
  split
  · rfl
  · dsimp only
    split <;> rfl

@[simp] theorem State.failsafeEntry_stored (s : State) (cause : EntryCause) : (s.failsafeEntry cause).1.stored = s.stored := by
  unfold State.failsafeEntry
  dsimp only
  show State.stored (List.foldl _ _ _) = _
  rw [foldl_frame State.listAction_stored, State.eachBranch_frame State.failsafeClaim_stored]
  rfl

/-! ### Moves of the stored data -/

/-- What a move does to the stored data: nothing, or what it is named for. -/
inductive StoredMove (d : StoredData) : StoredData → Prop
  | same : StoredMove d d
  | commits (h : d.shadow.offence = none) : StoredMove d { d with active := d.shadow }
  | shadow (c : ConfigSet) (h : MapOrdered d.active → MapOrdered d.shadow → MapOrdered c) : StoredMove d { d with shadow := c }
  | saveBegins (k : Nat) (hb : d.store.busy = .idle) (h : d.store.lowestBlank = some k) :
      StoredMove d { d with store := { d.store.update k (fun c => c.saveBegun d.active) with busy := .saving k } }
  | retireBegins (k : Nat) (c : ImageSlot) (hb : d.store.busy = .idle) (h : d.store.slot? k = some c) (hc : c.state = .valid) :
      StoredMove d { d with store := { d.store with busy := .retiring k } }
  | saveEnds (k : Nat) (v : Bool) (hb : d.store.busy = .saving k) :
      StoredMove d { d with store := { d.store.update k (fun c => c.saveEnded v) with busy := .idle } }
  | retireEnds (k : Nat) (hb : d.store.busy = .retiring k) :
      StoredMove d { d with store := { d.store.update k ImageSlot.retireEnded with busy := .idle } }
  | idleHeld (hb : d.store.busy = .idle) : StoredMove d { d with held := true }
  | saveCut (k : Nat) (hb : d.store.busy = .saving k) : StoredMove d
      { d with store := { d.store.update k (fun c => { c with state := .spoiled, verify := false }) with busy := .idle }
               held := true }
  | retireCut (k : Nat) (w : Bool) (hb : d.store.busy = .retiring k) :
      StoredMove d { d with store := { d.store.update k (fun c => c.retireCut w) with busy := .idle }, held := true }
  | staysHeld : StoredMove d { d with held := true }
  | classifies (holds : Nat → Bool) (held : Bool) (c : ConfigSet)
      (hc : c = ((d.store.aged holds).classify.newest.map fun best => best.2).getD factoryConfig) :
      StoredMove d { store := (d.store.aged holds).classify, active := c, shadow := c, held := held }

theorem Calm.storedMove {s t : State} (h : Calm s t) : StoredMove s.stored t.stored := by
  cases h with
  | completes k f => rw [State.complete_stored]; exact .same
  | refuses f r => rw [State.refuse_stored]; exact .same
  | takesToken r hr => rw [State.takeToken_stored]; exact .same
  | shadow c h => exact .shadow c h
  | saveBegins k hb h => exact .saveBegins k hb h
  | retireBegins k c hb h hc => exact .retireBegins k c hb h hc
  | saveEnds k v hb => exact .saveEnds k v hb
  | retireEnds k hb => exact .retireEnds k hb
  | falls p h =>
    have hp : p.held = true := by simpa [Pins.held] using h
    unfold State.resetBegun State.cutStore
    split <;> rename_i hb
    · have hmove := StoredMove.idleHeld (d := s.stored) hb
      rwa [← hp] at hmove
    · have hmove := StoredMove.saveCut (d := s.stored) _ hb
      rwa [← hp] at hmove
    · have hmove := StoredMove.retireCut (d := s.stored) _ (Config.retireMarkWritten s.free) hb
      rwa [← hp] at hmove
  | staysHeld p h =>
    have hp : p.held = true := by simpa [Pins.held] using h
    have hmove := StoredMove.staysHeld (d := s.stored)
    rwa [← hp] at hmove
  | coldBegins p cause => exact .classifies (d := s.stored) (Config.checkHolds s.free) p.held _ rfl
  | periodPasses => rw [State.tick_stored]; exact .same
  | _ => exact .same

theorem Stir.storedMove {s t : State} (h : Stir s t) : StoredMove s.stored t.stored := by
  cases h with
  | picks b => rw [State.arbitrate_stored]; exact .same
  | releasesPoll p => rw [State.pollReleased_stored]; exact .same
  | leaves b h => rw [State.heldIfDone_stored]; exact .same
  | faults b h hi => rw [State.heldIfDone_stored]; exact .same
  | commits hl h => rw [State.replaceActive_stored]; exact .commits h
  | entersFailsafe cause hl h => rw [State.failsafeEntry_stored]; exact .same
  | _ => exact .same

/-- A condition on the stored data that its moves keep is kept by every step. -/
theorem step_keeps_stored {p : StoredData → Prop} (hmove : ∀ d d', StoredMove d d' → p d → p d') {s t : State}
    (hs : p s.stored) (h : step s = .next t) : p t.stored :=
  step_keeps (p := fun s => p s.stored) (fun _ _ ha hp => by cases ha <;> exact hp)
    (fun u i _ _ _ _ hp => by rw [State.sent_stored]; exact hp)
    (fun _ _ hc => hmove _ _ hc.storedMove) (fun _ _ hc => hmove _ _ hc.storedMove) hs h

/-! ### The slots of the store -/

theorem Store.slot?_update (st : Store) (k j : Nat) (f : ImageSlot → ImageSlot) :
    (st.update k f).slot? j = if j = k then (st.slot? j).map f else st.slot? j := by
  simp only [Store.slot?, Store.update, List.getElem?_modify]
  by_cases h : j = k
  · simp [h]
  · simp [h, Ne.symm h]

theorem Store.mem_update {st : Store} {k : Nat} {f : ImageSlot → ImageSlot} {c : ImageSlot} (h : c ∈ (st.update k f).slots) :
    c ∈ st.slots ∨ ∃ x, st.slot? k = some x ∧ c = f x := by
  obtain ⟨j, hj⟩ := List.mem_iff_getElem?.1 h
  have hget : (st.update k f).slot? j = some c := hj
  rw [Store.slot?_update] at hget
  split at hget
  · rename_i hjk
    subst hjk
    obtain ⟨x, hx, rfl⟩ := Option.map_eq_some_iff.1 hget
    exact .inr ⟨x, hx, rfl⟩
  · exact .inl (List.mem_iff_getElem?.2 ⟨j, hget⟩)

theorem Store.mem_of_slot? {st : Store} {k : Nat} {c : ImageSlot} (h : st.slot? k = some c) : c ∈ st.slots :=
  List.mem_iff_getElem?.2 ⟨k, h⟩

theorem Store.mem_classify_aged {st : Store} {holds : Nat → Bool} {c : ImageSlot} (h : c ∈ (st.aged holds).classify.slots) :
    ∃ x ∈ st.slots, ∃ good, c = { x with checkGood := good, state := { x with checkGood := good }.classified } := by
  obtain ⟨j, hj⟩ := List.mem_iff_getElem?.1 h
  have hget : (st.aged holds).classify.slot? j = some c := hj
  rw [Store.classify_aged_slot?] at hget
  obtain ⟨x, hx, rfl⟩ := Option.map_eq_some_iff.1 hget
  exact ⟨x, Store.mem_of_slot? hx, _, rfl⟩

theorem newestFrom_mem {k : Nat} {cs : List ImageSlot} {best : Nat × ConfigSet} (h : newestFrom k cs = some best) :
    ∃ c ∈ cs, c.image = some best.2 := by
  induction cs generalizing k with
  | nil => simp [newestFrom] at h
  | cons c cs ih =>
    unfold newestFrom at h
    split at h
    · rename_i best' hlater
      cases h
      obtain ⟨x, hx, hxi⟩ := ih hlater
      exact ⟨x, List.mem_cons_of_mem _ hx, hxi⟩
    · split at h
      · cases h
        exact ⟨c, List.mem_cons_self .., ‹_›⟩
      · simp at h

/-! ### Configuration sets -/

/-- A condition on configuration sets holds of ACTIVE, and of every image of the store. -/
def StoredData.setsHave (p : ConfigSet → Prop) (d : StoredData) : Prop :=
  p d.active ∧ ∀ c ∈ d.store.slots, ∀ image, c.image = some image → p image

theorem StoredMove.keeps_sets {p : ConfigSet → Prop} (hfactory : p factoryConfig) {d d' : StoredData} (h : StoredMove d d')
    (hcommit : d.shadow.offence = none → p d.shadow) (hd : d.setsHave p) : d'.setsHave p := by
  obtain ⟨hactive, himages⟩ := hd
  cases h with
  | same | retireBegins | idleHeld | staysHeld | shadow => exact ⟨hactive, himages⟩
  | commits h => exact ⟨hcommit h, himages⟩
  | saveBegins k hb h =>
    refine ⟨hactive, fun c hc image hi => ?_⟩
    obtain hc | ⟨x, hx, rfl⟩ := Store.mem_update hc
    · exact himages c hc image hi
    · cases hi
      exact hactive
  | saveEnds k v hb | retireEnds k hb | saveCut k hb | retireCut k w hb =>
    refine ⟨hactive, fun c hc image hi => ?_⟩
    obtain hc | ⟨x, hx, rfl⟩ := Store.mem_update hc
    · exact himages c hc image hi
    · exact himages x (Store.mem_of_slot? hx) image hi
  | classifies holds held c hc =>
    have himages' : ∀ c ∈ (d.store.aged holds).classify.slots, ∀ image, c.image = some image → p image := by
      intro c hc image hi
      obtain ⟨x, hx, good, rfl⟩ := Store.mem_classify_aged hc
      exact himages x hx image hi
    refine ⟨?_, himages'⟩
    show p c
    rw [hc]
    cases hnewest : (d.store.aged holds).classify.newest with
    | none => exact hfactory
    | some best =>
      obtain ⟨x, hx, hxi⟩ := newestFrom_mem hnewest
      exact himages' x hx best.2 hxi

theorem mapOrdered_factory : MapOrdered factoryConfig := ⟨by decide, List.Pairwise.nil⟩

/-- The condition `MapsOrdered` of the stored data. -/
def StoredData.ordered (d : StoredData) : Prop := d.setsHave MapOrdered ∧ MapOrdered d.shadow

theorem mapsOrdered_iff (s : State) : MapsOrdered s ↔ s.stored.ordered := by
  unfold MapsOrdered StoredData.ordered StoredData.setsHave
  exact ⟨fun ⟨ha, hs, hi⟩ => ⟨⟨ha, hi⟩, hs⟩, fun ⟨⟨ha, hi⟩, hs⟩ => ⟨ha, hs, hi⟩⟩

theorem StoredMove.keeps_ordered {d d' : StoredData} (h : StoredMove d d') (hd : d.ordered) : d'.ordered := by
  have hsets : d'.setsHave MapOrdered := h.keeps_sets mapOrdered_factory (fun _ => hd.2) hd.1
  refine ⟨hsets, ?_⟩
  cases h with
  | shadow c h => exact h hd.1.1 hd.2
  | classifies holds held c hc => exact hsets.1
  | _ => exact hd.2

theorem step_keeps_mapsOrdered {s t : State} (hs : MapsOrdered s) (h : step s = .next t) : MapsOrdered t :=
  (mapsOrdered_iff t).2 (step_keeps_stored (fun _ _ hmove => hmove.keeps_ordered) ((mapsOrdered_iff s).1 hs) h)

theorem Calm.keeps_mapsOrdered {s t : State} (h : Calm s t) (hs : MapsOrdered s) : MapsOrdered t :=
  (mapsOrdered_iff t).2 (h.storedMove.keeps_ordered ((mapsOrdered_iff s).1 hs))

theorem Stir.keeps_mapsOrdered {s t : State} (h : Stir s t) (hs : MapsOrdered s) : MapsOrdered t :=
  (mapsOrdered_iff t).2 (h.storedMove.keeps_ordered ((mapsOrdered_iff s).1 hs))

theorem step_keeps_activeValid {s t : State} (hs : ActiveValid s) (h : step s = .next t) : ActiveValid t :=
  step_keeps_stored (p := fun d => d.setsHave fun c => c.offence = none) (s := s) (t := t)
    (fun _ _ hmove hd => hmove.keeps_sets (p := fun c => c.offence = none) rfl id hd) hs h

/-- Settles O56: ACTIVE is loaded from the store, or copied from a valid SHADOW, and the store is written from ACTIVE. -/
theorem stepsKeepConfigurations : Obligations.StepsKeepConfigurations :=
  ⟨fun _ _ => step_keeps_mapsOrdered, fun _ _ => step_keeps_activeValid⟩

end Sys2Proof.Machine
end

section
/-! PROOFS. The image slots: what the store operations and classification leave of the marks of a slot (R154 to R160). -/

namespace Sys2Proof.Machine

/-! ### One slot of the store record -/

/-- The state that the store record holds of a slot agrees with its header mark (R155). -/
def ImageSlot.headed (c : ImageSlot) : Prop := c.state = .blank ↔ c.header = false

/-- The state that the store record holds of a slot agrees with its marks, while a save of it is in progress or not, and the part
is held reset or not (R155, R160). -/
def ImageSlot.agrees (c : ImageSlot) (saving held : Prop) : Prop :=
  (c.state = .blank → c.header = false ∧ c.verify = false ∧ c.checkGood = false ∧ c.retire = false)
  ∧ (c.state = .writing → c.header = true ∧ c.verify = false ∧ c.retire = false ∧ c.image.isSome = true ∧ saving)
  ∧ (c.state = .valid → c.header = true ∧ c.verify = true ∧ c.checkGood = true ∧ c.image.isSome = true
      ∧ (c.retire = true → held))
  ∧ (c.state = .retired → c.header = true ∧ c.verify = true ∧ c.checkGood = true ∧ c.image.isSome = true ∧ c.retire = true)
  ∧ (c.state = .spoiled → c.header = true ∧ (c.verify = false ∨ c.checkGood = false ∨ c.image = none))

/-- A slot as classification at a cold start leaves it (R155). -/
def ImageSlot.reclassified (c : ImageSlot) (holds : Bool) : ImageSlot :=
  { c with checkGood := c.checkGood && holds, state := { c with checkGood := c.checkGood && holds }.classified }

theorem Store.slot?_classify_aged (st : Store) (holds : Nat → Bool) (k : Nat) :
    (st.aged holds).classify.slot? k = (st.slot? k).map fun c => c.reclassified (holds k) :=
  Store.classify_aged_slot? st holds k

theorem ImageSlot.reclassified_headed (c : ImageSlot) (holds : Bool) : (c.reclassified holds).headed := by
  unfold ImageSlot.headed ImageSlot.reclassified ImageSlot.classified
  cases c.header <;> simp
  (repeat' split) <;> simp

theorem ImageSlot.agrees.mono {c : ImageSlot} {p q held held' : Prop} (h : c.agrees p held) (hp : c.state = .writing → p → q)
    (hh : held → held') : c.agrees q held' := by
  obtain ⟨hblank, hwriting, hvalid, hretired, hspoiled⟩ := h
  refine ⟨hblank, fun hw => ?_, fun hv => ?_, hretired, hspoiled⟩
  · obtain ⟨h1, h2, h3, h4, h5⟩ := hwriting hw
    exact ⟨h1, h2, h3, h4, hp hw h5⟩
  · obtain ⟨h1, h2, h3, h4, h5⟩ := hvalid hv
    exact ⟨h1, h2, h3, h4, fun hr => hh (h5 hr)⟩

theorem ImageSlot.reclassified_agrees {c : ImageSlot} {p held held' : Prop} (holds : Bool) (hc : c.headed)
    (h : c.agrees p held) (q : Prop) : (c.reclassified holds).agrees q held' := by
  have hbare : c.header = false → c.verify = false ∧ c.checkGood = false ∧ c.retire = false :=
    fun hh => (h.1 (hc.2 hh)).2
  unfold ImageSlot.agrees ImageSlot.reclassified ImageSlot.classified ImageSlot.checked
  rcases hheader : c.header
  · simp [hbare hheader]
  · cases hverify : c.verify <;> cases hgood : c.checkGood <;> cases holds <;> cases himage : c.image <;>
      cases hretire : c.retire <;> simp

/-! ### The whole store -/

/-- The condition `StoreConsistent` of a store. -/
def Store.consistent (st : Store) : Prop :=
  st.slots.length = 8 ∧ (∀ k c, st.slot? k = some c → c.headed)
  ∧ (∀ k, st.busy = .saving k → ∃ c, st.slot? k = some c ∧ c.state = .writing)
  ∧ (∀ k, st.busy = .retiring k → ∃ c, st.slot? k = some c ∧ c.state = .valid)

theorem Store.mem_slots_iff {st : Store} {c : ImageSlot} : c ∈ st.slots ↔ ∃ k, st.slot? k = some c :=
  List.mem_iff_getElem?

theorem storeConsistent_iff (s : State) : StoreConsistent s ↔ s.store.consistent := by
  simp only [StoreConsistent, Store.consistent, Store.mem_slots_iff, forall_exists_index]
  rw [forall_comm]
  rfl

/-- The condition `MarksAgree` of a store. -/
def Store.marksAgree (st : Store) (held : Prop) : Prop := ∀ k c, st.slot? k = some c → c.agrees (st.busy = .saving k) held

theorem marksAgree_iff (s : State) : MarksAgree s ↔ s.store.marksAgree (s.pins.held = true) := by
  simp [MarksAgree, Store.marksAgree, ImageSlot.agrees, Pins.held]

/-- A slot stays, or is the slot that a store operation names, or has been classified. -/
theorem Store.slot?_update_cases {st : Store} {k j : Nat} {f : ImageSlot → ImageSlot} {c : ImageSlot}
    (h : (st.update k f).slot? j = some c) : (j ≠ k ∧ st.slot? j = some c) ∨ ∃ x, j = k ∧ st.slot? k = some x ∧ c = f x := by
  rw [Store.slot?_update] at h
  split at h
  · rename_i hjk
    subst hjk
    obtain ⟨x, hx, rfl⟩ := Option.map_eq_some_iff.1 h
    exact .inr ⟨x, rfl, hx, rfl⟩
  · exact .inl ⟨‹_›, h⟩

theorem Store.slot?_update_self {st : Store} {k : Nat} {f : ImageSlot → ImageSlot} {c : ImageSlot} (h : st.slot? k = some c) :
    (st.update k f).slot? k = some (f c) := by
  rw [Store.slot?_update, if_pos rfl, h]
  rfl

theorem Store.lowestBlank_slot {st : Store} {k : Nat} (h : st.lowestBlank = some k) :
    ∃ c, st.slot? k = some c ∧ c.state = .blank := by
  obtain ⟨hlt, hblank, -⟩ := List.findIdx?_eq_some_iff_getElem.1 h
  exact ⟨_, List.getElem?_eq_getElem hlt, by simpa using hblank⟩

@[simp] theorem Store.update_length (st : Store) (k : Nat) (f : ImageSlot → ImageSlot) :
    (st.update k f).slots.length = st.slots.length := List.length_modify ..

/-- A store whose operation has ended or been cut off stays consistent where its slot keeps its header mark and does not turn BLANK. -/
theorem Store.consistent_update {st : Store} {k : Nat} {f : ImageSlot → ImageSlot} (h : st.consistent)
    (hf : ∀ c, st.slot? k = some c → (f c).headed) : ({ st.update k f with busy := .idle } : Store).consistent := by
  obtain ⟨hlen, hhead, -⟩ := h
  refine ⟨by simpa using hlen, fun j c hc => ?_, nofun, nofun⟩
  obtain ⟨-, hx⟩ | ⟨x, rfl, hx, rfl⟩ := Store.slot?_update_cases hc
  · exact hhead j c hx
  · exact hf x hx

theorem StoredMove.keeps_consistent {d d' : StoredData} (h : StoredMove d d') (hd : d.store.consistent) : d'.store.consistent := by
  obtain ⟨hlen, hhead, hsaving, hretiring⟩ := hd
  cases h with
  | same | commits | shadow | idleHeld | staysHeld => exact ⟨hlen, hhead, hsaving, hretiring⟩
  | saveBegins k hb h =>
    obtain ⟨x, hx, -⟩ := Store.lowestBlank_slot h
    refine ⟨by simpa using hlen, fun j c hc => ?_, fun j hj => ?_, nofun⟩
    · obtain ⟨-, hy⟩ | ⟨y, rfl, hy, rfl⟩ := Store.slot?_update_cases hc
      · exact hhead j c hy
      · simp [ImageSlot.headed, ImageSlot.saveBegun]
    · cases hj
      exact ⟨_, Store.slot?_update_self hx, rfl⟩
  | retireBegins k c hb h hc =>
    refine ⟨hlen, hhead, nofun, fun j hj => ?_⟩
    cases hj
    exact ⟨c, h, hc⟩
  | saveEnds k v hb =>
    obtain ⟨x, hx, hw⟩ := hsaving k hb
    refine Store.consistent_update ⟨hlen, hhead, hsaving, hretiring⟩ fun c hc => ?_
    have hheader := hhead k c hc
    obtain rfl : x = c := Option.some.inj (hx.symm.trans hc)
    cases v <;> simp_all [ImageSlot.headed, ImageSlot.saveEnded]
  | retireEnds k hb =>
    obtain ⟨x, hx, hv⟩ := hretiring k hb
    refine Store.consistent_update ⟨hlen, hhead, hsaving, hretiring⟩ fun c hc => ?_
    have hheader := hhead k c hc
    obtain rfl : x = c := Option.some.inj (hx.symm.trans hc)
    simp_all [ImageSlot.headed, ImageSlot.retireEnded]
  | saveCut k hb =>
    obtain ⟨x, hx, hw⟩ := hsaving k hb
    refine Store.consistent_update ⟨hlen, hhead, hsaving, hretiring⟩ fun c hc => ?_
    have hheader := hhead k c hc
    obtain rfl : x = c := Option.some.inj (hx.symm.trans hc)
    simp_all [ImageSlot.headed]
  | retireCut k w hb =>
    exact Store.consistent_update ⟨hlen, hhead, hsaving, hretiring⟩ fun c hc => hhead k c hc
  | classifies holds held c hc =>
    refine ⟨by simpa [Store.classify, Store.aged] using hlen, fun j c hc => ?_, nofun, nofun⟩
    rw [Store.slot?_classify_aged] at hc
    obtain ⟨x, -, rfl⟩ := Option.map_eq_some_iff.1 hc
    exact x.reclassified_headed _

/-- A slot that is BLANK after a move was BLANK before it (R156). -/
theorem StoredMove.blank_before {d d' : StoredData} (h : StoredMove d d') (hd : d.store.consistent) {k : Nat} {c' : ImageSlot}
    (hc' : d'.store.slot? k = some c') : ∃ c, d.store.slot? k = some c ∧ (c'.state = .blank → c.state = .blank) := by
  have hupdated {j : Nat} {f : ImageSlot → ImageSlot} (hf : ∀ c, (f c).state = .blank → c.state = .blank)
      (h : (d.store.update j f).slot? k = some c') :
      ∃ c, d.store.slot? k = some c ∧ (c'.state = .blank → c.state = .blank) := by
    obtain ⟨-, hx⟩ | ⟨x, rfl, hx, rfl⟩ := Store.slot?_update_cases h
    · exact ⟨c', hx, id⟩
    · exact ⟨x, hx, hf x⟩
  cases h with
  | same | commits | shadow | idleHeld | staysHeld | retireBegins => exact ⟨c', hc', id⟩
  | saveBegins => exact hupdated (fun c h => by simp [ImageSlot.saveBegun] at h) hc'
  | retireEnds => exact hupdated (fun c h => by simp [ImageSlot.retireEnded] at h) hc'
  | saveCut => exact hupdated (fun c h => by simp at h) hc'
  | saveEnds k v hb => exact hupdated (fun c h => by cases v <;> simp [ImageSlot.saveEnded] at h) hc'
  | retireCut k w hb => exact hupdated (f := fun c => c.retireCut w) (fun _ h => h) hc'
  | classifies holds held c hc =>
    rw [Store.slot?_classify_aged] at hc'
    obtain ⟨x, hx, rfl⟩ := Option.map_eq_some_iff.1 hc'
    exact ⟨x, hx, fun hblank => (hd.2.1 k x hx).2 ((x.reclassified_headed _).1 hblank)⟩

theorem countP_le_of_getElem? {α : Type} {p : α → Bool} {l l' : List α}
    (h : ∀ (k : Nat) (x' : α), l'[k]? = some x' → ∃ x, l[k]? = some x ∧ (p x' = true → p x = true)) : l'.countP p ≤ l.countP p := by
  induction l' generalizing l with
  | nil => simp
  | cons x' xs' ih =>
    obtain ⟨x, hx, hp⟩ := h 0 x' rfl
    cases l with
    | nil => simp at hx
    | cons y ys =>
      cases hx
      have htail : xs'.countP p ≤ ys.countP p := ih fun k z hz => h (k + 1) z hz
      rw [List.countP_cons, List.countP_cons]
      split <;> split <;> first | omega | exact absurd (hp ‹_›) ‹_›

theorem Store.count_blank_le {st st' : Store}
    (h : ∀ k c', st'.slot? k = some c' → ∃ c, st.slot? k = some c ∧ (c'.state = .blank → c.state = .blank)) :
    st'.count .blank ≤ st.count .blank := by
  unfold Store.count
  rw [← List.countP_eq_length_filter, ← List.countP_eq_length_filter]
  exact countP_le_of_getElem? fun k x' hx' => by simpa [Store.slot?] using h k x' hx'

theorem StoredMove.keeps_marks {d d' : StoredData} (h : StoredMove d d') (hd : d.store.consistent)
    (hm : d.store.marksAgree (d.held = true)) : d'.store.marksAgree (d'.held = true) := by
  obtain ⟨-, hhead, hsaving, hretiring⟩ := hd
  intro j c' hc'
  cases h with
  | same | commits | shadow => exact hm j c' hc'
  | idleHeld | staysHeld => exact (hm j c' hc').mono (fun _ => id) fun _ => rfl
  | retireBegins k x hb h hx => exact (hm j c' hc').mono (fun _ h => by simp [hb] at h) id
  | saveBegins k hb h =>
    obtain ⟨-, hy⟩ | ⟨y, rfl, hy, rfl⟩ := Store.slot?_update_cases hc'
    · exact (hm j c' hy).mono (fun _ h => by simp [hb] at h) id
    · obtain ⟨x, hx, hblank⟩ := Store.lowestBlank_slot h
      obtain rfl : y = x := Option.some.inj (hy.symm.trans hx)
      obtain ⟨-, -, -, hretire⟩ := (hm j y hy).1 hblank
      simp [ImageSlot.agrees, ImageSlot.saveBegun, hretire]
  | saveEnds k v hb =>
    obtain ⟨hjk, hy⟩ | ⟨y, rfl, hy, rfl⟩ := Store.slot?_update_cases hc'
    · exact (hm j c' hy).mono (fun _ h => by simp [hb, Ne.symm hjk] at h) id
    · obtain ⟨x, hx, hw⟩ := hsaving j hb
      obtain rfl : y = x := Option.some.inj (hy.symm.trans hx)
      obtain ⟨hheader, -, hretire, himage, -⟩ := (hm j y hy).2.1 hw
      cases v <;> simp [ImageSlot.agrees, ImageSlot.saveEnded, hheader, hretire, himage]
  | saveCut k hb =>
    obtain ⟨hjk, hy⟩ | ⟨y, rfl, hy, rfl⟩ := Store.slot?_update_cases hc'
    · exact (hm j c' hy).mono (fun _ h => by simp [hb, Ne.symm hjk] at h) fun _ => rfl
    · obtain ⟨x, hx, hw⟩ := hsaving j hb
      obtain rfl : y = x := Option.some.inj (hy.symm.trans hx)
      obtain ⟨hheader, -⟩ := (hm j y hy).2.1 hw
      simp [ImageSlot.agrees, hheader]
  | retireEnds k hb =>
    obtain ⟨-, hy⟩ | ⟨y, rfl, hy, rfl⟩ := Store.slot?_update_cases hc'
    · exact (hm j c' hy).mono (fun _ h => by simp [hb] at h) id
    · obtain ⟨x, hx, hv⟩ := hretiring j hb
      obtain rfl : y = x := Option.some.inj (hy.symm.trans hx)
      obtain ⟨hheader, hverify, hgood, himage, -⟩ := (hm j y hy).2.2.1 hv
      simp [ImageSlot.agrees, ImageSlot.retireEnded, hheader, hverify, hgood, himage]
  | retireCut k w hb =>
    obtain ⟨-, hy⟩ | ⟨y, rfl, hy, rfl⟩ := Store.slot?_update_cases hc'
    · exact (hm j c' hy).mono (fun _ h => by simp [hb] at h) fun _ => rfl
    · obtain ⟨x, hx, hv⟩ := hretiring j hb
      obtain rfl : y = x := Option.some.inj (hy.symm.trans hx)
      obtain ⟨hheader, hverify, hgood, himage, -⟩ := (hm j y hy).2.2.1 hv
      simp [ImageSlot.agrees, ImageSlot.retireCut, hv, hheader, hverify, hgood, himage]
  | classifies holds held c hc =>
    rw [Store.slot?_classify_aged] at hc'
    obtain ⟨x, hx, rfl⟩ := Option.map_eq_some_iff.1 hc'
    exact ImageSlot.reclassified_agrees _ (hhead j x hx) (hm j x hx) _

theorem step_keeps_storeConsistent {s t : State} (hs : StoreConsistent s) (h : step s = .next t) :
    StoreConsistent t ∧ t.blankSlots ≤ s.blankSlots := by
  have hkept := step_keeps_stored (p := fun d => d.store.consistent ∧ d.store.count .blank ≤ s.blankSlots) (s := s) (t := t)
    (fun d d' hmove hd => ⟨hmove.keeps_consistent hd.1,
      (Store.count_blank_le fun _ _ => hmove.blank_before hd.1).trans hd.2⟩) ⟨(storeConsistent_iff s).1 hs, Nat.le_refl _⟩ h
  exact ⟨(storeConsistent_iff t).2 hkept.1, hkept.2⟩

theorem step_keeps_marksAgree {s t : State} (hs : StoreConsistent s) (hm : MarksAgree s) (h : step s = .next t) : MarksAgree t := by
  have hkept := step_keeps_stored (p := fun d => d.store.consistent ∧ d.store.marksAgree (d.held = true)) (s := s) (t := t)
    (fun d d' hmove hd => ⟨hmove.keeps_consistent hd.1, hmove.keeps_marks hd.1 hd.2⟩)
    ⟨(storeConsistent_iff s).1 hs, (marksAgree_iff s).1 hm⟩ h
  exact (marksAgree_iff t).2 hkept.2

/-- Settles O59: the store operations and classification are the moves of the store, and none makes a slot BLANK. -/
theorem blankSlotsNeverIncrease : Obligations.BlankSlotsNeverIncrease :=
  ⟨fun _ _ => step_keeps_storeConsistent, fun _ _ => step_keeps_marksAgree⟩

end Sys2Proof.Machine
end

section
/-! PROOFS. What the moves of an event do to one branch; the lines, the frames and the counts of the branches (R63, R64, R75, R181). -/

namespace Sys2Proof.Machine

open Relation

/-! ### Moves of one branch of the part -/

/-- The branch as the pick of a claim leaves it (R71). -/
def Branch.afterPick (x : Branch) (cfg : BranchSettings) (own : Octet) (timeout : Nat) (c : Claim) : Branch :=
  ({ x with rate := cfg.rate, rx := x.rx.rerated x.rate.charPeriods, addr := own, finalMark := false }.picked timeout c).beginGuard cfg

theorem State.pick_branch_self (s : State) (b : BranchId) (c : Claim) : (s.pick b c).branch b =
    (s.branch b).afterPick (s.branchSettings b) s.own (s.pollTimeout c) c := State.branch_setBranch_self _ b _

@[simp] theorem State.claimTaken_branch (s : State) (c : Claim) (d : BranchId) : (s.claimTaken c).branch d = s.branch d := by
  unfold State.claimTaken
  split <;> rfl

theorem State.pick_branch_other (s : State) (b d : BranchId) (c : Claim) (h : d ≠ b) : (s.pick b c).branch d = s.branch d :=
  (State.branch_setBranch_other _ b d _ h).trans (s.claimTaken_branch c d)

/-- What a move does to a branch, in a part that is live or not before and after it. -/
inductive BranchMove : Bool × Branch → Bool × Branch → Prop
  | step {l : Bool} {x y : Branch} (h : BranchStep l x y) : BranchMove (l, x) (l, y)
  | silenced (l : Bool) (x : Branch) : BranchMove (l, x) (false, x.silenced)
  | starts (l : Bool) (x : Branch) (c : BranchSettings) (own : Octet) (k : BranchCounters) :
      BranchMove (l, x) (true, Branch.started c own k)
  | picks (x : Branch) (cfg : BranchSettings) (own : Octet) (n : Nat) (poll : Option ScanSlot) (c : Claim) (h : x.state = .idle)
      (hc : chooseClaim x cfg.burst poll = some c) : BranchMove (true, x) (true, x.afterPick cfg own n c)
  | enqueues (l : Bool) (x : Branch) (q : QueueItem) (h : x.queue.length < 8) :
      BranchMove (l, x) (l, { x with queue := x.queue ++ [q] })
  | recovers (l : Bool) (x : Branch) (h : x.state = .fault) : BranchMove (l, x) (l, x.recovered)
  | shareEnds (x : Branch) (en : Bool) (k : Nat) (h : x.state = .sending) (hb : x.bound = some (.share k)) :
      BranchMove (true, x) (true, x.stopSending.released en)
  | leaves (l : Bool) (x : Branch) (en : Bool) (h : x.state = .awaiting ∨ x.state = .receiving) :
      BranchMove (l, x) (l, x.released en)
  | faults (l : Bool) (x : Branch) (en : Bool) (h : x.state = .guard) (hi : 8 ≤ x.interrupts + 1) :
      BranchMove (l, x) (l, x.interrupted.faulted en)
  | disables (l : Bool) (x : Branch) : BranchMove (l, x) (l, x.disabledBy)
  | enables (x : Branch) (h : x.state = .disabled) :
      BranchMove (true, x) (true, { x with state := .idle, interrupts := 0, consec := 0, rx := .outside })
  | orphans (l : Bool) (x : Branch) (f : Octet → Bool) : BranchMove (l, x) (l, x.orphaned f)
  | sheds (l : Bool) (x : Branch) (p : QueueItem → Bool) : BranchMove (l, x) (l, { x with queue := x.queue.filter p })
  | marks (l : Bool) (x : Branch) : BranchMove (l, x) (l, { x with finalMark := true })
  | takenAway (l : Bool) (x : Branch) (en : Bool) (h : x.state = .guard) : BranchMove (l, x) (l, x.released en)
  | lists (l : Bool) (x : Branch) (f : FailsafeItem) (h : x.state ≠ .fault) :
      BranchMove (l, x) (l, { x with failsafe := x.failsafe ++ [f] })

/-- Every branch goes by moves. -/
def BranchesMove (s t : State) : Prop := ∀ b, ReflTransGen BranchMove (s.live, s.branch b) (t.live, t.branch b)

theorem BranchesMove.refl (s : State) : BranchesMove s s := fun _ => .refl

theorem BranchesMove.trans {s t u : State} (h : BranchesMove s t) (h' : BranchesMove t u) : BranchesMove s u :=
  fun b => (h b).trans (h' b)

theorem BranchesMove.of_eq {s t : State} (hl : t.live = s.live) (hb : t.branches = s.branches) : BranchesMove s t := by
  intro b
  rw [State.branch_congr hb, hl]

/-- One branch moves, the others stay. -/
theorem BranchesMove.one {s t : State} (b : BranchId) (hl : t.live = s.live) (ho : ∀ c, c ≠ b → t.branch c = s.branch c)
    (h : BranchMove (s.live, s.branch b) (s.live, t.branch b)) : BranchesMove s t := by
  intro c
  rw [hl]
  by_cases hc : c = b
  · subst hc
    exact .single h
  · rw [ho c hc]

theorem BranchesMove.setBranch {s : State} {b : BranchId} {y : Branch} (h : BranchMove (s.live, s.branch b) (s.live, y)) :
    BranchesMove s (s.setBranch b y) :=
  .one b rfl (fun c hc => State.branch_setBranch_other s b c y hc) (by rw [State.branch_setBranch_self]; exact h)

/-! ### The moves of commits and failsafe entry at the branches -/

theorem BranchesMove.eachBranch {f : State → BranchId → State × List Job}
    (hf : ∀ t b, t.live = true → BranchesMove t (f t b).1 ∧ (f t b).1.live = true) {s : State} (hl : s.live = true) :
    BranchesMove s (s.eachBranch f).1 ∧ (s.eachBranch f).1.live = true := by
  obtain ⟨h0, hl0⟩ := hf s .b0 hl
  obtain ⟨h1, hl1⟩ := hf _ .b1 hl0
  obtain ⟨h2, hl2⟩ := hf _ .b2 hl1
  obtain ⟨h3, hl3⟩ := hf _ .b3 hl2
  exact ⟨((h0.trans h1).trans h2).trans h3, hl3⟩

theorem State.live_of_frame {s t : State} (h : t.seq = s.seq) : t.live = s.live := by
  rw [State.live, h, State.live]

theorem State.commitBranch_moves (old : ConfigSet) (t : State) (b : BranchId) (hl : t.live = true) :
    BranchesMove t (t.commitBranch old b).1 ∧ (t.commitBranch old b).1.live = true := by
  have hlive : (t.commitBranch old b).1.live = t.live := State.live_of_frame (by rw [State.commitBranch_frame])
  refine ⟨?_, hlive.trans hl⟩
  unfold State.commitBranch
  split
  · unfold State.disableBranch
    extract_lets x guarded s1
    have hbranches : ((t.sharesAborted b (guarded ++ shareSlots x.queue)).itemsSkipped x.failsafe).branches = t.branches := by
      rw [State.itemsSkipped_frame, State.sharesAborted_frame]
    have hstay : BranchesMove t ((t.sharesAborted b (guarded ++ shareSlots x.queue)).itemsSkipped x.failsafe) :=
      .of_eq (State.live_of_frame (by rw [State.itemsSkipped_frame, State.sharesAborted_frame])) hbranches
    refine hstay.trans (.setBranch ?_)
    rw [State.branch_congr hbranches]
    exact .disables _ _
  · unfold State.enableBranch
    extract_lets x
    split
    · refine .setBranch ?_
      rw [hl]
      exact .enables x ‹_›
    · exact .refl t
  · exact .refl t

theorem State.heldIfDone_branches (s : State) : s.heldIfDone.branches = s.branches := by rw [State.heldIfDone_frame]

theorem State.heldIfDone_live (s : State) : s.heldIfDone.live = s.live := State.live_of_frame (by rw [State.heldIfDone_frame])

theorem BranchesMove.heldIfDone (s : State) : BranchesMove s s.heldIfDone := .of_eq s.heldIfDone_live s.heldIfDone_branches

theorem State.replaceActive_moves (s : State) (hl : s.live = true) : BranchesMove s s.replaceActive.1 := by
  have hstart : BranchesMove s { s with active := s.shadow } := .of_eq rfl rfl
  obtain ⟨heach, -⟩ := BranchesMove.eachBranch (State.commitBranch_moves s.active) (s := { s with active := s.shadow }) hl
  unfold State.replaceActive
  extract_lets old r s1
  have horphans : BranchesMove (r.1.commitTokens old) ((r.1.commitTokens old).commitSlots old) := by
    intro b
    refine .single ?_
    have hb : ((r.1.commitTokens old).commitSlots old).branch b
        = ((r.1.commitTokens old).branch b).orphaned fun a => (r.1.active.scan? a).isSome := Quad.get_map _ _ b
    rw [hb]
    exact .orphans _ _ _
  have hsilence : BranchesMove ((r.1.commitTokens old).commitSlots old) (((r.1.commitTokens old).commitSlots old).commitSilence old) :=
    .of_eq (State.live_of_frame (by rw [State.commitSilence_frame])) (by rw [State.commitSilence_frame])
  exact ((((hstart.trans heach).trans (.of_eq rfl rfl)).trans horphans).trans hsilence).trans (.heldIfDone _)

/-- Failsafe entry takes an item away in GUARD alone (R115). -/
theorem State.guard_of_boundClaim {s : State} {x : Branch} (h : s.boundClaim x = .takeAway) : x.state = .guard := by
  unfold State.boundClaim at h
  (repeat' split at h) <;> first | assumption | cases h

theorem State.failsafeClaim_moves (t : State) (b : BranchId) : BranchesMove t (t.failsafeClaim b).1 := by
  unfold State.failsafeClaim
  extract_lets x taken claim away kept s1
  have hbranches (ks : List Nat) : (t.sharesAborted b ks).branches = t.branches := by rw [State.sharesAborted_frame]
  have hstay (ks : List Nat) : BranchesMove t (t.sharesAborted b ks) :=
    .of_eq (State.live_of_frame (by rw [State.sharesAborted_frame])) (hbranches ks)
  have hkept (u : State) (hu : u.branch b = x) : BranchesMove u (u.setBranch b kept) := by
    refine .setBranch ?_
    rw [hu]
    exact .sheds _ _ _
  have hafter (u : State) (hu : u.branch b = kept) (c : BoundClaim) (hc : c = .takeAway → x.state = .guard) :
      BranchesMove u (u.setBranch b (kept.afterClaim (t.branchSettings b).enabled c)) := by
    cases c with
    | leave =>
      rw [Branch.afterClaim, ← hu, State.setBranch_branch]
      exact .refl u
    | takeAway =>
      refine .setBranch ?_
      rw [hu]
      exact .takenAway _ _ _ (hc rfl)
    | mark =>
      refine .setBranch ?_
      rw [hu]
      exact .marks _ _
  have hx := State.branch_congr (hbranches (boundShareSlots away ++ shareSlots taken)) b
  have hboth := ((hstay _).trans (hkept _ hx)).trans (hafter _ (State.branch_setBranch_self _ b kept) claim
    State.guard_of_boundClaim)
  rw [State.setBranch_setBranch] at hboth
  exact hboth

theorem State.failsafeClaim_live (t : State) (b : BranchId) : (t.failsafeClaim b).1.live = t.live := by
  refine State.live_of_frame ?_
  unfold State.failsafeClaim
  dsimp only
  rw [State.sharesAborted_frame]
  rfl

/-- The report with a line for the action of a record (R116). -/
def State.lineAdded (s : State) (r : StationRecord) (o : LineOutcome) : State :=
  { s with sup := { s.sup with lines := s.sup.lines ++
      [{ station := r.addr, branch := r.branch, outcome := o, attempts := 0 }] } }

theorem State.listAction_of_none (s : State) {r : StationRecord} (h : r.failsafe = none) : s.listAction r = s := by
  rw [State.listAction, h]

theorem State.listAction_of_fault (s : State) {r : StationRecord} {a : FailsafeAction} (h : r.failsafe = some a)
    (hb : (s.branch r.branch).state = .fault) : s.listAction r = s.lineAdded r .skipped := by
  simp only [State.listAction, h, hb, if_true]
  rfl

theorem State.listAction_of_noFault (s : State) {r : StationRecord} {a : FailsafeAction} (h : r.failsafe = some a)
    (hb : (s.branch r.branch).state ≠ .fault) : s.listAction r = (s.lineAdded r .pending).setBranch r.branch
      { s.branch r.branch with failsafe := (s.branch r.branch).failsafe ++ [failsafeItem r a] } := by
  simp only [State.listAction, h, hb, if_false]
  rfl

theorem State.listAction_moves (s : State) (r : StationRecord) : BranchesMove s (s.listAction r) := by
  have hadded (o : LineOutcome) : BranchesMove s (s.lineAdded r o) := .of_eq rfl rfl
  cases h : r.failsafe with
  | none =>
    rw [s.listAction_of_none h]
    exact .refl s
  | some a =>
    by_cases hb : (s.branch r.branch).state = .fault
    · rw [s.listAction_of_fault h hb]
      exact hadded _
    · rw [s.listAction_of_noFault h hb]
      exact (hadded .pending).trans (.setBranch (.lists _ _ _ hb))

theorem BranchesMove.foldl {α : Type} {f : State → α → State} (hf : ∀ t a, BranchesMove t (f t a)) (l : List α) (s : State) :
    BranchesMove s (l.foldl f s) := by
  induction l generalizing s with
  | nil => exact .refl s
  | cons a l ih => exact (hf s a).trans (ih _)

/-- Failsafe entry with its report begun, before any branch is claimed (R114). -/
def State.entryBegun (s : State) (cause : EntryCause) : State :=
  { s with sup := { s.sup with silence := none, cause := cause, lines := [], stat := true } }

/-- Failsafe entry with the controller work claimed and the failsafe items listed, in the supervision state from before it. -/
def State.entryListed (s : State) (cause : EntryCause) : State :=
  s.active.stations.foldl State.listAction ((s.entryBegun cause).eachBranch State.failsafeClaim).1

/-- The state that failsafe entry brings (R114). -/
def State.entryState (s : State) : SupState := if s.failsafeLeft = 0 then .failsafeHeld else .failsafeSending

theorem State.failsafeEntry_fst (s : State) (cause : EntryCause) : (s.failsafeEntry cause).1 =
    { s.entryListed cause with sup := { (s.entryListed cause).sup with state := (s.entryListed cause).entryState } } := by
  rfl

theorem State.failsafeEntry_moves (s : State) (cause : EntryCause) (hl : s.live = true) : BranchesMove s (s.failsafeEntry cause).1 := by
  obtain ⟨heach, -⟩ := BranchesMove.eachBranch (f := State.failsafeClaim) (s := s.entryBegun cause)
    (fun t b ht => ⟨t.failsafeClaim_moves b, (t.failsafeClaim_live b).trans ht⟩) hl
  have hbegun : BranchesMove s (s.entryBegun cause) := .of_eq rfl rfl
  have hlisted : BranchesMove _ (s.entryListed cause) := .foldl State.listAction_moves s.active.stations _
  rw [State.failsafeEntry_fst]
  exact ((hbegun.trans heach).trans hlisted).trans (.of_eq rfl rfl)

/-! ### The branches in every move -/

theorem State.arbitrate_moves (s : State) (b : BranchId) : BranchesMove s (s.arbitrate b) := by
  unfold State.arbitrate
  split
  · rename_i h
    simp only [Bool.and_eq_true, beq_iff_eq] at h
    obtain ⟨hl, hidle⟩ := h
    split
    · exact .refl s
    · rename_i c hc
      have hlive : (s.pick b c).live = s.live := by
        unfold State.pick State.claimTaken
        (repeat' split) <;> rfl
      refine .one b hlive (fun d hd => s.pick_branch_other b d c hd) ?_
      rw [State.pick_branch_self, hl]
      exact .picks _ _ _ _ _ c hidle hc
  · exact .refl s

theorem State.coldStarted_branch (s : State) (b : BranchId) :
    s.coldStarted.branch b = Branch.started (s.active.settings.branch.get b) s.active.settings.ownAddr BranchCounters.zero := by
  cases b <;> rfl

theorem State.warmStarted_branch (s : State) (b : BranchId) : s.warmStarted.branch b =
    Branch.started (s.active.settings.branch.get b) s.active.settings.ownAddr (s.branch b).counters := by
  cases b <;> rfl

theorem BranchesMove.tick (s : State) : BranchesMove s s.tick := by
  unfold State.tick
  extract_lets t
  split
  · rename_i hl
    intro b
    cases b <;> exact .single (.step (.ticks hl))
  · exact .of_eq rfl rfl

theorem State.quieted_moves {s t u : State} (hs : BranchesMove s t) (hrun : u.seq.run = .loading)
    (hb : ∀ b, u.branch b = (t.branch b).silenced) : BranchesMove s u := by
  intro b
  refine (hs b).tail ?_
  rw [hb, show u.live = false by simp [State.live, hrun]]
  exact .silenced _ _

@[simp] theorem State.cutStore_branch (s : State) (b : BranchId) : s.cutStore.branch b = s.branch b := by
  unfold State.cutStore
  split <;> rfl

theorem Calm.branchesMove {s t : State} (h : Calm s t) : BranchesMove s t := by
  cases h with
  | completes k f => exact .of_eq (State.live_of_frame (by rw [State.complete_frame])) (by rw [State.complete_frame])
  | refuses f r =>
    refine .of_eq (State.live_of_frame ?_) ?_ <;> (unfold State.refuse; split <;> rfl)
  | takesToken r hr => exact .of_eq (State.live_of_frame (by rw [State.takeToken_frame])) (by rw [State.takeToken_frame])
  | branch b y h => exact .setBranch (.step h)
  | restartPends hl => exact .of_eq (by rw [hl]; rfl) rfl
  | falls p h => exact State.quieted_moves (.refl s) rfl fun b => (State.quieted_branch _ b).trans (by simp; rfl)
  | coldBegins p cause => exact State.quieted_moves (.refl s) rfl fun b => State.quieted_branch s b
  | periodPasses => exact .tick s
  | _ => exact .of_eq rfl rfl

theorem Stir.branchesMove {s t : State} (h : Stir s t) : BranchesMove s t := by
  cases h with
  | picks b => exact s.arbitrate_moves b
  | enqueues b q h hf => exact .setBranch (.enqueues _ _ q h)
  | releasesPoll p => exact .of_eq (State.live_of_frame (by rw [State.pollReleased_frame])) (by rw [State.pollReleased_frame])
  | recovers b h => exact .setBranch (.recovers _ _ h)
  | shareEnds b k hl h hb =>
    refine .setBranch ?_
    rw [hl]
    exact .shareEnds _ _ k h hb
  | leaves b h => exact .trans (.setBranch (.leaves _ _ _ h)) (.heldIfDone _)
  | faults b h hi => exact .trans (.setBranch (.faults _ _ _ h hi)) (.heldIfDone _)
  | commits hl h => exact s.replaceActive_moves hl
  | entersFailsafe cause hl h => exact s.failsafeEntry_moves cause hl
  | coldStarts =>
    intro b
    refine .single ?_
    rw [State.coldStarted_branch]
    exact .starts _ _ _ _ _
  | warmStarts hl =>
    intro b
    refine .single ?_
    rw [State.warmStarted_branch]
    exact .starts _ _ _ _ _
  | _ => exact .of_eq rfl rfl

/-- What the moves of a branch keep, every branch of the part keeps. -/
theorem BranchesMove.keeps {p : Bool × Branch → Prop} (hmove : ∀ x y, BranchMove x y → p x → p y) {s t : State}
    (h : BranchesMove s t) (hs : ∀ b, p (s.live, s.branch b)) (b : BranchId) : p (t.live, t.branch b) := by
  have hb := h b
  revert hb
  generalize (t.live, t.branch b) = y
  intro hb
  induction hb with
  | refl => exact hs b
  | tail _ hm ih => exact hmove _ _ hm ih

/-- A condition on each branch that its moves keep is kept by every step. -/
theorem step_keeps_branches {p : Bool × Branch → Prop} (hmove : ∀ x y, BranchMove x y → p x → p y) {s t : State}
    (hs : ∀ b, p (s.live, s.branch b)) (h : step s = .next t) : ∀ b, p (t.live, t.branch b) :=
  step_keeps (p := fun s => ∀ b, p (s.live, s.branch b)) (fun _ _ ha hp => by cases ha <;> exact hp)
    (fun u i _ _ _ _ hp b => by rw [State.sent_frame]; exact hp b)
    (fun _ _ hc hp => hc.branchesMove.keeps hmove hp) (fun _ _ hc hp => hc.branchesMove.keeps hmove hp) hs h

/-! ### The table of the branch states (R64) -/

/-- The condition `LinesFollowStates` of one branch, in a part that is live or not. -/
def LineAgrees (p : Bool × Branch) : Prop :=
  (p.2.bound.isSome = true ↔ p.2.state = .guard ∨ p.2.state = .sending ∨ p.2.state = .awaiting ∨ p.2.state = .receiving)
  ∧ (p.1 = false → p.2.driver = false ∧ p.2.rx = .off)
  ∧ (p.1 = true → (p.2.driver = true ↔ p.2.state = .sending) ∧ (p.2.rx = .off ↔ p.2.state = .sending ∨ p.2.state = .disabled))

theorem linesFollowStates_iff (s : State) : LinesFollowStates s ↔ ∀ b, LineAgrees (s.live, s.branch b) := by
  refine forall_congr' fun b => and_congr_right fun _ => ?_
  simp only [State.live]
  by_cases h : s.seq.run = .loading <;> simp [h]

end Sys2Proof.Machine
end

section
/-! PROOFS. The lines, the frames and the queues of the branches, and the ranges of their counts, over the moves of a branch. -/

namespace Sys2Proof.Machine

open Relation

/-! ### Receivers that stay off or on -/

@[simp] theorem Receiver.tick_eq_off (r : Receiver) : r.tick = .off ↔ r = .off := by cases r <;> simp [Receiver.tick]

@[simp] theorem Receiver.rerated_eq_off (r : Receiver) (n : Nat) : r.rerated n = .off ↔ r = .off := by
  cases r <;> simp [Receiver.rerated]

/-! ### The table of the branch states (R64) -/

theorem BranchStep.keeps_line {l : Bool} {x y : Branch} (h : BranchStep l x y) (hx : LineAgrees (l, x)) : LineAgrees (l, y) := by
  obtain ⟨hbound, hoff, hon⟩ := hx
  dsimp only at hbound hoff hon
  cases h with
  | counters | phase | probeQuiet | deadlinePassed | windowCloses | interrupted => exact ⟨hbound, hoff, hon⟩
  | receiver r h => exact ⟨hbound, fun hl => ⟨(hoff hl).1, h.2 (hoff hl).2⟩, fun hl => ⟨(hon hl).1, h.trans (hon hl).2⟩⟩
  | probeBegun => simpa [LineAgrees, Branch.probeBegun] using ⟨hbound, hoff, hon⟩
  | guardAgain c h | receives h | awaitsAgain h =>
    simp only [h] at hbound hon
    simpa [LineAgrees, Branch.beginGuard] using ⟨by simpa using hbound, hoff, by simpa using hon⟩
  | retries c h hb =>
    obtain h | h := h <;> (simp only [h] at hon; simpa [LineAgrees, Branch.beginGuard, hb] using ⟨hoff, by simpa using hon⟩)
  | sends item f now hl => simp [LineAgrees, Branch.startSending, hl]
  | awaits n hl h hb => simp [LineAgrees, Branch.stopSending, hl, hb]
  | ticks => simpa [LineAgrees, Branch.tick] using ⟨hbound, hoff, hon⟩

/-- A branch whose item is unbound where its receiver was on, or the part is not live. -/
theorem Branch.released_line {l : Bool} {x : Branch} (en : Bool) (hdriver : x.driver = false)
    (hrx : if l then x.rx ≠ .off else x.rx = .off) : LineAgrees (l, x.released en) := by
  cases l <;> cases en <;> simp_all [LineAgrees, Branch.released]

theorem BranchMove.keeps_line {p q : Bool × Branch} (h : BranchMove p q) (hx : LineAgrees p) : LineAgrees q := by
  have hquiet {l : Bool} {x : Branch} (hx : LineAgrees (l, x)) (hs : x.state ≠ .sending) (hd : x.state ≠ .disabled) :
      x.driver = false ∧ if l then x.rx ≠ .off else x.rx = .off := by
    obtain ⟨-, hoff, hon⟩ := hx
    cases l <;> simp_all
  cases h with
  | step h => exact h.keeps_line hx
  | enqueues | sheds | marks | lists => exact hx
  | silenced => exact ⟨hx.1, by simp, by simp⟩
  | starts l x c own k => cases hc : c.enabled <;> simp [LineAgrees, Branch.started, Branch.reset, hc]
  | picks x cfg own n poll c h hc =>
    obtain ⟨hdriver, hrx⟩ := hquiet hx (by simp [h]) (by simp [h])
    have hpicked (y : Branch) (hb : y.bound.isSome = true) (hd : y.driver = false) (hr : y.rx ≠ .off) :
        LineAgrees (true, y.beginGuard cfg) := by
      simp [LineAgrees, Branch.beginGuard, hb, hd, hr]
    unfold Branch.afterPick
    cases c with
    | queued item rest => cases item <;> exact hpicked _ rfl hdriver (by simpa [Branch.picked] using hrx)
    | _ => exact hpicked _ rfl hdriver (by simpa [Branch.picked] using hrx)
  | recovers l x h =>
    obtain ⟨hdriver, hrx⟩ := hquiet hx (by simp [h]) (by simp [h])
    obtain ⟨hbound, -⟩ := hx
    cases l <;> simp_all [LineAgrees, Branch.recovered]
  | shareEnds x en k h hb => exact Branch.released_line en rfl (by simp [Branch.stopSending])
  | leaves l x en h =>
    obtain ⟨hdriver, hrx⟩ := hquiet hx (by obtain h | h := h <;> simp [h]) (by obtain h | h := h <;> simp [h])
    exact Branch.released_line en hdriver hrx
  | takenAway l x en h =>
    obtain ⟨hdriver, hrx⟩ := hquiet hx (by simp [h]) (by simp [h])
    exact Branch.released_line en hdriver hrx
  | faults l x en h =>
    obtain ⟨hdriver, hrx⟩ := hquiet hx (by simp [h]) (by simp [h])
    cases l <;> cases en <;> simp_all [LineAgrees, Branch.faulted, Branch.interrupted]
  | disables l x =>
    unfold Branch.disabledBy
    dsimp only
    split
    · rename_i hb
      obtain ⟨hbound, hoff, hon⟩ := hx
      cases l <;> simp_all [LineAgrees]
    · rename_i h
      obtain ⟨hdriver, hrx⟩ := hquiet hx (by simp [h]) (by simp [h])
      exact Branch.released_line false hdriver hrx
    · exact hx
  | enables x h =>
    obtain ⟨hbound, -, hon⟩ := hx
    simp_all [LineAgrees]
  | orphans l x f =>
    unfold Branch.orphaned
    split
    · rename_i p hb
      split
      · exact hx
      · obtain ⟨hbound, hrest⟩ := hx
        exact ⟨by rw [hb] at hbound; exact hbound, hrest⟩
    · exact hx

/-! ### The frame on the line (R75, R182) -/

/-- The condition `FramesFollowDrivers` of one branch. -/
def FrameAgrees (x : Branch) : Prop := x.frame.isSome = x.driver ∧ x.sendLeft.isSome = x.driver

theorem BranchStep.keeps_frame {l : Bool} {x y : Branch} (h : BranchStep l x y) (hx : FrameAgrees x) : FrameAgrees y := by
  cases h with
  | sends | awaits => exact ⟨rfl, rfl⟩
  | ticks =>
    have hleft : x.tick.sendLeft.isSome = x.sendLeft.isSome := by cases h : x.sendLeft <;> simp [Branch.tick, tickTimer, h]
    exact ⟨hx.1, hleft.trans hx.2⟩
  | _ => exact hx

theorem BranchMove.keeps_frame {p q : Bool × Branch} (h : BranchMove p q) (hx : FrameAgrees p.2) : FrameAgrees q.2 := by
  cases h with
  | step h => exact h.keeps_frame hx
  | silenced | starts | shareEnds => exact ⟨rfl, rfl⟩
  | picks x cfg own n poll c h hc =>
    cases c with
    | queued item rest => cases item <;> exact hx
    | _ => exact hx
  | disables l x =>
    unfold Branch.disabledBy
    dsimp only
    split <;> exact hx
  | orphans l x f =>
    unfold Branch.orphaned
    (repeat' split) <;> exact hx
  | _ => exact hx

theorem step_keeps_lines {s t : State} (hs : LinesFollowStates s) (h : step s = .next t) : LinesFollowStates t :=
  (linesFollowStates_iff t).2 (step_keeps_branches (fun _ _ hmove => hmove.keeps_line) ((linesFollowStates_iff s).1 hs) h)

theorem step_keeps_frames {s t : State} (hs : FramesFollowDrivers s) (h : step s = .next t) : FramesFollowDrivers t :=
  step_keeps_branches (p := fun p => FrameAgrees p.2) (fun _ _ hmove => hmove.keeps_frame) hs h

/-- Settles O50: each move of a branch keeps its line in the table of R64, and its frame with its driver. -/
theorem stepsKeepLines : Obligations.StepsKeepLines :=
  ⟨fun _ _ => step_keeps_lines, fun _ _ _ => step_keeps_frames⟩

/-! ### The counts of a branch and the misses of a slot (R63, R95) -/

/-- The condition `CountsInRange` of one branch. -/
def Branch.countsInRange (x : Branch) : Prop :=
  x.consec ≤ 15 ∧ x.interrupts ≤ 8 ∧ (x.interrupts = 8 → x.state = .fault ∨ x.state = .disabled)

theorem Branch.countsInRange.below {x : Branch} (h : x.countsInRange) (hf : x.state ≠ .fault) (hd : x.state ≠ .disabled) :
    x.consec ≤ 15 ∧ x.interrupts < 8 := by
  obtain ⟨hconsec, hle, heq⟩ := h
  exact ⟨hconsec, Nat.lt_of_le_of_ne hle fun h => (heq h).elim hf hd⟩

/-- With fewer than 8 interruptions any state will do. -/
theorem Branch.countsInRange_of_below {x : Branch} (h : x.consec ≤ 15 ∧ x.interrupts < 8) : x.countsInRange :=
  ⟨h.1, h.2.le, fun h' => absurd h' h.2.ne⟩

theorem BranchStep.keeps_counts {l : Bool} {x y : Branch} (h : BranchStep l x y) (hx : x.countsInRange) : y.countsInRange := by
  have hlow (hf : x.state ≠ .fault) (hd : x.state ≠ .disabled) := hx.below hf hd
  cases h with
  | receiver | counters | phase | probeQuiet | probeBegun | deadlinePassed | windowCloses | ticks => exact hx
  | interrupted h hi => exact Branch.countsInRange_of_below ⟨hx.1, hi⟩
  | guardAgain c h | receives h | awaitsAgain h =>
    exact Branch.countsInRange_of_below (hlow (by simp [h]) (by simp [h]))
  | retries c h =>
    obtain h | h := h <;> exact Branch.countsInRange_of_below (hlow (by simp [h]) (by simp [h]))
  | sends => exact Branch.countsInRange_of_below ⟨hx.1, by simp [Branch.startSending]⟩
  | awaits n hl h => exact Branch.countsInRange_of_below (hlow (by simp [h]) (by simp [h]))

theorem BranchMove.keeps_counts {p q : Bool × Branch} (h : BranchMove p q) (hx : p.2.countsInRange) : q.2.countsInRange := by
  cases h with
  | step h => exact h.keeps_counts hx
  | silenced | enqueues | sheds | marks | lists => exact hx
  | starts => exact Branch.countsInRange_of_below ⟨by simp [Branch.started, Branch.reset], by simp [Branch.started, Branch.reset]⟩
  | recovers | enables => exact Branch.countsInRange_of_below ⟨by simp [Branch.recovered], by simp [Branch.recovered]⟩
  | picks x cfg own n poll c h hc =>
    obtain ⟨hconsec, hlow⟩ := hx.below (by simp [h]) (by simp [h])
    cases c with
    | failsafe f rest => exact Branch.countsInRange_of_below ⟨hconsec, hlow⟩
    | queued item rest => cases item <;> exact Branch.countsInRange_of_below ⟨Nat.min_le_left .., hlow⟩
    | poll slot => exact Branch.countsInRange_of_below ⟨Nat.zero_le _, hlow⟩
  | shareEnds x en k h hb => exact Branch.countsInRange_of_below (hx.below (by simp [h]) (by simp [h]))
  | leaves l x en h =>
    obtain h | h := h <;> exact Branch.countsInRange_of_below (hx.below (by simp [h]) (by simp [h]))
  | takenAway l x en h => exact Branch.countsInRange_of_below (hx.below (by simp [h]) (by simp [h]))
  | faults l x en h =>
    obtain ⟨hconsec, hlow⟩ := hx.below (by simp [h]) (by simp [h])
    exact ⟨hconsec, hlow, fun _ => by cases en <;> simp [Branch.faulted]⟩
  | disables l x =>
    unfold Branch.disabledBy
    dsimp only
    split
    · exact ⟨hx.1, hx.2.1, fun _ => .inr rfl⟩
    · exact ⟨hx.1, hx.2.1, fun _ => .inr rfl⟩
    · exact hx
  | orphans l x f =>
    unfold Branch.orphaned
    (repeat' split) <;> exact hx

end Sys2Proof.Machine
end

section
/-! PROOFS. The slots with the change list and the token states: what the moves of an event do to them (R59, R95, R102, R103). -/

namespace Sys2Proof.Machine

open Relation

/-! ### Commits -/

/-- The state but for the blocks that a walk over the branches writes. -/
def State.sansWork (s : State) : State :=
  { s with table := State.reset.table, branches := State.reset.branches, sup := State.reset.sup }

theorem State.eq_of_sansWork {s t : State} (h : t.sansWork = s.sansWork) :
    t = { s with table := t.table, branches := t.branches, sup := t.sup } := by
  cases s
  cases t
  simp only [State.sansWork, State.mk.injEq] at h
  simp only [State.mk.injEq]
  simp [h]

/-- A walk over the branches writes what its effect on one branch writes. -/
theorem State.eachBranch_sansWork {f : State → BranchId → State × List Job}
    (hf : ∀ t b, (f t b).1 = { t with table := (f t b).1.table, branches := (f t b).1.branches, sup := (f t b).1.sup })
    (s : State) : (s.eachBranch f).1 =
      { s with table := (s.eachBranch f).1.table, branches := (s.eachBranch f).1.branches, sup := (s.eachBranch f).1.sup } :=
  State.eq_of_sansWork (State.eachBranch_frame (v := State.sansWork) (fun t b => by rw [hf t b]; rfl) s)

theorem State.commitBranches_frame (s : State) (old : ConfigSet) (u : State)
    (hu : u = (s.eachBranch fun t b => t.commitBranch old b).1) :
    u = { s with table := u.table, branches := u.branches, sup := u.sup } := by
  rw [hu]
  exact State.eachBranch_sansWork (fun t b => by rw [State.commitBranch_frame]) s

/-- The slots of the scanned stations and the change list after a commit (R40). -/
theorem State.replaceActive_scan (s : State) : s.replaceActive.1.scan =
    { slots := s.shadow.stations.filterMap fun r => r.scan.map fun n => s.slotAfter s.active r.addr n
      changes := s.scan.changes.filter fun a => (s.shadow.scan? a).isSome } := by
  unfold State.replaceActive
  extract_lets old r s1
  have hframe := State.commitBranches_frame { s with active := s.shadow } old r.1 rfl
  have hscan : r.1.scan = s.scan := by rw [hframe]
  have hclock : r.1.clock = s.clock := by rw [hframe]
  have hactive : r.1.active = s.shadow := by rw [hframe]
  have hs1 : s1.scan = ((r.1.commitTokens old).commitSlots old).scan := by
    rw [show s1 = State.heldIfDone _ from rfl, State.heldIfDone_frame, State.commitSilence_frame]
  rw [hs1]
  have hslot (a : Octet) (n : Nat) : (r.1.commitTokens old).slotAfter old a n = s.slotAfter old a n := by
    unfold State.slotAfter
    rw [show (r.1.commitTokens old).scan = s.scan from hscan, show (r.1.commitTokens old).clock = s.clock from hclock]
  simp only [State.commitSlots, hslot]
  rw [show (r.1.commitTokens old).active = s.shadow from hactive, show (r.1.commitTokens old).scan = s.scan from hscan]

/-- The token states after a commit (R39). -/
theorem State.replaceActive_tokens (s : State) : s.replaceActive.1.tokens =
    s.shadow.stations.filterMap fun r => r.budget.map fun b => s.tokensAfter s.active r.addr b := by
  unfold State.replaceActive
  extract_lets old r s1
  have hframe := State.commitBranches_frame { s with active := s.shadow } old r.1 rfl
  have htokens : r.1.tokens = s.tokens := by rw [hframe]
  have hactive : r.1.active = s.shadow := by rw [hframe]
  have hs1 : s1.tokens = (r.1.commitTokens old).tokens := by
    rw [show s1 = State.heldIfDone _ from rfl, State.heldIfDone_frame, State.commitSilence_frame]
    rfl
  rw [hs1]
  have htoken (a : Octet) (b : Budget) : r.1.tokensAfter old a b = s.tokensAfter old a b := by
    unfold State.tokensAfter State.tokenState?
    rw [htokens]
  simp only [State.commitTokens, htoken]
  rw [hactive]

theorem State.failsafeClaim_frame (s : State) (b : BranchId) : (s.failsafeClaim b).1 =
    { s with table := (s.failsafeClaim b).1.table, branches := (s.failsafeClaim b).1.branches } := by
  unfold State.failsafeClaim
  dsimp only
  rw [State.sharesAborted_frame]
  rfl

theorem State.listAction_frame (s : State) (r : StationRecord) :
    s.listAction r = { s with branches := (s.listAction r).branches, sup := (s.listAction r).sup } := by
  unfold State.listAction
  split
  · rfl
  · dsimp only
    split <;> rfl

/-- Failsafe entry writes the table, the branches and the supervision unit (R114). -/
theorem State.failsafeEntry_frame (s : State) (cause : EntryCause) : (s.failsafeEntry cause).1 =
    { s with table := (s.failsafeEntry cause).1.table, branches := (s.failsafeEntry cause).1.branches
             sup := (s.failsafeEntry cause).1.sup } := by
  have hlist (t : State) (r : StationRecord) : (t.listAction r).sansWork = t.sansWork := by rw [State.listAction_frame]; rfl
  have hclaim (t : State) (b : BranchId) : (t.failsafeClaim b).1.sansWork = t.sansWork := by rw [State.failsafeClaim_frame]; rfl
  refine State.eq_of_sansWork ?_
  rw [State.failsafeEntry_fst]
  show (List.foldl State.listAction _ _).sansWork = _
  rw [foldl_frame hlist, State.eachBranch_frame (v := State.sansWork) hclaim]
  simp only [State.sansWork, State.entryBegun]

/-- The state but for the blocks that follow ACTIVE in a commit. -/
def State.sansCommit (s : State) : State := { s.sansWork with tokens := [], scan := State.reset.scan }

theorem State.eq_of_sansCommit {s t : State} (h : t.sansCommit = s.sansCommit) :
    t = { s with tokens := t.tokens, table := t.table, branches := t.branches, scan := t.scan, sup := t.sup } := by
  cases s
  cases t
  simp only [State.sansCommit, State.sansWork, State.mk.injEq] at h
  simp only [State.mk.injEq]
  simp [h]

/-- A commit writes ACTIVE and the blocks that follow it: tokens, table, branches, slots and supervision unit (R36). -/
theorem State.replaceActive_frame (s : State) : s.replaceActive.1 =
    { s with active := s.shadow, tokens := s.replaceActive.1.tokens, table := s.replaceActive.1.table
             branches := s.replaceActive.1.branches, scan := s.replaceActive.1.scan, sup := s.replaceActive.1.sup } := by
  have hframe := State.commitBranches_frame { s with active := s.shadow } s.active _ rfl
  refine State.eq_of_sansCommit (s := { s with active := s.shadow }) ?_
  unfold State.replaceActive
  dsimp only
  rw [State.heldIfDone_frame, State.commitSilence_frame]
  show (State.eachBranch _ _).1.sansCommit = _
  rw [hframe]
  rfl

/-! ### Moves of the slots -/

/-- Two states of one slot that hold the same but for the schedule and the polls. -/
structure ScanSlot.SameRecord (x y : ScanSlot) : Prop where
  addr : y.addr = x.addr
  state : y.state = x.state
  word : y.word = x.word
  collState : y.collState = x.collState
  collWord : y.collWord = x.collWord
  mark : y.mark = x.mark
  misses : y.misses = x.misses

/-- A slot that has recorded an outcome, but for the test of its mark (R98, R99). -/
structure ScanSlot.Outcome (x y : ScanSlot) : Prop where
  addr : y.addr = x.addr
  collState : y.collState = x.collState
  collWord : y.collWord = x.collWord
  mark : y.mark = x.mark
  misses : y.misses ≤ 3

/-- The blocks that scanning reads and writes. -/
structure ScanData where
  live : Bool
  active : ConfigSet
  scan : Scan

def State.scanData (s : State) : ScanData := { live := s.live, active := s.active, scan := s.scan }

/-- What a move does to the slots and the change list. -/
inductive ScanMove (d : ScanData) : ScanData → Prop
  | same : ScanMove d d
  | down (c : ConfigSet) : ScanMove d { d with live := false, active := c }
  | touches (f : ScanSlot → ScanSlot) (hf : ∀ x : ScanSlot, x.SameRecord (f x)) :
      ScanMove d { d with scan := { d.scan with slots := d.scan.slots.map f } }
  | records (a : Octet) (f : ScanSlot → ScanSlot) (hf : ∀ x : ScanSlot, x.Outcome (f x)) :
      ScanMove d { d with scan := (d.scan.update a f).testMark a }
  | collects (n : Nat) : ScanMove d { d with scan := d.scan.collect n }
  | commits (c : ConfigSet) (now : Millis) (hl : d.live = true) (new : Octet → Nat → ScanSlot)
      (hnew : ∀ a n, new a n = newSlot a now
        ∨ ∃ x, (d.active.scan? a).isSome = true ∧ d.scan.find? a = some x ∧ x.SameRecord (new a n))
      (hkept : ∀ a n x, (d.active.scan? a).isSome = true → d.scan.find? a = some x → x.SameRecord (new a n)) :
      ScanMove d { d with active := c, scan :=
        { slots := c.stations.filterMap fun r => r.scan.map fun n => new r.addr n
          changes := d.scan.changes.filter fun a => (c.scan? a).isSome } }
  | coldStarts : ScanMove d { d with live := true, scan := { slots := coldSlots d.active, changes := [] } }

theorem ScanSlot.SameRecord.refl (x : ScanSlot) : x.SameRecord x := ⟨rfl, rfl, rfl, rfl, rfl, rfl, rfl⟩

/-- A change of the slot of one address. -/
theorem ScanMove.updates (d : ScanData) (a : Octet) (f : ScanSlot → ScanSlot) (hf : ∀ x : ScanSlot, x.SameRecord (f x)) :
    ScanMove d { d with scan := d.scan.update a f } := by
  refine .touches (fun x => if x.addr = a then f x else x) fun x => ?_
  split
  · exact hf x
  · exact .refl x

theorem ScanSlot.kept_sameRecord (x : ScanSlot) (now : Millis) (old new : Nat) : x.SameRecord (x.kept now old new) := by
  unfold ScanSlot.kept
  (repeat' split) <;> exact ⟨rfl, rfl, rfl, rfl, rfl, rfl, rfl⟩

theorem ScanSlot.atCount_sameRecord (now : Millis) (x : ScanSlot) : x.SameRecord (x.atCount now) := by
  unfold ScanSlot.atCount
  (repeat' split) <;> exact ⟨rfl, rfl, rfl, rfl, rfl, rfl, rfl⟩

theorem ScanSlot.rescheduled_sameRecord (x : ScanSlot) (now sent : Millis) (n : Option Nat) :
    x.SameRecord (x.rescheduled now sent n) := by
  unfold ScanSlot.rescheduled
  split <;> exact ⟨rfl, rfl, rfl, rfl, rfl, rfl, rfl⟩

theorem ScanMove.recordPoll (s : State) (a : Octet) (w : Option Word16) (sent : Millis) :
    ScanMove s.scanData (s.recordPoll a w sent).scanData := by
  refine .records (d := s.scanData) a _ fun x => ?_
  have hsame (y : ScanSlot) (hy : x.Outcome y) : x.Outcome (y.rescheduled s.clock.ms sent (s.active.scan? a)) := by
    have h := y.rescheduled_sameRecord s.clock.ms sent (s.active.scan? a)
    exact ⟨h.addr.trans hy.addr, h.collState.trans hy.collState, h.collWord.trans hy.collWord, h.mark.trans hy.mark,
      h.misses.le.trans hy.misses⟩
  refine hsame _ ?_
  cases w with
  | some w => exact ⟨rfl, rfl, rfl, rfl, Nat.zero_le _⟩
  | none => exact ⟨rfl, rfl, rfl, rfl, Nat.min_le_left ..⟩

theorem ScanMove.replaceActive (s : State) (hl : s.live = true) : ScanMove s.scanData s.replaceActive.1.scanData := by
  have hdata : s.replaceActive.1.scanData = { s.scanData with active := s.shadow, scan :=
      { slots := s.shadow.stations.filterMap fun r => r.scan.map fun n => s.slotAfter s.active r.addr n
        changes := s.scan.changes.filter fun a => (s.shadow.scan? a).isSome } } := by
    unfold State.scanData
    rw [State.replaceActive_scan, State.live_of_frame (s := s) (t := s.replaceActive.1) (by rw [State.replaceActive_frame]), State.replaceActive_frame]
  rw [hdata]
  refine .commits s.shadow s.clock.ms hl (s.slotAfter s.active) (fun a n => ?_) fun a n x hold hx => ?_
  · unfold State.slotAfter
    split
    · rename_i before x hold hx
      exact .inr ⟨x, by simp [State.scanData, hold], hx, x.kept_sameRecord _ _ _⟩
    · exact .inl rfl
  · obtain ⟨before, hbefore⟩ := Option.isSome_iff_exists.1 hold
    unfold State.slotAfter
    rw [show s.active.scan? a = some before from hbefore, show s.scan.find? a = some x from hx]
    exact x.kept_sameRecord _ _ _

theorem State.arbitrate_scanMove (s : State) (b : BranchId) : ScanMove s.scanData (s.arbitrate b).scanData := by
  unfold State.arbitrate
  split
  · split
    · exact .same
    · rename_i c _
      unfold State.pick State.claimTaken
      cases c with
      | failsafe f rest => exact .same
      | queued q rest => cases q <;> exact .same
      | poll x => exact .updates s.scanData x.addr _ fun _ => ⟨rfl, rfl, rfl, rfl, rfl, rfl, rfl⟩
  · exact .same

theorem Calm.scanMove {s t : State} (h : Calm s t) : ScanMove s.scanData t.scanData := by
  have hsame {t : State} (hs : t.seq = s.seq) (ha : t.active = s.active) (hc : t.scan = s.scan) : ScanMove s.scanData t.scanData := by
    unfold State.scanData
    rw [State.live_of_frame hs, ha, hc]
    exact .same
  cases h with
  | completes k f => exact hsame (by rw [State.complete_frame]) (by rw [State.complete_frame]) (by rw [State.complete_frame])
  | refuses f r => unfold State.refuse; split <;> exact .same
  | takesToken r hr => exact hsame (by rw [State.takeToken_frame]) (by rw [State.takeToken_frame]) (by rw [State.takeToken_frame])
  | restartPends hl =>
    have hdata : ({ s with seq := { s.seq with run := .restartPending } } : State).scanData = s.scanData := by
      unfold State.scanData
      rw [hl]
      rfl
    rw [hdata]
    exact .same
  | collects n => exact .collects n
  | falls p h =>
    have hframe (u : State) : u.cutStore.active = u.active ∧ u.cutStore.scan = u.scan := by
      unfold State.cutStore
      split <;> exact ⟨rfl, rfl⟩
    obtain ⟨hactive, hscan⟩ := hframe { s with pins := p }
    have hdata : ({ s with pins := p }.resetBegun).scanData = { s.scanData with live := false, active := s.active } :=
      congrArg₂ (ScanData.mk false) hactive hscan
    rw [hdata]
    exact .down _
  | coldBegins p cause => exact .down (d := s.scanData) _
  | periodPasses =>
    refine hsame ?_ ?_ ?_ <;> (unfold State.tick; dsimp only; split <;> rfl)
  | _ => exact .same

theorem Stir.scanMove {s t : State} (h : Stir s t) : ScanMove s.scanData t.scanData := by
  cases h with
  | picks b => exact s.arbitrate_scanMove b
  | records a w sent => exact .recordPoll s a w sent
  | releasesPoll p =>
    unfold State.pollReleased
    split
    · exact .updates s.scanData p.station _ fun _ => ⟨rfl, rfl, rfl, rfl, rfl, rfl, rfl⟩
    · exact .same
  | slotsDue => exact .touches (d := s.scanData) _ (ScanSlot.atCount_sameRecord s.clock.ms)
  | leaves b h => rw [State.heldIfDone_frame]; exact .same
  | faults b h hi => rw [State.heldIfDone_frame]; exact .same
  | commits hl h => exact .replaceActive s hl
  | entersFailsafe cause hl h => rw [State.failsafeEntry_frame]; exact .same
  | coldStarts => exact .coldStarts
  | warmStarts hl =>
    have hmove := ScanMove.touches (d := s.scanData) ScanSlot.warm fun _ => ⟨rfl, rfl, rfl, rfl, rfl, rfl, rfl⟩
    have hlive : s.warmStarted.live = s.live := hl.symm ▸ rfl
    unfold State.scanData at hmove ⊢
    rw [hlive]
    exact hmove
  | _ => exact .same

/-! ### Misses (R95) -/

/-- The condition `CountsInRange` of the slots. -/
def Scan.missesInRange (c : Scan) : Prop := ∀ x ∈ c.slots, x.misses ≤ 3

theorem Scan.testMark_misses {c : Scan} {a : Octet} (h : c.missesInRange) : (c.testMark a).missesInRange := by
  unfold Scan.testMark
  split
  · exact h
  · split
    · intro y hy
      obtain ⟨x, hx, rfl⟩ := List.mem_map.1 hy
      dsimp only
      split <;> exact h x hx
    · exact h

theorem ScanMove.keeps_misses {d d' : ScanData} (h : ScanMove d d') (hd : d.scan.missesInRange) : d'.scan.missesInRange := by
  cases h with
  | same | down => exact hd
  | touches f hf =>
    intro y hy
    obtain ⟨x, hx, rfl⟩ := List.mem_map.1 hy
    exact (hf x).misses.le.trans (hd x hx)
  | records a f hf =>
    refine Scan.testMark_misses fun y hy => ?_
    obtain ⟨x, hx, rfl⟩ := List.mem_map.1 hy
    split
    · exact (hf x).misses
    · exact hd x hx
  | collects n =>
    intro y hy
    obtain ⟨x, hx, rfl⟩ := List.mem_map.1 hy
    split <;> exact hd x hx
  | commits c now hl new hnew hkept =>
    intro y hy
    obtain ⟨r, -, hr⟩ := List.mem_filterMap.1 hy
    obtain ⟨n, -, rfl⟩ := Option.map_eq_some_iff.1 hr
    obtain heq | ⟨x, -, hx, hsame⟩ := hnew r.addr n
    · rw [heq]
      exact Nat.zero_le _
    · exact hsame.misses.le.trans (hd x (List.mem_of_find?_eq_some hx))
  | coldStarts =>
    intro y hy
    obtain ⟨r, -, hr⟩ := List.mem_filterMap.1 hy
    obtain ⟨n, -, rfl⟩ := Option.map_eq_some_iff.1 hr
    exact Nat.zero_le _

/-- A condition on the slots and the change list that their moves keep is kept by every step. -/
theorem step_keeps_scan {p : ScanData → Prop} (hmove : ∀ d d', ScanMove d d' → p d → p d') {s t : State} (hs : p s.scanData)
    (h : step s = .next t) : p t.scanData :=
  step_keeps (p := fun s => p s.scanData) (fun _ _ ha hp => by cases ha <;> exact hp)
    (fun u i _ _ _ _ hp => by rw [State.sent_frame]; exact hp)
    (fun _ _ hc => hmove _ _ hc.scanMove) (fun _ _ hc => hmove _ _ hc.scanMove) hs h

/-- Settles O51: the counts of a branch by its moves, the misses by those of the slots. -/
theorem stepsKeepCounts : Obligations.StepsKeepCounts := fun _ _ ⟨hbranches, hmisses⟩ h =>
  ⟨step_keeps_branches (p := fun p => p.2.countsInRange) (fun _ _ hmove => hmove.keeps_counts) hbranches h,
    step_keeps_scan (p := fun d => d.scan.missesInRange) (fun _ _ hmove => hmove.keeps_misses) hmisses h⟩

end Sys2Proof.Machine
end

section
/-! PROOFS. The slots stay with the scanned stations, the change list with the marks, and the token states with the budgeted stations
(R59, R95, R102, R103). -/

namespace Sys2Proof.Machine

open Relation

/-! ### Items kept for the stations that have a field -/

/-- Items made for the stations with a field stand in map order. -/
theorem map_filterMap_field {α β γ : Type} (l : List StationRecord) (field : StationRecord → Option α)
    (make : StationRecord → α → β) (key : β → γ) (addr : StationRecord → γ) (h : ∀ r n, key (make r n) = addr r) :
    (l.filterMap fun r => (field r).map (make r)).map key = (l.filter fun r => (field r).isSome).map addr := by
  induction l with
  | nil => rfl
  | cons r rs ih => cases hr : field r <;> simp [hr, ih, h]

/-- In an ordered map a record is found under its address. -/
theorem MapOrdered.record? {c : ConfigSet} (h : MapOrdered c) {r : StationRecord} (hr : r ∈ c.stations) :
    c.record? r.addr = some r := by
  obtain ⟨-, hsorted⟩ := h
  unfold ConfigSet.record?
  induction hstations : c.stations generalizing c with
  | nil => simp [hstations] at hr
  | cons x xs ih =>
    rw [hstations, List.map_cons, List.pairwise_cons] at hsorted
    rw [hstations, List.mem_cons] at hr
    obtain rfl | hr := hr
    · simp
    · have hlt := hsorted.1 r.addr.toNat (List.mem_map.2 ⟨r, hr, rfl⟩)
      have hne : x.addr ≠ r.addr := fun heq => by simp [heq] at hlt
      rw [List.find?_cons_of_neg (by simpa using hne)]
      exact ih (c := { c with stations := xs }) hr hsorted.2 rfl

theorem MapOrdered.addr_nodup {c : ConfigSet} (h : MapOrdered c) (p : StationRecord → Bool) :
    ((c.stations.filter p).map fun r => r.addr).Nodup := by
  have hpair : (c.stations.map fun r => r.addr).Pairwise (· ≠ ·) := by
    have := h.2
    rw [List.pairwise_map] at this ⊢
    exact this.imp fun hlt heq => by simp [heq] at hlt
  exact hpair.sublist (List.filter_sublist.map _)

/-- In an ordered map the scanned stations are those whose records hold an interval. -/
theorem MapOrdered.scan?_isSome {c : ConfigSet} (h : MapOrdered c) (a : Octet) :
    (c.scan? a).isSome = true ↔ ∃ r ∈ c.stations, r.addr = a ∧ r.scan.isSome = true := by
  constructor
  · intro hs
    obtain ⟨n, hn⟩ := Option.isSome_iff_exists.1 hs
    obtain ⟨r, hr, hrn⟩ := Option.bind_eq_some_iff.1 hn
    exact ⟨r, List.mem_of_find?_eq_some hr, ConfigSet.record?_addr hr, by simp [hrn]⟩
  · rintro ⟨r, hr, rfl, hs⟩
    rw [ConfigSet.scan?, h.record? hr]
    exact hs

/-! ### Slots (R95) -/

/-- The condition `SlotsFollowMap` of the scanning blocks. -/
def ScanData.slotsFollow (d : ScanData) : Prop :=
  d.live = true → d.scan.slots.map (fun x => x.addr) = (d.active.stations.filter fun r => r.scan.isSome).map (fun r => r.addr)

theorem slotsFollowMap_iff (s : State) : SlotsFollowMap s ↔ s.scanData.slotsFollow := by
  simp [SlotsFollowMap, ScanData.slotsFollow, State.scanData, State.live]

theorem map_addr_of_same {f : ScanSlot → ScanSlot} (hf : ∀ x, (f x).addr = x.addr) (l : List ScanSlot) :
    (l.map f).map (fun x => x.addr) = l.map fun x => x.addr := by
  simp [hf]

theorem Scan.update_addrs (c : Scan) (a : Octet) {f : ScanSlot → ScanSlot} (hf : ∀ x, (f x).addr = x.addr) :
    (c.update a f).slots.map (fun x => x.addr) = c.slots.map fun x => x.addr :=
  map_addr_of_same (fun x => by split <;> simp [hf]) c.slots

theorem Scan.testMark_addrs (c : Scan) (a : Octet) : (c.testMark a).slots.map (fun x => x.addr) = c.slots.map fun x => x.addr := by
  unfold Scan.testMark
  split
  · rfl
  · split
    · exact c.update_addrs a fun _ => rfl
    · rfl

theorem Scan.find?_addr {c : Scan} {a : Octet} {x : ScanSlot} (h : c.find? a = some x) : x.addr = a := by
  simpa using List.find?_some h

theorem ScanMove.keeps_slots {d d' : ScanData} (h : ScanMove d d') (hd : d.slotsFollow) : d'.slotsFollow := by
  cases h with
  | same => exact hd
  | down => exact nofun
  | touches f hf => exact fun hl => (map_addr_of_same (fun x => (hf x).addr) _).trans (hd hl)
  | records a f hf => exact fun hl => ((Scan.testMark_addrs _ a).trans (Scan.update_addrs _ a fun x => (hf x).addr)).trans (hd hl)
  | collects n => exact fun hl => (map_addr_of_same (fun x => by split <;> rfl) _).trans (hd hl)
  | commits c now hl new hnew hkept =>
    refine fun _ => map_filterMap_field _ _ (fun r n => new r.addr n) _ _ fun r n => ?_
    obtain h | ⟨x, -, hx, hsame⟩ := hnew r.addr n
    · rw [h]
      rfl
    · exact hsame.addr.trans (Scan.find?_addr hx)
  | coldStarts => exact fun _ => map_filterMap_field _ _ (fun r _ => newSlot r.addr 0#32) _ _ fun _ _ => rfl

/-! ### Change list and marks (R102, R103) -/

/-- The change list holds the marked stations, each once. -/
def Scan.listed (c : Scan) : Prop :=
  (c.slots.map fun x => x.addr).Nodup ∧ c.changes.Nodup ∧ ∀ a, a ∈ c.changes ↔ ∃ x ∈ c.slots, x.addr = a ∧ x.mark = true

/-- A slot that, without a mark, holds what was last collected. -/
def ScanSlot.collectedOrMarked (x : ScanSlot) : Prop := x.mark = false → x.state = x.collState ∧ x.word = x.collWord

/-- The condition `ChangesFollowMarks` of the slots and the change list. -/
def Scan.changesFollow (c : Scan) : Prop := c.listed ∧ ∀ x ∈ c.slots, x.collectedOrMarked

theorem changesFollowMarks_iff (s : State) : ChangesFollowMarks s ↔ s.scan.changesFollow := by
  simp only [ChangesFollowMarks, Scan.changesFollow, Scan.listed, ScanSlot.collectedOrMarked, and_assoc]

theorem ScanSlot.SameRecord.collectedOrMarked {x y : ScanSlot} (h : x.SameRecord y) (hx : x.collectedOrMarked) :
    y.collectedOrMarked := by
  unfold ScanSlot.collectedOrMarked at hx ⊢
  rw [h.mark, h.state, h.collState, h.word, h.collWord]
  exact hx

/-- In the list of the slots each address is found at its slot. -/
theorem Scan.find?_of_mem {c : Scan} (h : (c.slots.map fun x => x.addr).Nodup) {x : ScanSlot} (hx : x ∈ c.slots) :
    c.find? x.addr = some x := by
  obtain ⟨y, hy⟩ := Option.isSome_iff_exists.1 (show (c.find? x.addr).isSome = true by simp [Scan.find?]; exact ⟨x, hx, rfl⟩)
  have heq := List.inj_on_of_nodup_map h (List.mem_of_find?_eq_some hy) hx (Scan.find?_addr hy)
  rw [← heq] at hy ⊢
  exact hy

theorem Scan.listed_map {c : Scan} (h : c.listed) {f : ScanSlot → ScanSlot} (ha : ∀ x, (f x).addr = x.addr)
    (hm : ∀ x, (f x).mark = x.mark) : ({ c with slots := c.slots.map f } : Scan).listed := by
  obtain ⟨hnodup, hchanges, hiff⟩ := h
  refine ⟨by rw [map_addr_of_same ha]; exact hnodup, hchanges, fun a => (hiff a).trans ?_⟩
  simp [ha, hm]

/-- A station without a mark is marked and listed (R102). -/
theorem Scan.listed_mark {c : Scan} (h : c.listed) {a : Octet} {x : ScanSlot} (hx : c.find? a = some x) (hm : x.mark = false) :
    ({ c.update a (fun x => { x with mark := true }) with changes := c.changes ++ [a] } : Scan).listed := by
  obtain ⟨hnodup, hchanges, hiff⟩ := h
  obtain rfl := Scan.find?_addr hx
  have hfresh : x.addr ∉ c.changes := by
    rw [hiff]
    rintro ⟨y, hy, hya, hym⟩
    obtain rfl : y = x := Option.some.inj ((hya ▸ Scan.find?_of_mem hnodup hy).symm.trans hx)
    simp [hm] at hym
  refine ⟨by rw [Scan.update_addrs]; exacts [hnodup, fun _ => rfl], ?_, fun b => ?_⟩
  · refine List.nodup_append.2 ⟨hchanges, List.nodup_singleton _, fun y hy z hz hyz => hfresh ?_⟩
    rwa [← List.mem_singleton.1 hz, ← hyz]
  · simp only [List.mem_append, List.mem_singleton, hiff, Scan.update, List.mem_map]
    constructor
    · rintro (⟨y, hy, rfl, hym⟩ | rfl)
      · exact ⟨_, ⟨y, hy, rfl⟩, by split <;> rfl, by split <;> simp [hym]⟩
      · exact ⟨_, ⟨x, List.mem_of_find?_eq_some hx, rfl⟩, by simp, by simp⟩
    · rintro ⟨-, ⟨y, hy, rfl⟩, hya, hym⟩
      by_cases heq : y.addr = x.addr
      · rw [if_pos heq] at hya
        exact .inr (hya.symm.trans heq)
      · rw [if_neg heq] at hya hym
        exact .inl ⟨y, hy, hya, hym⟩

theorem ScanSlot.not_differs {x : ScanSlot} (h : x.differs = false) : x.state = x.collState ∧ x.word = x.collWord := by
  simpa [ScanSlot.differs] using h

/-- The test of the mark, where every other slot is collected or marked. -/
theorem Scan.testMark_follows {c : Scan} (h : c.listed) {a : Octet}
    (hother : ∀ x ∈ c.slots, x.addr ≠ a → x.collectedOrMarked) : (c.testMark a).changesFollow := by
  have hat {x : ScanSlot} (hx : c.find? a = some x) {y : ScanSlot} (hy : y ∈ c.slots) (hya : y.addr = a) : y = x :=
    Option.some.inj ((hya ▸ Scan.find?_of_mem h.1 hy).symm.trans hx)
  unfold Scan.testMark
  cases hx : c.find? a with
  | none =>
    refine ⟨h, fun y hy => hother y hy fun hya => ?_⟩
    simp [← hya, Scan.find?_of_mem h.1 hy] at hx
  | some x =>
    dsimp only
    split
    · rename_i hdiffers
      simp only [Bool.and_eq_true, Bool.not_eq_true'] at hdiffers
      refine ⟨Scan.listed_mark h hx hdiffers.2, fun y hy => ?_⟩
      obtain ⟨z, hz, rfl⟩ := List.mem_map.1 hy
      dsimp only
      split
      · exact nofun
      · exact hother z hz ‹_›
    · rename_i hsame
      refine ⟨h, fun y hy => ?_⟩
      by_cases hya : y.addr = a
      · obtain rfl := hat hx hy hya
        intro hm
        exact ScanSlot.not_differs (by simpa [hm] using hsame)
      · exact hother y hy hya

/-- The collection of the first marks (R104). -/
theorem Scan.collect_follows {c : Scan} (h : c.changesFollow) (n : Nat) : (c.collect n).changesFollow := by
  obtain ⟨⟨hnodup, hchanges, hiff⟩, hslots⟩ := h
  have hsplit : (c.changes.take n ++ c.changes.drop n).Nodup := by rwa [List.take_append_drop]
  have hdisjoint : ∀ a ∈ c.changes.take n, a ∉ c.changes.drop n := fun a ha hd => (List.nodup_append.1 hsplit).2.2 a ha a hd rfl
  refine ⟨⟨?_, (List.nodup_append.1 hsplit).2.1, fun a => ?_⟩, fun y hy => ?_⟩
  · rw [Scan.collect, map_addr_of_same fun x => by split <;> rfl]
    exact hnodup
  · have hmem : a ∈ c.changes.drop n ↔ a ∈ c.changes ∧ a ∉ c.changes.take n := by
      constructor
      · exact fun hd => ⟨List.mem_of_mem_drop hd, fun ht => hdisjoint a ht hd⟩
      · rintro ⟨ha, ht⟩
        rw [← List.take_append_drop n c.changes, List.mem_append] at ha
        exact ha.resolve_left ht
    simp only [Scan.collect, hmem, hiff, List.mem_map]
    constructor
    · rintro ⟨⟨y, hy, rfl, hym⟩, ht⟩
      exact ⟨y, ⟨y, hy, by simp [ht]⟩, rfl, hym⟩
    · rintro ⟨-, ⟨y, hy, rfl⟩, hya, hym⟩
      by_cases ht : (c.changes.take n).contains y.addr = true
      · rw [if_pos ht] at hym
        simp [ScanSlot.collected] at hym
      · rw [if_neg ht] at hya hym
        exact ⟨⟨y, hy, hya, hym⟩, by simpa [hya] using ht⟩
  · obtain ⟨x, hx, rfl⟩ := List.mem_map.1 hy
    split
    · exact fun _ => ⟨rfl, rfl⟩
    · exact hslots x hx

/-- The slots and the change list after a commit (R40). -/
theorem ScanMove.commit_follows {d : ScanData} {c : ConfigSet} {now : Millis} {new : Octet → Nat → ScanSlot}
    (hl : d.live = true) (hnew : ∀ a n, new a n = newSlot a now
      ∨ ∃ x, (d.active.scan? a).isSome = true ∧ d.scan.find? a = some x ∧ x.SameRecord (new a n))
    (hkept : ∀ a n x, (d.active.scan? a).isSome = true → d.scan.find? a = some x → x.SameRecord (new a n))
    (hold : MapOrdered d.active) (hc : MapOrdered c) (hslots : d.slotsFollow) (hd : d.scan.changesFollow) :
    ({ slots := c.stations.filterMap fun r => r.scan.map fun n => new r.addr n
       changes := d.scan.changes.filter fun a => (c.scan? a).isSome } : Scan).changesFollow := by
  obtain ⟨⟨hnodup, hchanges, hiff⟩, hall⟩ := hd
  have haddr (a : Octet) (n : Nat) : (new a n).addr = a := by
    obtain h | ⟨x, -, hx, hsame⟩ := hnew a n
    · rw [h]
      rfl
    · exact hsame.addr.trans (Scan.find?_addr hx)
  have hmem (y : ScanSlot) : (y ∈ c.stations.filterMap fun r => r.scan.map fun n => new r.addr n) ↔
      ∃ r ∈ c.stations, ∃ n, r.scan = some n ∧ new r.addr n = y := by
    simp [List.mem_filterMap, Option.map_eq_some_iff]
  refine ⟨⟨?_, hchanges.filter _, fun a => ?_⟩, fun y hy => ?_⟩
  · rw [map_filterMap_field _ _ (fun r n => new r.addr n) _ (fun r => r.addr) fun r n => haddr r.addr n]
    exact hc.addr_nodup _
  · rw [List.mem_filter, hiff, hc.scan?_isSome]
    constructor
    · rintro ⟨⟨x, hx, rfl, hm⟩, r, hr, hra, hscan⟩
      obtain ⟨n, hn⟩ := Option.isSome_iff_exists.1 hscan
      have hscanned : (d.active.scan? x.addr).isSome = true := by
        have hin : x.addr ∈ (d.active.stations.filter fun r => r.scan.isSome).map fun r => r.addr :=
          hslots hl ▸ List.mem_map.2 ⟨x, hx, rfl⟩
        obtain ⟨o, ho, hoa⟩ := List.mem_map.1 hin
        exact (hold.scan?_isSome _).2 ⟨o, (List.mem_filter.1 ho).1, hoa, (List.mem_filter.1 ho).2⟩
      have hsame := hkept x.addr n x hscanned (Scan.find?_of_mem hnodup hx)
      exact ⟨_, (hmem _).2 ⟨r, hr, n, hn, rfl⟩, (haddr _ _).trans hra, by rw [hra, hsame.mark, hm]⟩
    · rintro ⟨y, hy, rfl, hm⟩
      obtain ⟨r, hr, n, hn, rfl⟩ := (hmem y).1 hy
      obtain h | ⟨x, -, hx, hsame⟩ := hnew r.addr n
      · simp [h, newSlot] at hm
      · exact ⟨⟨x, List.mem_of_find?_eq_some hx, hsame.addr.symm, by rw [← hsame.mark, hm]⟩, r, hr, (haddr _ _).symm, by simp [hn]⟩
  · obtain ⟨r, hr, n, hn, rfl⟩ := (hmem y).1 hy
    obtain h | ⟨x, -, hx, hsame⟩ := hnew r.addr n
    · rw [h]
      exact fun _ => ⟨rfl, rfl⟩
    · exact hsame.collectedOrMarked (hall x (List.mem_of_find?_eq_some hx))

theorem ScanMove.keeps_changes {d d' : ScanData} (h : ScanMove d d') (hold : MapOrdered d.active) (hnew : MapOrdered d'.active)
    (hslots : d.slotsFollow) (hd : d.scan.changesFollow) : d'.scan.changesFollow := by
  cases h with
  | same | down => exact hd
  | touches f hf =>
    refine ⟨Scan.listed_map hd.1 (fun x => (hf x).addr) fun x => (hf x).mark, fun y hy => ?_⟩
    obtain ⟨x, hx, rfl⟩ := List.mem_map.1 hy
    exact (hf x).collectedOrMarked (hd.2 x hx)
  | records a f hf =>
    refine Scan.testMark_follows (Scan.listed_map hd.1 (fun x => ?_) fun x => ?_) fun y hy hya => ?_
    · split
      · exact (hf x).addr
      · rfl
    · split
      · exact (hf x).mark
      · rfl
    · obtain ⟨x, hx, rfl⟩ := List.mem_map.1 hy
      split at hya
      · exact absurd ((hf x).addr.trans ‹_›) hya
      · rw [if_neg ‹_›]
        exact hd.2 x hx
  | collects n => exact Scan.collect_follows hd n
  | commits c now hl new hnewSlot hkept => exact ScanMove.commit_follows hl hnewSlot hkept hold hnew hslots hd
  | coldStarts =>
    have hmem (y : ScanSlot) (hy : y ∈ coldSlots d.active) : y.mark = false ∧ y.collectedOrMarked := by
      obtain ⟨r, -, hr⟩ := List.mem_filterMap.1 hy
      obtain ⟨n, -, rfl⟩ := Option.map_eq_some_iff.1 hr
      exact ⟨rfl, fun _ => ⟨rfl, rfl⟩⟩
    refine ⟨⟨?_, List.nodup_nil, fun a => ?_⟩, fun y hy => (hmem y hy).2⟩
    · have haddrs := map_filterMap_field d.active.stations (fun r => r.scan) (fun r _ => newSlot r.addr 0#32) (fun x => x.addr)
        (fun r => r.addr) fun _ _ => rfl
      rw [show (coldSlots d.active).map (fun x => x.addr) = _ from haddrs]
      exact hold.addr_nodup _
    · refine ⟨nofun, ?_⟩
      rintro ⟨y, hy, -, hm⟩
      rw [(hmem y hy).1] at hm
      cases hm

theorem step_keeps_slots {s t : State} (hs : SlotsFollowMap s) (h : step s = .next t) : SlotsFollowMap t :=
  (slotsFollowMap_iff t).2 (step_keeps_scan (fun _ _ hmove => hmove.keeps_slots) ((slotsFollowMap_iff s).1 hs) h)

/-- The conditions on the slots and the change list, with that on the maps they follow. -/
def ScanKept (s : State) : Prop := MapsOrdered s ∧ s.scanData.slotsFollow ∧ s.scan.changesFollow

theorem ScanKept.of_move {s t : State} (hs : ScanKept s) (hmaps : MapsOrdered t) (hmove : ScanMove s.scanData t.scanData) :
    ScanKept t :=
  ⟨hmaps, hmove.keeps_slots hs.2.1, hmove.keeps_changes hs.1.1 hmaps.1 hs.2.1 hs.2.2⟩

/-- Settles O58: a commit builds the slots anew from the new map, and every other move keeps addresses, marks and list together. -/
theorem stepsKeepSlotsAndChanges : Obligations.StepsKeepSlotsAndChanges := by
  intro s t hmaps hslots hchanges h
  have hkept : ScanKept t := step_keeps (p := ScanKept) (fun _ _ ha hp => by cases ha <;> exact hp)
    (fun u i _ _ _ _ hp => by rw [State.sent_frame]; exact hp)
    (fun _ _ hc hp => hp.of_move (hc.keeps_mapsOrdered hp.1) hc.scanMove)
    (fun _ _ hc hp => hp.of_move (hc.keeps_mapsOrdered hp.1) hc.scanMove)
    ⟨hmaps, (slotsFollowMap_iff s).1 hslots, (changesFollowMarks_iff s).1 hchanges⟩ h
  exact ⟨(slotsFollowMap_iff t).2 hkept.2.1, (changesFollowMarks_iff t).2 hkept.2.2⟩

end Sys2Proof.Machine
end

section
/-! PROOFS. The token states stay with the budgeted stations, each count within its depth (R59, R60). -/

namespace Sys2Proof.Machine

open Relation

/-- The blocks that rate budgets read and write. -/
structure TokenData where
  live : Bool
  active : ConfigSet
  tokens : List TokenState

def State.tokenData (s : State) : TokenData := { live := s.live, active := s.active, tokens := s.tokens }

/-- The budget of a station in a configuration set. -/
def ConfigSet.budget? (c : ConfigSet) (a : Octet) : Option Budget := (c.record? a).bind fun r => r.budget

/-- What a move does to the token states. -/
inductive TokenMove (d : TokenData) : TokenData → Prop
  | same : TokenMove d d
  | down (c : ConfigSet) : TokenMove d { d with live := false, active := c }
  | touches (f : TokenState → TokenState) (ha : ∀ x, (f x).addr = x.addr)
      (hc : ∀ x b, d.active.budget? x.addr = some b → x.count ≤ b.depth → (f x).count ≤ b.depth) :
      TokenMove d { d with tokens := d.tokens.map f }
  | remakes (c : ConfigSet) (make : Octet → Budget → TokenState) (ha : ∀ a b, (make a b).addr = a)
      (hc : ∀ a b, (make a b).count ≤ b.depth) :
      TokenMove d { live := true, active := c
                    tokens := c.stations.filterMap fun r => r.budget.map fun b => make r.addr b }

theorem TokenMove.updates (s : State) (a : Octet) (f : TokenState → TokenState) (ha : ∀ x, (f x).addr = x.addr)
    (hc : ∀ x b, s.active.budget? a = some b → x.count ≤ b.depth → (f x).count ≤ b.depth) :
    TokenMove s.tokenData (s.updateTokens a f).tokenData := by
  refine .touches (d := s.tokenData) (fun t => if t.addr = a then f t else t) (fun x => ?_) fun x b hb hx => ?_
  · split
    · exact ha x
    · rfl
  · split
    · rename_i hxa
      exact hc x b (hxa ▸ hb) hx
    · exact hx

theorem Calm.tokenMove {s t : State} (h : Calm s t) : TokenMove s.tokenData t.tokenData := by
  have hsame {t : State} (hs : t.seq = s.seq) (ha : t.active = s.active) (hc : t.tokens = s.tokens) :
      TokenMove s.tokenData t.tokenData := by
    unfold State.tokenData
    rw [State.live_of_frame hs, ha, hc]
    exact .same
  cases h with
  | completes k f => exact hsame (by rw [State.complete_frame]) (by rw [State.complete_frame]) (by rw [State.complete_frame])
  | refuses f r => unfold State.refuse; split <;> exact .same
  | takesToken r hr =>
    unfold State.takeToken
    split
    · exact .same
    · exact .updates s r.addr _ (fun _ => rfl) fun x b _ hx => (Nat.sub_le ..).trans hx
  | refills a b r hr hb =>
    refine .updates s a _ (fun _ => rfl) fun x b' hb' hx => ?_
    rw [ConfigSet.budget?, hr] at hb'
    obtain rfl : b = b' := Option.some.inj (hb.symm.trans hb')
    exact Nat.min_le_left ..
  | restartPends hl =>
    have hdata : ({ s with seq := { s.seq with run := .restartPending } } : State).tokenData = s.tokenData := by
      unfold State.tokenData
      rw [hl]
      rfl
    rw [hdata]
    exact .same
  | falls p h =>
    have hframe (u : State) : u.cutStore.active = u.active ∧ u.cutStore.tokens = u.tokens := by
      unfold State.cutStore
      split <;> exact ⟨rfl, rfl⟩
    obtain ⟨hactive, htokens⟩ := hframe { s with pins := p }
    have hdata : ({ s with pins := p }.resetBegun).tokenData = { s.tokenData with live := false, active := s.active } :=
      congrArg₂ (TokenData.mk false) hactive htokens
    rw [hdata]
    exact .down _
  | coldBegins p cause => exact .down (d := s.tokenData) _
  | periodPasses =>
    unfold State.tick
    dsimp only
    split
    · exact .touches (d := s.tokenData) (fun x => { x with timer := tickTimer x.timer }) (fun _ => rfl) fun _ _ _ hx => hx
    · exact .same
  | _ => exact .same

theorem State.tokensAfter_fields (s : State) (old : ConfigSet) (a : Octet) (b : Budget) :
    (s.tokensAfter old a b).addr = a ∧ (s.tokensAfter old a b).count ≤ b.depth := by
  unfold State.tokensAfter
  split
  · exact ⟨rfl, Nat.min_le_right ..⟩
  · exact ⟨rfl, Nat.le_refl _⟩

theorem Stir.tokenMove {s t : State} (h : Stir s t) : TokenMove s.tokenData t.tokenData := by
  have hfull : TokenMove s.tokenData { live := true, active := s.active, tokens := fullTokens s.active } :=
    .remakes (d := s.tokenData) s.active (fun a b => { addr := a, count := b.depth, timer := none }) (fun _ _ => rfl)
      fun _ _ => Nat.le_refl _
  cases h with
  | picks b => rw [State.arbitrate_frame]; exact .same
  | releasesPoll p => rw [State.pollReleased_frame]; exact .same
  | leaves b h => rw [State.heldIfDone_frame]; exact .same
  | faults b h hi => rw [State.heldIfDone_frame]; exact .same
  | entersFailsafe cause hl h => rw [State.failsafeEntry_frame]; exact .same
  | commits hl h =>
    have hdata : s.replaceActive.1.tokenData =
        { live := true, active := s.shadow
          tokens := s.shadow.stations.filterMap fun r => r.budget.map fun b => s.tokensAfter s.active r.addr b } := by
      unfold State.tokenData
      rw [State.replaceActive_tokens, State.live_of_frame (s := s) (t := s.replaceActive.1) (by rw [State.replaceActive_frame]), hl,
        State.replaceActive_frame]
    rw [hdata]
    exact .remakes (d := s.tokenData) s.shadow (s.tokensAfter s.active) (fun a b => (s.tokensAfter_fields _ a b).1)
      (fun a b => (s.tokensAfter_fields _ a b).2)
  | coldStarts | warmStarts => exact hfull
  | _ => exact .same

/-- The condition `TokensBounded` of the rate budgets. -/
def TokenData.bounded (d : TokenData) : Prop :=
  d.live = true →
    d.tokens.map (fun t => t.addr) = (d.active.stations.filter fun r => r.budget.isSome).map (fun r => r.addr)
    ∧ ∀ t ∈ d.tokens, ∀ b, d.active.budget? t.addr = some b → t.count ≤ b.depth

theorem tokensBounded_iff (s : State) : TokensBounded s ↔ s.tokenData.bounded := by
  simp only [TokensBounded, TokenData.bounded, State.tokenData, State.live, bne_iff_ne, ConfigSet.budget?, Option.bind_eq_some_iff,
    forall_exists_index, and_imp]
  exact imp_congr_right fun _ => and_congr_right fun _ =>
    ⟨fun h t ht b r hr hb => h t ht r b hr hb, fun h t ht r b hr hb => h t ht b r hr hb⟩

theorem TokenMove.keeps_bounded {d d' : TokenData} (h : TokenMove d d') (hmap : MapOrdered d'.active) (hd : d.bounded) :
    d'.bounded := by
  cases h with
  | same => exact hd
  | down => exact nofun
  | touches f ha hc =>
    intro hl
    obtain ⟨haddrs, hcounts⟩ := hd hl
    refine ⟨by simpa [Function.comp_def, ha] using haddrs, fun t ht b hb => ?_⟩
    obtain ⟨x, hx, rfl⟩ := List.mem_map.1 ht
    rw [ha] at hb
    exact hc x b hb (hcounts x hx b hb)
  | remakes c make ha hc =>
    refine fun _ => ⟨map_filterMap_field _ _ (fun r b => make r.addr b) _ _ fun r b => ha r.addr b, fun t ht b hb => ?_⟩
    obtain ⟨r, hr, hrt⟩ := List.mem_filterMap.1 ht
    obtain ⟨b', hb', rfl⟩ := Option.map_eq_some_iff.1 hrt
    have hrecord : c.budget? r.addr = some b' := by rw [ConfigSet.budget?, hmap.record? hr]; exact hb'
    rw [ha] at hb
    obtain rfl : b' = b := Option.some.inj (hrecord.symm.trans hb)
    exact hc _ _

/-- The condition on the token states, with that on the maps they follow. -/
def TokensKept (s : State) : Prop := MapsOrdered s ∧ s.tokenData.bounded

/-- Settles O57: a commit and a start build the token states anew, and every other move keeps stations and bounds. -/
theorem stepsKeepTokens : Obligations.StepsKeepTokens := by
  intro s t hmaps htokens h
  have hkept : TokensKept t := step_keeps (p := TokensKept) (fun _ _ ha hp => by cases ha <;> exact hp)
    (fun u i _ _ _ _ hp => by rw [State.sent_frame]; exact hp)
    (fun _ _ hc hp => ⟨hc.keeps_mapsOrdered hp.1, hc.tokenMove.keeps_bounded (hc.keeps_mapsOrdered hp.1).1 hp.2⟩)
    (fun _ _ hc hp => ⟨hc.keeps_mapsOrdered hp.1, hc.tokenMove.keeps_bounded (hc.keeps_mapsOrdered hp.1).1 hp.2⟩)
    ⟨hmaps, (tokensBounded_iff s).1 htokens⟩ h
  exact (tokensBounded_iff t).2 hkept.2

end Sys2Proof.Machine
end

section
/-! PROOFS. The queue of the waiting commands, which no event touches; the queues within their capacities, and what waits RETURNING
(R14, R18, R66, R128, R130, R138). -/

namespace Sys2Proof.Machine

open Relation

/-! ### The waiting commands -/

theorem Calm.pending {s t : State} (h : Calm s t) : t.pending = s.pending := by
  cases h with
  | completes k f => rw [State.complete_frame]
  | refuses f r => unfold State.refuse; split <;> rfl
  | takesToken r hr => rw [State.takeToken_frame]
  | falls p h => unfold State.resetBegun State.cutStore; split <;> rfl
  | periodPasses => unfold State.tick; dsimp only; split <;> rfl
  | _ => rfl

theorem Stir.pending {s t : State} (h : Stir s t) : t.pending = s.pending := by
  cases h with
  | picks b => rw [State.arbitrate_frame]
  | releasesPoll p => rw [State.pollReleased_frame]
  | leaves b h => rw [State.heldIfDone_frame]; rfl
  | faults b h hi => rw [State.heldIfDone_frame]; rfl
  | commits hl h => rw [State.replaceActive_frame]
  | entersFailsafe cause hl h => rw [State.failsafeEntry_frame]
  | _ => rfl

/-- Settles O4: no move of an event touches the waiting commands. -/
theorem commandsLeaveTheQueue : Obligations.CommandsLeaveTheQueue := by
  intro c s t h
  obtain ⟨u, hopen, hcourse⟩ := exec_course h
  have hu : u.pending = s.pending := by
    cases hopen with
    | atOnce => rfl
    | sent i rest => rw [State.sent_frame]
  exact hcourse.keeps (p := fun t => t.pending = s.pending) (fun _ _ hm hp => hm.pending.trans hp)
    (fun _ _ hm hp => hm.pending.trans hp) hu

/-! ### Moves of the outbound queue -/

/-- The outbound queue with its transmitter, and what waits for room in it. -/
structure OutData where
  live : Bool
  queue : List OutItem
  tx : Transmitter
  returning : List Nat

def State.outData (s : State) : OutData :=
  { live := s.live, queue := s.up.queue, tx := s.up.tx, returning := s.table.returning }

/-- What a move does to the outbound queue. -/
inductive OutMove (d : OutData) : OutData → Prop
  | same : OutMove d d
  | appends (i : OutItem) (tx : Transmitter) (hroom : d.queue.length < 8) (htx : tx ≠ .idle) :
      OutMove d { d with queue := d.queue ++ [i], tx := tx }
  | waits (k : Nat) (h : d.queue.length < 8 → d.returning ≠ []) : OutMove d { d with returning := d.returning ++ [k] }
  | times (tx : Transmitter) (hs : ∀ n, tx = .sending n → d.queue ≠ [] ∨ ∃ m, d.tx = .sending m)
      (hi : tx = .idle → d.queue = [] ∨ d.tx = .idle) : OutMove d { d with tx := tx }
  | stops : OutMove d { d with live := false, tx := .idle }
  | empties (tx : Transmitter) (htx : ∀ n, tx ≠ .sending n) : OutMove d { live := true, queue := [], tx := tx, returning := [] }

theorem Upstream.append_queue (u : Upstream) (i : OutItem) : (u.append i).queue = u.queue ++ [i] := by
  unfold Upstream.append
  cases u.tx <;> simp [Upstream.beginHead]
  cases u.queue <;> simp

theorem Upstream.append_tx (u : Upstream) (i : OutItem) : (u.append i).tx ≠ .idle := by
  unfold Upstream.append
  cases u.tx <;> simp [Upstream.beginHead]
  cases u.queue <;> simp

theorem State.complete_outMove (s : State) (k : Nat) (f : Form) : OutMove s.outData (s.complete k f).outData := by
  cases he : s.table.find? k with
  | none =>
    rw [s.complete_free k f he]
    exact .same
  | some e =>
    cases ho : e.state.isOpen with
    | false =>
      rw [s.complete_closed k f e he ho]
      exact .same
    | true =>
      obtain ⟨-, -, -, hout⟩ := s.complete_open k f e he ho
      have hlive : (s.complete k f).live = s.live := State.live_of_frame (by rw [State.complete_frame])
      unfold State.outData
      rw [hlive]
      split at hout
      · rename_i hroom
        obtain ⟨-, hret, hup⟩ := hout
        rw [hret, hup, Upstream.append_queue, ← hroom.2]
        exact .appends (d := s.outData) _ _ hroom.1 (Upstream.append_tx _ _)
      · rename_i hfull
        obtain ⟨-, hret, hup⟩ := hout
        rw [hret, hup]
        exact .waits (d := s.outData) k fun hlt hnil => hfull ⟨hlt, hnil⟩

theorem Calm.outMove {s t : State} (h : Calm s t) : OutMove s.outData t.outData := by
  cases h with
  | completes k f => exact s.complete_outMove k f
  | refuses f r =>
    unfold State.refuse
    split
    · rename_i hroom
      have hdata : OutMove s.outData { s.outData with
          queue := (s.up.append { frame := refusedFrame f r, note := .refusal }).queue
          tx := (s.up.append { frame := refusedFrame f r, note := .refusal }).tx } := by
        rw [Upstream.append_queue]
        exact .appends _ _ (of_decide_eq_true hroom) (Upstream.append_tx _ _)
      exact hdata
    · exact .same
  | headBegins htx =>
    show OutMove s.outData { s.outData with queue := s.up.beginHead.queue, tx := s.up.beginHead.tx }
    unfold Upstream.beginHead
    split
    · rename_i hq
      exact .times (d := s.outData) .idle nofun fun _ => .inl hq
    · rename_i i rest hq
      exact .times (d := s.outData) (.sending _) (fun _ _ => .inl (by simp [State.outData, hq])) nofun
  | takesToken r hr => rw [State.takeToken_frame]; exact .same
  | restartPends hl =>
    have hdata : ({ s with seq := { s.seq with run := .restartPending } } : State).outData = s.outData := by
      unfold State.outData
      rw [hl]
      rfl
    rw [hdata]
    exact .same
  | falls p h =>
    have hframe (u : State) : u.cutStore.up = u.up ∧ u.cutStore.table = u.table := by
      unfold State.cutStore
      split <;> exact ⟨rfl, rfl⟩
    obtain ⟨hup, htable⟩ := hframe { s with pins := p }
    have hdata : ({ s with pins := p }.resetBegun).outData = { s.outData with live := false, tx := .idle } := by
      show OutData.mk false ({ s with pins := p } : State).cutStore.up.queue .idle
        ({ s with pins := p } : State).cutStore.table.returning = _
      rw [hup, htable]
      rfl
    rw [hdata]
    exact .stops
  | coldBegins p cause => exact .stops (d := s.outData)
  | periodPasses =>
    unfold State.tick
    dsimp only
    split
    · refine .times (d := s.outData) s.up.tx.tick (fun n hn => .inr ?_) fun hi => .inr ?_
      · show ∃ m, s.up.tx = .sending m
        cases htx : s.up.tx <;> simp [htx, Transmitter.tick] at hn ⊢
      · show s.up.tx = .idle
        cases htx : s.up.tx <;> simp [htx, Transmitter.tick] at hi ⊢
    · exact .same
  | _ => exact .same

theorem Stir.outMove {s t : State} (h : Stir s t) : OutMove s.outData t.outData := by
  have hsame {t : State} (hs : t.seq = s.seq) (hu : t.up = s.up) (hr : t.table.returning = s.table.returning) :
      OutMove s.outData t.outData := by
    unfold State.outData
    rw [State.live_of_frame hs, hu, hr]
    exact .same
  have hshares (u : State) (b : BranchId) (ks : List Nat) : (u.sharesAborted b ks).table.returning = u.table.returning :=
    foldl_frame (f := fun t k => t.shareAborted b k) (v := fun t => t.table.returning) (fun _ _ => rfl) ks u
  cases h with
  | picks b =>
    refine hsame (by rw [State.arbitrate_frame]) (by rw [State.arbitrate_frame]) ?_
    unfold State.arbitrate State.pick State.claimTaken
    (repeat' split) <;> rfl
  | releasesPoll p => rw [State.pollReleased_frame]; exact .same
  | leaves b h => rw [State.heldIfDone_frame]; exact .same
  | faults b h hi => rw [State.heldIfDone_frame]; exact .same
  | commits hl h =>
    refine hsame (by rw [State.replaceActive_frame]) (by rw [State.replaceActive_frame]) ?_
    have hbranch (t : State) (b : BranchId) : (t.commitBranch s.active b).1.table.returning = t.table.returning := by
      unfold State.commitBranch State.disableBranch State.enableBranch
      split
      · dsimp only
        rw [State.itemsSkipped_frame]
        exact hshares t b _
      · dsimp only
        split <;> rfl
      · rfl
    unfold State.replaceActive
    dsimp only
    rw [State.heldIfDone_frame, State.commitSilence_frame]
    exact State.eachBranch_frame (v := fun t => t.table.returning) hbranch { s with active := s.shadow }
  | entersFailsafe cause hl h =>
    refine hsame (by rw [State.failsafeEntry_frame]) (by rw [State.failsafeEntry_frame]) ?_
    rw [State.failsafeEntry_fst]
    show (List.foldl State.listAction _ _ : State).table.returning = _
    rw [foldl_frame (v := fun t => t.table.returning) fun t r => by rw [State.listAction_frame]]
    exact State.eachBranch_frame (v := fun t => t.table.returning) (fun t b => hshares t b _) (s.entryBegun cause)
  | coldStarts => exact .empties .idle nofun
  | warmStarts hl =>
    have hdata : s.warmStarted.outData = { live := true, queue := [], returning := []
                                           tx := .spacing (spacingChars * s.active.settings.upRate.charPeriods) } := rfl
    rw [hdata]
    exact .empties _ nofun
  | _ => exact .same

/-! ### Capacities (R66, R128, R130, R138) -/

/-- The condition `QueuesBounded` of the outbound queue. -/
def OutData.bounded (d : OutData) : Prop :=
  d.queue.length ≤ 8 ∧ (∀ n, d.tx = .sending n → d.queue ≠ []) ∧ (d.live = true → d.tx = .idle → d.queue = [])

theorem OutMove.keeps_bounded {d d' : OutData} (h : OutMove d d') (hd : d.bounded) : d'.bounded := by
  obtain ⟨hlen, hsending, hidle⟩ := hd
  cases h with
  | same => exact ⟨hlen, hsending, hidle⟩
  | appends i tx hroom htx => exact ⟨by simpa using hroom, fun _ _ => by simp, fun _ h => absurd h htx⟩
  | waits k h => exact ⟨hlen, hsending, hidle⟩
  | times tx hs hi =>
    refine ⟨hlen, fun n hn => ?_, fun hl hn => ?_⟩
    · obtain hq | ⟨m, hm⟩ := hs n hn
      · exact hq
      · exact hsending m hm
    · exact (hi hn).elim id (hidle hl)
  | stops => exact ⟨hlen, nofun, nofun⟩
  | empties tx htx => exact ⟨Nat.zero_le _, fun n hn => absurd hn (htx n), fun _ _ => rfl⟩

theorem Branch.afterPick_queue_length (x : Branch) (cfg : BranchSettings) (own : Octet) (n : Nat) {burst : Nat}
    {poll : Option ScanSlot} {c : Claim} (h : chooseClaim x burst poll = some c) :
    (x.afterPick cfg own n c).queue.length ≤ x.queue.length := by
  cases c with
  | failsafe f rest => exact Nat.le_refl _
  | poll p => exact Nat.le_refl _
  | queued q rest =>
    have hqueue : x.queue = q :: rest := by
      unfold chooseClaim Branch.queueClaim at h
      cases hq : x.queue <;> (repeat' split at h) <;> simp_all
    cases q <;> simp [Branch.afterPick, Branch.picked, Branch.beginGuard, hqueue]

theorem BranchStep.queue_same {l : Bool} {x y : Branch} (h : BranchStep l x y) : y.queue = x.queue := by
  cases h <;> rfl

theorem BranchMove.keeps_queue {p q : Bool × Branch} (h : BranchMove p q) (hx : p.2.queue.length ≤ 8) : q.2.queue.length ≤ 8 := by
  cases h with
  | step h => exact h.queue_same ▸ hx
  | starts | faults => exact Nat.zero_le _
  | picks x cfg own n poll c h hc => exact (Branch.afterPick_queue_length x cfg own n hc).trans hx
  | enqueues l x q h => simpa using h
  | disables l x =>
    unfold Branch.disabledBy
    dsimp only
    split <;> exact Nat.zero_le _
  | orphans l x f =>
    unfold Branch.orphaned
    (repeat' split) <;> exact hx
  | sheds l x p => exact (List.length_filter_le ..).trans hx
  | _ => exact hx

theorem Calm.agentQueue {s t : State} (h : Calm s t) : t.agent.queue.length ≤ s.agent.queue.length ∨ t.agent.queue.length ≤ 4 := by
  cases h with
  | agent a h => exact h
  | completes k f => rw [State.complete_frame]; exact .inl (Nat.le_refl _)
  | refuses f r => unfold State.refuse; split <;> exact .inl (Nat.le_refl _)
  | takesToken r hr => rw [State.takeToken_frame]; exact .inl (Nat.le_refl _)
  | falls p h => unfold State.resetBegun State.cutStore; split <;> exact .inl (Nat.le_refl _)
  | periodPasses => unfold State.tick; dsimp only; split <;> exact .inl (Nat.le_refl _)
  | _ => exact .inl (Nat.le_refl _)

theorem Stir.agentQueue {s t : State} (h : Stir s t) : t.agent.queue.length ≤ s.agent.queue.length ∨ t.agent.queue.length ≤ 4 := by
  cases h with
  | picks b => rw [State.arbitrate_frame]; exact .inl (Nat.le_refl _)
  | releasesPoll p => rw [State.pollReleased_frame]; exact .inl (Nat.le_refl _)
  | leaves b h => rw [State.heldIfDone_frame]; exact .inl (Nat.le_refl _)
  | faults b h hi => rw [State.heldIfDone_frame]; exact .inl (Nat.le_refl _)
  | commits hl h => rw [State.replaceActive_frame]; exact .inl (Nat.le_refl _)
  | entersFailsafe cause hl h => rw [State.failsafeEntry_frame]; exact .inl (Nat.le_refl _)
  | coldStarts | warmStarts => exact .inr (Nat.zero_le _)
  | _ => exact .inl (Nat.le_refl _)

theorem State.promote_queue_length (s : State) : s.promote.up.queue.length ≤ s.up.queue.length + 1 := by
  unfold State.promote
  (repeat' split) <;> simp [Upstream.append_queue]

@[simp] theorem State.release_up (s : State) (n : ReleaseNote) : (s.release n).up = s.up := by cases n <;> rfl

@[simp] theorem State.release_returning (s : State) (n : ReleaseNote) : (s.release n).table.returning = s.table.returning := by
  cases n <;> rfl

@[simp] theorem State.rateChange_queue (s : State) (n : ReleaseNote) : (s.rateChange n).up.queue = s.up.queue := by cases n <;> rfl

@[simp] theorem State.rateChange_table (s : State) (n : ReleaseNote) : (s.rateChange n).table = s.table := by cases n <;> rfl

theorem State.sent_queue (s : State) (i : OutItem) : (s.sent i).up.queue = ((s.itemGone).release i.note).promote.up.queue := by
  simp [State.sent, State.startSpacing]

theorem State.sent_table (s : State) (i : OutItem) : (s.sent i).table = ((s.itemGone).release i.note).promote.table := by
  simp [State.sent, State.startSpacing]

theorem State.sent_bounded {s : State} {i : OutItem} {rest : List OutItem} (hq : s.up.queue = i :: rest)
    (hs : s.outData.bounded) : (s.sent i).outData.bounded := by
  obtain ⟨hlen, -, -⟩ := hs
  have hlen : rest.length + 1 ≤ 8 := by simpa [State.outData, hq] using hlen
  refine ⟨?_, nofun, nofun⟩
  show (s.sent i).up.queue.length ≤ 8
  rw [State.sent_queue]
  refine (State.promote_queue_length _).trans ?_
  simpa [State.itemGone, hq] using hlen

theorem step_keeps_queues {s t : State} (hs : QueuesBounded s) (h : step s = .next t) : QueuesBounded t := by
  obtain ⟨hout, hbranches, hagent, hsending, hidle⟩ := hs
  have hlive (u : State) : u.live = true ↔ u.seq.run ≠ .loading := by simp [State.live]
  have hkept : t.outData.bounded := step_keeps (p := fun u => u.outData.bounded)
    (fun _ _ ha hp => by cases ha <;> exact hp) (fun _ _ _ _ _ hq hp => State.sent_bounded hq hp)
    (fun _ _ hc => hc.outMove.keeps_bounded) (fun _ _ hc => hc.outMove.keeps_bounded)
    ⟨hout, hsending, fun hl => hidle ((hlive s).1 hl)⟩ h
  have hkeptAgent : t.agent.queue.length ≤ 4 := step_keeps (p := fun u => u.agent.queue.length ≤ 4)
    (fun _ _ ha hp => by cases ha <;> exact hp) (fun u i _ _ _ _ hp => by rw [State.sent_frame]; exact hp)
    (fun _ _ hc hp => hc.agentQueue.elim (fun h => h.trans hp) id) (fun _ _ hc hp => hc.agentQueue.elim (fun h => h.trans hp) id)
    hagent h
  exact ⟨hkept.1, step_keeps_branches (p := fun p => p.2.queue.length ≤ 8) (fun _ _ hm => hm.keeps_queue) hbranches h,
    hkeptAgent, hkept.2.1, fun hl => hkept.2.2 ((hlive t).2 hl)⟩

/-! ### What waits RETURNING (R14, R18) -/

/-- The condition `ReturningWaits` of the outbound queue. -/
def OutData.waits (d : OutData) : Prop := d.live = true → d.returning ≠ [] → 8 ≤ d.queue.length

theorem OutMove.keeps_waits {d d' : OutData} (h : OutMove d d') (hd : d.waits) : d'.waits := by
  cases h with
  | same => exact hd
  | appends i tx hroom htx => exact fun hl hr => (hd hl hr).trans (by simp)
  | waits k h => exact fun hl _ => Nat.le_of_not_lt fun hlt => Nat.not_le.2 hlt (hd hl (h hlt))
  | times => exact hd
  | stops => exact nofun
  | empties => exact fun _ h => absurd rfl h

theorem Table.find?_free (t : Table) (k j : Nat) : (t.free k).find? j = if j = k then none else t.find? j := by
  unfold Table.free Table.find?
  rw [List.find?_filter]
  by_cases hjk : j = k
  · subst hjk
    simp
  · rw [if_neg hjk]
    congr 1
    funext e
    by_cases he : e.slot = j <;> simp [he, hjk]

/-- The slot whose entry a note frees. -/
theorem State.release_find? (s : State) (n : ReleaseNote) (k : Nat) :
    (s.release n).table.find? k = if n.slot? = some k then none else s.table.find? k := by
  cases n <;> simp [State.release, ReleaseNote.slot?, Table.find?_free, eq_comm]

theorem State.promote_nothing {s : State} (h : s.table.returning = []) : s.promote = s := by
  simp [State.promote, h]

/-- The oldest RETURNING entry with its answer takes the place that has become free (R14). -/
theorem State.promote_answered {s : State} {k : Nat} {rest : List Nat} {e : Entry} {f : Frame} (hr : s.table.returning = k :: rest)
    (he : s.table.find? k = some e) (hf : e.reply = some f) : s.promote =
      { s with table := { s.table.update k (fun e => { e with state := .outbound }) with returning := rest }
               up := s.up.append { frame := f, note := releaseNote e f } } := by
  simp [State.promote, hr, he, hf]

/-- The entry RETURNING longest, found in its slot with its answer, with the head item's slot freed. -/
theorem EntriesPlaced.returning_head {s : State} (hplaced : EntriesPlaced s) (hl : s.seq.run ≠ .loading) {i : OutItem}
    {items : List OutItem} (hq : s.up.queue = i :: items) {k : Nat} {rest : List Nat} (hr : s.table.returning = k :: rest) :
    ∃ e f, ((s.itemGone).release i.note).table.find? k = some e ∧ e.reply = some f ∧ e.state = .returning := by
  obtain ⟨hshaped, -, -, -, -, -, -, hreturning, -, houtbound, -⟩ := hplaced hl
  obtain ⟨e, he, hstate⟩ := (hreturning k).1 (by rw [hr]; exact List.mem_cons_self ..)
  have hfreed : i.note.slot? ≠ some k := by
    intro hk
    obtain ⟨e', he', hstate'⟩ := (houtbound k).1 (List.mem_filterMap.2 ⟨i, by rw [hq]; exact List.mem_cons_self .., hk⟩)
    obtain rfl : e' = e := Option.some.inj (he'.symm.trans he)
    simp [hstate] at hstate'
  obtain ⟨-, -, -, -, -, hclosed⟩ := hshaped e (List.mem_of_find?_eq_some he)
  obtain ⟨f, hf⟩ := Option.isSome_iff_exists.1 (hclosed (by rw [hstate]; rfl)).1
  refine ⟨e, f, ?_, hf, hstate⟩
  rw [State.release_find?, if_neg hfreed]
  exact he

theorem State.sent_waits {s : State} {i : OutItem} {items : List OutItem} (hq : s.up.queue = i :: items)
    (hplaced : EntriesPlaced s) (hs : ReturningWaits s) : (s.sent i).outData.waits := by
  intro hl hr
  have hrun : s.seq.run ≠ .loading := by
    have hlive : (s.sent i).live = s.live := State.live_of_frame (by rw [State.sent_frame])
    have hl' : s.live = true := hlive ▸ hl
    simpa [State.live] using hl'
  cases hret : s.table.returning with
  | nil =>
    refine absurd ?_ hr
    show (s.sent i).table.returning = []
    rw [State.sent_table]
    have hnil : ((s.itemGone).release i.note).table.returning = [] := by simpa using hret
    rw [State.promote_nothing hnil, hnil]
  | cons k rest =>
    obtain ⟨e, f, he, hf, -⟩ := hplaced.returning_head hrun hq hret
    have hlen := hs hrun (by rw [hret]; simp)
    show 8 ≤ (s.sent i).up.queue.length
    rw [State.sent_queue, State.promote_answered (by simpa using hret) he hf]
    simpa [Upstream.append_queue, State.itemGone, hq] using hlen

theorem returningWaits_iff (s : State) : ReturningWaits s ↔ s.outData.waits := by
  simp [ReturningWaits, OutData.waits, State.outData, State.live]

/-- A condition that every move keeps holds after a step where it holds once the step has opened. -/
theorem step_keeps_opened {p : State → Prop} {s t : State} (hopen : ∀ u v, Awaited s u → Opening u v → p v)
    (hcalm : ∀ s t, Calm s t → p s → p t) (hstir : ∀ s t, Stir s t → p s → p t) (h : step s = .next t) : p t := by
  obtain ⟨u, v, hu, hv, hcourse⟩ := step_course h
  exact hcourse.keeps hcalm hstir (hopen u v hu hv)

theorem step_keeps_returningWaits {s t : State} (hplaced : EntriesPlaced s) (hs : ReturningWaits s) (h : step s = .next t) :
    ReturningWaits t := by
  refine (returningWaits_iff t).2 (step_keeps_opened (p := fun u => u.outData.waits) (fun u v hu hv => ?_)
    (fun _ _ hc => hc.outMove.keeps_waits) (fun _ _ hc => hc.outMove.keeps_waits) h)
  have hplaced' : EntriesPlaced u := by cases hu <;> exact hplaced
  have hs' : ReturningWaits u := by cases hu <;> exact hs
  cases hv with
  | atOnce => exact (returningWaits_iff u).1 hs'
  | sent i rest hl ht hq => exact State.sent_waits hq hplaced' hs'

/-- Settles O48: the moves of the outbound queue, and the end of a transmission, which the oldest waiting answer follows. -/
theorem stepsKeepQueues : Obligations.StepsKeepQueues :=
  ⟨fun _ _ => step_keeps_queues, fun _ _ _ => step_keeps_returningWaits⟩

end Sys2Proof.Machine
end

section
/-! PROOFS. No IDLE branch keeps a claimant: the arbiters leave none, and no calm move gives one (R68). -/

namespace Sys2Proof.Machine

open Relation

/-! ### Claims on one branch -/

/-- The branch has no claimant, or is not IDLE, or the part is not live (R68). -/
def State.unclaimed (s : State) (b : BranchId) : Prop :=
  s.live = true → (s.branch b).state = .idle → (s.branch b).failsafe = [] ∧ (s.branch b).queue = [] ∧ s.overdueClaims b = []

theorem noIdleClaim_iff (s : State) : NoIdleClaim s ↔ ∀ b, s.unclaimed b := by
  simp only [NoIdleClaim, State.unclaimed, State.live, bne_iff_ne]
  exact ⟨fun h b hl => h hl b, fun h hl b => h b hl⟩

theorem State.overdueClaims_congr {s t : State} (ha : t.active = s.active) (hs : t.scan.slots = s.scan.slots) (b : BranchId) :
    t.overdueClaims b = s.overdueClaims b := by
  have hclaims : t.claimsBranch b = s.claimsBranch b := by
    funext x
    unfold State.claimsBranch
    rw [ha]
  rw [State.overdueClaims, hclaims, hs, State.overdueClaims]

/-- Slots that change without a new claim leave a branch without claims. -/
theorem State.overdueClaims_map {s t : State} (ha : t.active = s.active) {f : ScanSlot → ScanSlot}
    (hs : t.scan.slots = s.scan.slots.map f) {b : BranchId}
    (hf : ∀ x, s.claimsBranch b (f x) = true → s.claimsBranch b x = true) (h : s.overdueClaims b = []) : t.overdueClaims b = [] := by
  have hclaims : t.claimsBranch b = s.claimsBranch b := by
    funext x
    unfold State.claimsBranch
    rw [ha]
  unfold State.overdueClaims at h ⊢
  rw [hclaims, hs, List.filter_eq_nil_iff]
  rw [List.filter_eq_nil_iff] at h
  intro y hy
  obtain ⟨x, hx, rfl⟩ := List.mem_map.1 hy
  exact fun hc => h x hx (hf x hc)

/-- What a branch without a claimant needs to stay so. -/
theorem State.unclaimed_of {s t : State} {b : BranchId} (h : s.unclaimed b) (hl : t.live = true → s.live = true)
    (hb : (t.branch b).state = .idle → (s.branch b).state = .idle ∧ (t.branch b).failsafe = (s.branch b).failsafe
      ∧ (t.branch b).queue = (s.branch b).queue) (hc : s.overdueClaims b = [] → t.overdueClaims b = []) : t.unclaimed b := by
  intro hlive hidle
  obtain ⟨hidle', hf, hq⟩ := hb hidle
  obtain ⟨hfailsafe, hqueue, hclaims⟩ := h (hl hlive) hidle'
  exact ⟨hf.trans hfailsafe, hq.trans hqueue, hc hclaims⟩

/-! ### The arbiters -/

theorem State.firstClaim_eq_none {s : State} {b : BranchId} (h : s.firstClaim b = none) : s.overdueClaims b = [] := by
  unfold State.firstClaim at h
  cases hc : s.overdueClaims b with
  | nil => rfl
  | cons x xs => rw [hc] at h; simp at h

theorem chooseClaim_eq_none {x : Branch} {burst : Nat} {poll : Option ScanSlot} (h : chooseClaim x burst poll = none) :
    x.failsafe = [] ∧ x.queue = [] ∧ poll = none := by
  unfold chooseClaim Branch.queueClaim at h
  cases hf : x.failsafe with
  | cons f fs => simp [hf] at h
  | nil =>
    cases poll with
    | none => cases hq : x.queue <;> simp [hf, hq] at h ⊢
    | some p => cases hq : x.queue <;> (simp only [hf, hq] at h; split at h <;> simp at h)

theorem State.pick_branch_state (s : State) (b : BranchId) (c : Claim) : ((s.pick b c).branch b).state = .guard := by
  rw [State.pick_branch_self]
  rfl

/-- The arbiter of a branch leaves it without a claimant. -/
theorem State.arbitrate_unclaimed (s : State) (b : BranchId) : (s.arbitrate b).unclaimed b := by
  unfold State.arbitrate
  split
  · split
    · rename_i hnone
      obtain ⟨hf, hq, hp⟩ := chooseClaim_eq_none hnone
      exact fun _ _ => ⟨hf, hq, State.firstClaim_eq_none hp⟩
    · intro _ hidle
      rw [State.pick_branch_state] at hidle
      cases hidle
  · rename_i hnot
    intro hl hidle
    simp [hl, hidle] at hnot

theorem State.arbitrate_branch_other (s : State) (b c : BranchId) (h : c ≠ b) : (s.arbitrate b).branch c = s.branch c := by
  unfold State.arbitrate
  split
  · split
    · rfl
    · exact s.pick_branch_other b c _ h
  · rfl

theorem State.arbitrate_claims (s : State) (b c : BranchId) (h : s.overdueClaims c = []) : (s.arbitrate b).overdueClaims c = [] := by
  have hactive : (s.arbitrate b).active = s.active := by rw [State.arbitrate_frame]
  have hslots : (s.arbitrate b).scan.slots = s.scan.slots
      ∨ ∃ a, (s.arbitrate b).scan.slots = s.scan.slots.map fun x => if x.addr = a then { x with pollBound := true } else x := by
    unfold State.arbitrate State.pick State.claimTaken
    (repeat' split) <;> first | exact .inl rfl | exact .inr ⟨_, rfl⟩
  obtain hslots | ⟨a, hslots⟩ := hslots
  · rw [State.overdueClaims_congr hactive hslots]
    exact h
  · refine State.overdueClaims_map hactive hslots (fun x hx => ?_) h
    split at hx
    · simp [State.claimsBranch] at hx
    · exact hx

/-- The arbiter of one branch gives no other branch a claimant. -/
theorem State.arbitrate_keeps_unclaimed {s : State} {b c : BranchId} (h : s.unclaimed c) : (s.arbitrate b).unclaimed c := by
  by_cases hcb : c = b
  · subst hcb
    exact s.arbitrate_unclaimed c
  · refine State.unclaimed_of h (fun hl => ?_) (fun hidle => ?_) (s.arbitrate_claims b c)
    · rw [State.arbitrate_frame] at hl
      exact hl
    · rw [s.arbitrate_branch_other b c hcb] at hidle ⊢
      exact ⟨hidle, rfl, rfl⟩

/-- After the arbiters of branches 0 to 3 no IDLE branch has a claimant. -/
theorem State.settle_noIdleClaim (s : State) : NoIdleClaim s.settle := by
  refine (noIdleClaim_iff _).2 fun b => ?_
  unfold State.settle
  cases b with
  | b0 =>
    exact State.arbitrate_keeps_unclaimed (State.arbitrate_keeps_unclaimed (State.arbitrate_keeps_unclaimed
      (State.arbitrate_unclaimed _ _)))
  | b1 => exact State.arbitrate_keeps_unclaimed (State.arbitrate_keeps_unclaimed (State.arbitrate_unclaimed _ _))
  | b2 => exact State.arbitrate_keeps_unclaimed (State.arbitrate_unclaimed _ _)
  | b3 => exact State.arbitrate_unclaimed _ _

/-! ### Calm moves -/

theorem BranchStep.idle {l : Bool} {x y : Branch} (h : BranchStep l x y) (hy : y.state = .idle) :
    x.state = .idle ∧ y.failsafe = x.failsafe ∧ y.queue = x.queue := by
  cases h with
  | guardAgain | receives | awaitsAgain | retries | sends | awaits => cases hy
  | _ => exact ⟨hy, rfl, rfl⟩

theorem State.unclaimed_congr {s t : State} {b : BranchId} (h : s.unclaimed b) (hl : t.live = true → s.live = true)
    (hb : t.branches = s.branches) (ha : t.active = s.active) (hs : t.scan = s.scan) : t.unclaimed b := by
  refine State.unclaimed_of h hl (fun hidle => ?_) fun hc => ?_
  · rw [State.branch_congr hb] at hidle ⊢
    exact ⟨hidle, rfl, rfl⟩
  · rw [State.overdueClaims_congr ha (by rw [hs])]
    exact hc

theorem Calm.keeps_unclaimed {s t : State} (h : Calm s t) {b : BranchId} (hs : s.unclaimed b) : t.unclaimed b := by
  have hframe {t : State} (hl : t.seq = s.seq) (hb : t.branches = s.branches) (ha : t.active = s.active) (hc : t.scan = s.scan) :
      t.unclaimed b :=
    State.unclaimed_congr hs (fun h => (State.live_of_frame hl).symm.trans h) hb ha hc
  cases h with
  | completes k f =>
    exact hframe (by rw [State.complete_frame]) (by rw [State.complete_frame]) (by rw [State.complete_frame])
      (by rw [State.complete_frame])
  | refuses f r => refine hframe ?_ ?_ ?_ ?_ <;> (unfold State.refuse; split <;> rfl)
  | takesToken r hr =>
    exact hframe (by rw [State.takeToken_frame]) (by rw [State.takeToken_frame]) (by rw [State.takeToken_frame])
      (by rw [State.takeToken_frame])
  | collects n =>
    refine State.unclaimed_of hs id (fun hidle => ⟨hidle, rfl, rfl⟩) fun hc => ?_
    refine State.overdueClaims_map (s := s) (t := { s with scan := s.scan.collect n }) rfl rfl (fun x hx => ?_) hc
    split at hx <;> exact hx
  | branch c y h =>
    refine State.unclaimed_of hs id (fun hidle => ?_) fun hc => hc
    by_cases hbc : b = c
    · subst hbc
      rw [State.branch_setBranch_self] at hidle ⊢
      exact h.idle hidle
    · rw [State.branch_setBranch_other _ _ _ _ hbc] at hidle ⊢
      exact ⟨hidle, rfl, rfl⟩
  | restartPends hl => exact State.unclaimed_congr hs (fun _ => hl) rfl rfl rfl
  | falls p h =>
    intro hl
    cases hl
  | coldBegins p cause =>
    intro hl
    cases hl
  | periodPasses =>
    have htick : s.tick.active = s.active ∧ s.tick.scan = s.scan ∧ s.tick.live = s.live := by
      unfold State.tick
      dsimp only
      split <;> exact ⟨rfl, rfl, rfl⟩
    refine State.unclaimed_of hs (fun hl => htick.2.2.symm.trans hl) (fun hidle => ?_) fun hc => ?_
    · unfold State.tick at hidle ⊢
      dsimp only at hidle ⊢
      split at hidle
      · rw [if_pos ‹_›]
        cases b <;> exact ⟨hidle, rfl, rfl⟩
      · rw [if_neg ‹_›]
        exact ⟨hidle, rfl, rfl⟩
    · rw [State.overdueClaims_congr htick.1 (by rw [htick.2.1])]
      exact hc
  | _ => exact hframe rfl rfl rfl rfl

theorem reflTransGen_keeps_noIdleClaim {s t : State} (h : ReflTransGen Calm s t) (hs : NoIdleClaim s) : NoIdleClaim t := by
  induction h with
  | refl => exact hs
  | tail _ hc ih => exact (noIdleClaim_iff _).2 fun b => hc.keeps_unclaimed ((noIdleClaim_iff _).1 ih b)

/-- Settles O52: an event of calm moves gives no claimant, and every other ends with the arbiters. -/
theorem stepsKeepIdleUnclaimed : Obligations.StepsKeepIdleUnclaimed := by
  intro s t hs h
  obtain ⟨u, v, hu, hv, hcourse⟩ := step_course h
  have hsu : NoIdleClaim u := by cases hu <;> exact hs
  have hsv : NoIdleClaim v := by
    cases hv with
    | atOnce => exact hsu
    | sent i rest => rw [State.sent_frame]; exact hsu
  cases hcourse with
  | calm h => exact reflTransGen_keeps_noIdleClaim h hsv
  | settles w _ h => exact reflTransGen_keeps_noIdleClaim h w.settle_noIdleClaim

end Sys2Proof.Machine
end

section
/-! PROOFS. Failsafe items are listed or bound in FAILSAFE_SENDING alone (R111, R119). -/

namespace Sys2Proof.Machine

open Relation

/-! ### The claim that is picked -/

/-- A claim is the head of its list, and a lower one is picked with no failsafe item listed (R69). -/
def Claim.heads (x : Branch) (poll : Option ScanSlot) : Claim → Prop
  | .failsafe f rest => x.failsafe = f :: rest
  | .queued q rest => x.failsafe = [] ∧ x.queue = q :: rest
  | .poll p => x.failsafe = [] ∧ poll = some p

theorem Branch.queueClaim_eq_some {x : Branch} {c : Claim} (h : x.queueClaim = some c) :
    ∃ q rest, x.queue = q :: rest ∧ c = .queued q rest := by
  unfold Branch.queueClaim at h
  split at h
  · cases h
  · exact ⟨_, _, ‹_›, (Option.some.inj h).symm⟩

theorem chooseClaim_heads {x : Branch} {burst : Nat} {poll : Option ScanSlot} {c : Claim} (h : chooseClaim x burst poll = some c) :
    c.heads x poll := by
  unfold chooseClaim at h
  split at h
  · cases h
    assumption
  · rename_i p hf
    have hpoll : some (Claim.poll p) = some c → c.heads x (some p) := by
      intro h
      cases h
      exact ⟨hf, rfl⟩
    split at h
    · exact hpoll h
    · cases hq : x.queueClaim with
      | none => rw [hq] at h; exact hpoll h
      | some d =>
        rw [hq] at h
        obtain ⟨q, rest, hqueue, rfl⟩ := Branch.queueClaim_eq_some hq
        cases h
        exact ⟨hf, hqueue⟩
  · rename_i hf
    obtain ⟨q, rest, hqueue, rfl⟩ := Branch.queueClaim_eq_some h
    exact ⟨hf, hqueue⟩

/-! ### The branches after a commit -/

/-- A walk over the branches changes each by itself. -/
theorem State.eachBranch_branch {f : State → BranchId → State × List Job} {P : State → Prop} {g : BranchId → Branch → Branch}
    (hP : ∀ t b, P t → P (f t b).1) (hself : ∀ t b, P t → (f t b).1.branch b = g b (t.branch b))
    (hother : ∀ t b c, c ≠ b → (f t b).1.branch c = t.branch c) {s : State} (hs : P s) (b : BranchId) :
    (s.eachBranch f).1.branch b = g b (s.branch b) := by
  have h0 := hP s .b0 hs
  have h1 := hP _ .b1 h0
  have h2 := hP _ .b2 h1
  unfold State.eachBranch
  dsimp only
  cases b with
  | b0 => rw [hother _ _ _ (by decide), hother _ _ _ (by decide), hother _ _ _ (by decide), hself _ _ hs]
  | b1 => rw [hother _ _ _ (by decide), hother _ _ _ (by decide), hself _ _ h0, hother _ _ _ (by decide)]
  | b2 => rw [hother _ _ _ (by decide), hself _ _ h1, hother _ _ _ (by decide), hother _ _ _ (by decide)]
  | b3 => rw [hself _ _ h2, hother _ _ _ (by decide), hother _ _ _ (by decide), hother _ _ _ (by decide)]

/-- The branch after a commit makes it ENABLED (R38). -/
def Branch.enabledBy (x : Branch) : Branch :=
  if x.state = .disabled then { x with state := .idle, interrupts := 0, consec := 0, rx := .outside } else x

/-- The branch after a commit, by its ENABLED before and after it (R37, R38, R89). -/
def Branch.committed (x : Branch) (was is : Bool) : Branch :=
  match was, is with
  | true, false => x.disabledBy
  | false, true => x.enabledBy
  | _, _ => x

theorem State.enableBranch_eq (t : State) (b : BranchId) : t.enableBranch b = t.setBranch b (t.branch b).enabledBy := by
  unfold State.enableBranch Branch.enabledBy
  dsimp only
  split
  · rw [if_pos ‹_›]
  · rw [if_neg ‹_›, State.setBranch_branch]

theorem State.disableBranch_branch (t : State) (b c : BranchId) :
    (t.disableBranch b).1.branch c = if c = b then (t.branch b).disabledBy else t.branch c := by
  unfold State.disableBranch
  dsimp only
  by_cases hcb : c = b
  · rw [if_pos hcb, hcb, State.branch_setBranch_self]
  · rw [if_neg hcb, State.branch_setBranch_other _ _ _ _ hcb, State.itemsSkipped_frame, State.sharesAborted_frame]
    rfl

/-- A commit at one branch changes that branch alone, as its ENABLED changes. -/
theorem State.commitBranch_branch (t : State) (old : ConfigSet) (b c : BranchId) : (t.commitBranch old b).1.branch c =
    if c = b then (t.branch b).committed (old.settings.branch.get b).enabled (t.branchSettings b).enabled else t.branch c := by
  have hstay : t.branch c = if c = b then t.branch b else t.branch c := by
    split
    · rw [‹c = b›]
    · rfl
  unfold State.commitBranch
  cases (old.settings.branch.get b).enabled <;> cases (t.branchSettings b).enabled
  · exact hstay
  · dsimp only
    rw [State.enableBranch_eq]
    split
    · rw [‹c = b›, State.branch_setBranch_self]
      rfl
    · rw [State.branch_setBranch_other _ _ _ _ ‹_›]
  · exact t.disableBranch_branch b c
  · exact hstay

/-- A branch after a commit (R37, R38, R40, R89). -/
theorem State.replaceActive_branch (s : State) (b : BranchId) : s.replaceActive.1.branch b =
    ((s.branch b).committed (s.branchSettings b).enabled (s.shadow.settings.branch.get b).enabled).orphaned
      fun a => (s.shadow.scan? a).isSome := by
  have heach := State.eachBranch_branch (f := fun t b => t.commitBranch s.active b) (P := fun t => t.active = s.shadow)
    (g := fun b x => x.committed (s.branchSettings b).enabled (s.shadow.settings.branch.get b).enabled)
    (fun t b ht => by rw [State.commitBranch_frame]; exact ht)
    (fun t b ht => by rw [State.commitBranch_branch, if_pos rfl, State.branchSettings, ht]; rfl)
    (fun t b c h => by rw [State.commitBranch_branch, if_neg h]) (s := { s with active := s.shadow }) rfl b
  have hactive : ({ s with active := s.shadow }.eachBranch fun t b => t.commitBranch s.active b).1.active = s.shadow := by
    rw [State.commitBranches_frame _ _ _ rfl]
  unfold State.replaceActive
  dsimp only
  rw [State.branch_congr (State.heldIfDone_branches _) b, State.commitSilence_frame]
  show (Quad.map _ _).get b = _
  rw [Quad.get_map]
  exact congrArg₂ (fun (x : Branch) (c : ConfigSet) => x.orphaned fun a => (c.scan? a).isSome) heach hactive

/-! ### Failsafe items -/

theorem State.failsafeLeft_le {s t : State} (h : ∀ b, (t.branch b).failsafeCount ≤ (s.branch b).failsafeCount) :
    t.failsafeLeft ≤ s.failsafeLeft := by
  have h0 : t.branches.b0.failsafeCount ≤ s.branches.b0.failsafeCount := h .b0
  have h1 : t.branches.b1.failsafeCount ≤ s.branches.b1.failsafeCount := h .b1
  have h2 : t.branches.b2.failsafeCount ≤ s.branches.b2.failsafeCount := h .b2
  have h3 : t.branches.b3.failsafeCount ≤ s.branches.b3.failsafeCount := h .b3
  unfold State.failsafeLeft
  omega

theorem State.failsafeLeft_congr {s t : State} (h : ∀ b, (t.branch b).failsafeCount = (s.branch b).failsafeCount) :
    t.failsafeLeft = s.failsafeLeft :=
  Nat.le_antisymm (State.failsafeLeft_le fun b => (h b).le) (State.failsafeLeft_le fun b => (h b).ge)

theorem State.failsafeLeft_setBranch_le {s : State} {b : BranchId} {y : Branch}
    (h : y.failsafeCount ≤ (s.branch b).failsafeCount) : (s.setBranch b y).failsafeLeft ≤ s.failsafeLeft := by
  refine State.failsafeLeft_le fun c => ?_
  by_cases hcb : c = b
  · rw [hcb, State.branch_setBranch_self]
    exact h
  · rw [State.branch_setBranch_other _ _ _ _ hcb]

theorem State.failsafeLeft_setBranch {s : State} {b : BranchId} {y : Branch}
    (h : y.failsafeCount = (s.branch b).failsafeCount) : (s.setBranch b y).failsafeLeft = s.failsafeLeft := by
  refine State.failsafeLeft_congr fun c => ?_
  by_cases hcb : c = b
  · rw [hcb, State.branch_setBranch_self]
    exact h
  · rw [State.branch_setBranch_other _ _ _ _ hcb]

theorem State.failsafeLeft_branches {s t : State} (h : t.branches = s.branches) : t.failsafeLeft = s.failsafeLeft := by
  unfold State.failsafeLeft
  rw [h]

/-- Items and state as they were. -/
theorem SendingHasItems.congr {s t : State} (hs : SendingHasItems s) (hstate : t.sup.state = s.sup.state)
    (hleft : t.failsafeLeft = s.failsafeLeft) : SendingHasItems t := by
  unfold SendingHasItems
  rw [hstate, hleft]
  exact hs

/-- With fewer items left, failsafe sending ends where none is (R119). -/
theorem SendingHasItems.heldIfDone {s u : State} (hs : SendingHasItems s) (hstate : u.sup.state = s.sup.state)
    (hleft : u.failsafeLeft ≤ s.failsafeLeft) : SendingHasItems u.heldIfDone := by
  unfold SendingHasItems at hs ⊢
  unfold State.heldIfDone
  rw [hstate]
  split
  · rename_i h
    exact ⟨nofun, fun hpos => absurd h.2 (Nat.pos_iff_ne_zero.1 hpos)⟩
  · rename_i h
    rw [hstate]
    constructor
    · exact fun hsending => Nat.pos_of_ne_zero fun hzero => h ⟨hsending, hzero⟩
    · exact fun hpos => hs.2 (hpos.trans_le hleft)

theorem BranchStep.failsafeCount {l : Bool} {x y : Branch} (h : BranchStep l x y) : y.failsafeCount = x.failsafeCount := by
  cases h with
  | sends item f now hl h hb => cases item <;> simp [Branch.failsafeCount, Branch.startSending, BoundItem.attempted, hb]
  | _ => rfl

theorem Branch.released_failsafeCount (x : Branch) (en : Bool) : (x.released en).failsafeCount = x.failsafe.length := rfl

theorem Branch.failsafe_length_le (x : Branch) : x.failsafe.length ≤ x.failsafeCount := Nat.le_add_right ..

theorem Branch.orphaned_failsafeCount (x : Branch) (f : Octet → Bool) : (x.orphaned f).failsafeCount = x.failsafeCount := by
  unfold Branch.orphaned
  split
  · split
    · rfl
    · simp [Branch.failsafeCount, *]
  · rfl

theorem Branch.committed_failsafeCount (x : Branch) (was is : Bool) : (x.committed was is).failsafeCount ≤ x.failsafeCount := by
  have hdisabled : x.disabledBy.failsafeCount ≤ x.failsafeCount := by
    unfold Branch.disabledBy
    dsimp only
    split
    · simp [Branch.failsafeCount, *]
    · exact Nat.zero_le _
    · simp [Branch.failsafeCount]
  have henabled : x.enabledBy.failsafeCount = x.failsafeCount := by
    unfold Branch.enabledBy
    split <;> rfl
  unfold Branch.committed
  split
  · exact hdisabled
  · exact henabled.le
  · exact Nat.le_refl _

/-- A pick binds the head of the failsafe list, or another claim with nothing bound before it. -/
theorem Branch.afterPick_failsafeCount {x : Branch} {poll : Option ScanSlot} {c : Claim} (hb : x.bound = none)
    (hc : c.heads x poll) (cfg : BranchSettings) (own : Octet) (n : Nat) :
    (x.afterPick cfg own n c).failsafeCount = x.failsafeCount := by
  cases c with
  | failsafe f rest => simp [Branch.afterPick, Branch.picked, Branch.beginGuard, Branch.failsafeCount, hb, show x.failsafe = _ from hc]
  | queued q rest => cases q <;> simp [Branch.afterPick, Branch.picked, Branch.beginGuard, Branch.failsafeCount, hb]
  | poll p => simp [Branch.afterPick, Branch.picked, Branch.beginGuard, Branch.failsafeCount, hb]

theorem State.arbitrate_failsafeLeft {s : State} (hs : LinesFollowStates s) (b : BranchId) :
    (s.arbitrate b).failsafeLeft = s.failsafeLeft := by
  unfold State.arbitrate
  split
  · rename_i h
    simp only [Bool.and_eq_true, beq_iff_eq] at h
    split
    · rfl
    · rename_i c hc
      refine State.failsafeLeft_congr fun d => ?_
      by_cases hdb : d = b
      · have hbound : (s.branch b).bound = none := by
          have := (hs b).1
          simpa [h.2] using this
        rw [hdb, State.pick_branch_self]
        exact Branch.afterPick_failsafeCount hbound (chooseClaim_heads hc) _ _ _
      · rw [s.pick_branch_other b d c hdb]
  · rfl

/-! ### The supervision state in every move -/

theorem State.itemsSkipped_supState (fs : List FailsafeItem) (s : State) : (s.itemsSkipped fs).sup.state = s.sup.state :=
  foldl_frame (f := fun t f => t.itemOutcome f .skipped) (v := fun t => t.sup.state) (fun _ _ => rfl) fs s

theorem State.commitBranch_supState (t : State) (old : ConfigSet) (b : BranchId) :
    (t.commitBranch old b).1.sup.state = t.sup.state := by
  unfold State.commitBranch
  split
  · unfold State.disableBranch
    dsimp only
    rw [State.setBranch_sup, State.itemsSkipped_supState, State.sharesAborted_frame]
  · dsimp only
    rw [State.enableBranch_eq]
    rfl
  · rfl

theorem State.commitSilence_supState (s : State) (old : ConfigSet) : (s.commitSilence old).sup.state = s.sup.state := by
  unfold State.commitSilence
  (repeat' split) <;> rfl

theorem State.replaceActive_sendingHasItems {s : State} (hs : SendingHasItems s) : SendingHasItems s.replaceActive.1 := by
  have hbranch := s.replaceActive_branch
  unfold State.replaceActive at hbranch ⊢
  dsimp only at hbranch ⊢
  refine hs.heldIfDone ?_ ?_
  · rw [State.commitSilence_supState]
    exact State.eachBranch_frame (v := fun t => t.sup.state) (fun t b => t.commitBranch_supState s.active b)
      { s with active := s.shadow }
  · refine State.failsafeLeft_le fun b => ?_
    have hb := hbranch b
    rw [State.branch_congr (State.heldIfDone_branches _) b] at hb
    rw [hb, Branch.orphaned_failsafeCount]
    exact Branch.committed_failsafeCount _ _ _

theorem Calm.sendingHasItems {s t : State} (h : Calm s t) (hs : SendingHasItems s) : SendingHasItems t := by
  cases h with
  | completes k f => exact hs.congr (by rw [State.complete_frame]) (by rw [State.complete_frame]; rfl)
  | refuses f r =>
    refine hs.congr ?_ (State.failsafeLeft_branches ?_) <;> (unfold State.refuse; split <;> rfl)
  | takesToken r hr => exact hs.congr (by rw [State.takeToken_frame]) (by rw [State.takeToken_frame]; rfl)
  | resumes h =>
    have hzero : s.failsafeLeft = 0 := Nat.eq_zero_of_not_pos fun hpos => by simp [hs.2 hpos] at h
    exact ⟨nofun, fun hpos => absurd hzero (Nat.pos_iff_ne_zero.1 hpos)⟩
  | branch b y h => exact hs.congr rfl (State.failsafeLeft_setBranch h.failsafeCount)
  | falls p h =>
    refine hs.congr ?_ (State.failsafeLeft_congr fun b => ?_)
    · unfold State.resetBegun State.cutStore
      split <;> rfl
    · rw [State.resetBegun, State.quieted_branch, State.cutStore_branch]
      rfl
  | coldBegins p cause =>
    refine hs.congr rfl (State.failsafeLeft_congr fun b => ?_)
    show (s.quieted.branch b).failsafeCount = _
    rw [State.quieted_branch]
    rfl
  | periodPasses =>
    unfold State.tick
    dsimp only
    split
    · exact hs.congr rfl rfl
    · exact hs.congr rfl rfl
  | _ => exact hs

theorem State.entered_sendingHasItems (s : State) : SendingHasItems { s with sup := { s.sup with state := s.entryState } } := by
  unfold SendingHasItems State.entryState
  show (if s.failsafeLeft = 0 then SupState.failsafeHeld else .failsafeSending) = .failsafeSending ↔ 0 < s.failsafeLeft
  split
  · exact ⟨nofun, fun h => absurd ‹_› (Nat.pos_iff_ne_zero.1 h)⟩
  · exact ⟨fun _ => Nat.pos_of_ne_zero ‹_›, fun _ => rfl⟩

theorem Stir.sendingHasItems {s t : State} (h : Stir s t) (hl : LinesFollowStates s) (hs : SendingHasItems s) :
    SendingHasItems t := by
  have hstarted {t : State} (hstate : t.sup.state ≠ .failsafeSending) (hleft : t.failsafeLeft = 0) : SendingHasItems t :=
    ⟨fun h => absurd h hstate, fun h => absurd hleft (Nat.pos_iff_ne_zero.1 h)⟩
  cases h with
  | picks b => exact hs.congr (by rw [State.arbitrate_frame]) (State.arbitrate_failsafeLeft hl b)
  | enqueues b q h hf => exact hs.congr rfl (State.failsafeLeft_setBranch rfl)
  | releasesPoll p => exact hs.congr (by rw [State.pollReleased_frame]) (by rw [State.pollReleased_frame]; rfl)
  | recovers b h => exact hs.congr rfl (State.failsafeLeft_setBranch rfl)
  | shareEnds b k hlive h hb =>
    exact hs.congr rfl (State.failsafeLeft_setBranch (by simp [Branch.failsafeCount, Branch.released, Branch.stopSending, hb]))
  | leaves b h => exact hs.heldIfDone rfl (State.failsafeLeft_setBranch_le
      ((Branch.released_failsafeCount _ _).le.trans (Branch.failsafe_length_le _)))
  | faults b h hi => exact hs.heldIfDone rfl (State.failsafeLeft_setBranch_le (Nat.zero_le _))
  | commits hlive h => exact State.replaceActive_sendingHasItems hs
  | entersFailsafe cause hlive h =>
    rw [State.failsafeEntry_fst]
    exact State.entered_sendingHasItems _
  | coldStarts => exact hstarted (by show (coldSupervision _).state ≠ _; cases s.active.settings.startMode <;> nofun) rfl
  | warmStarts hlive => exact hstarted (by show s.warmSupervision.state ≠ _; unfold State.warmSupervision; split <;> simp_all) rfl
  | _ => exact hs

theorem Calm.keeps_lines {s t : State} (h : Calm s t) (hs : LinesFollowStates s) : LinesFollowStates t :=
  (linesFollowStates_iff t).2 (h.branchesMove.keeps (fun _ _ hmove => hmove.keeps_line) ((linesFollowStates_iff s).1 hs))

theorem Stir.keeps_lines {s t : State} (h : Stir s t) (hs : LinesFollowStates s) : LinesFollowStates t :=
  (linesFollowStates_iff t).2 (h.branchesMove.keeps (fun _ _ hmove => hmove.keeps_line) ((linesFollowStates_iff s).1 hs))

/-- Settles O54: a move that takes the last item away ends failsafe sending, and only failsafe entry lists items. -/
theorem stepsKeepFailsafeItems : Obligations.StepsKeepFailsafeItems := by
  intro s t hl hs h
  have hkept : LinesFollowStates t ∧ SendingHasItems t :=
    step_keeps (p := fun u => LinesFollowStates u ∧ SendingHasItems u) (fun _ _ ha hp => by cases ha <;> exact hp)
      (fun u i _ _ _ _ hp => by rw [State.sent_frame]; exact hp)
      (fun _ _ hc hp => ⟨hc.keeps_lines hp.1, hc.sendingHasItems hp.2⟩)
      (fun _ _ hc hp => ⟨hc.keeps_lines hp.1, hc.sendingHasItems hp.1 hp.2⟩) ⟨hl, hs⟩ h
  exact hkept.2

end Sys2Proof.Machine
end

section
/-! PROOFS. The requests that the table holds: slots, tags and kinds of the occupied entries (R1, R3), and the work that is held back
outside NORMAL (R115, R117). -/

namespace Sys2Proof.Machine

open Relation

/-! ### Requests -/

/-- What an occupied entry keeps until it is freed. -/
structure Request where
  slot : Nat
  tag : Octet
  kind : ReqKind

def Entry.request (e : Entry) : Request := { slot := e.slot, tag := e.tag, kind := e.kind }

/-- The requests of the occupied entries. -/
def Table.requests (t : Table) : List Request := t.entries.map Entry.request

theorem Entry.SameRequest.request {e e' : Entry} (h : e.SameRequest e') : e'.request = e.request := by
  obtain ⟨hslot, htag, hkind⟩ := h
  simp [Entry.request, hslot, htag, hkind]

theorem Table.update_requests (t : Table) (k : Nat) {f : Entry → Entry} (hf : ∀ e : Entry, e.SameRequest (f e)) :
    (t.update k f).requests = t.requests := by
  unfold Table.requests Table.update
  rw [List.map_map]
  refine List.map_congr_left fun e _ => ?_
  dsimp only [Function.comp]
  split
  · exact (hf e).request
  · rfl

@[simp] theorem State.complete_requests (s : State) (k : Nat) (f : Form) : (s.complete k f).table.requests = s.table.requests := by
  have hcompleted (t : Table) (seq : Word16) (answer : Frame) (st : EntryState) :
      (t.update k fun e => e.completed seq answer st).requests = t.requests := t.update_requests k fun _ => ⟨rfl, rfl, rfl⟩
  unfold State.complete
  split
  · rfl
  · split
    · dsimp only
      split
      · exact hcompleted _ _ _ _
      · exact hcompleted _ _ _ _
    · rfl

theorem State.updateEntry_requests (s : State) (k : Nat) {f : Entry → Entry} (hf : ∀ e : Entry, e.SameRequest (f e)) :
    (s.updateEntry k f).table.requests = s.table.requests := s.table.update_requests k hf

theorem State.sharesAborted_requests (s : State) (b : BranchId) (ks : List Nat) :
    (s.sharesAborted b ks).table.requests = s.table.requests :=
  foldl_frame (f := fun t k => t.shareAborted b k) (v := fun t => t.table.requests)
    (fun t k => t.updateEntry_requests k (Entry.moveNotSent_sameRequest b)) ks s

theorem State.commitBranch_requests (t : State) (old : ConfigSet) (b : BranchId) :
    (t.commitBranch old b).1.table.requests = t.table.requests := by
  unfold State.commitBranch
  split
  · unfold State.disableBranch
    dsimp only
    rw [State.setBranch_table, State.itemsSkipped_frame]
    exact t.sharesAborted_requests b _
  · dsimp only
    rw [State.enableBranch_eq]
    rfl
  · rfl

theorem State.replaceActive_requests (s : State) : s.replaceActive.1.table.requests = s.table.requests := by
  unfold State.replaceActive
  dsimp only
  rw [State.heldIfDone_frame, State.commitSilence_frame]
  exact State.eachBranch_frame (v := fun t => t.table.requests) (fun t b => t.commitBranch_requests s.active b)
    { s with active := s.shadow }

theorem State.failsafeClaim_requests (t : State) (b : BranchId) : (t.failsafeClaim b).1.table.requests = t.table.requests :=
  t.sharesAborted_requests b _

theorem State.entryListed_requests (s : State) (cause : EntryCause) :
    (s.entryListed cause).table.requests = s.table.requests := by
  unfold State.entryListed
  rw [foldl_frame (v := fun t => t.table.requests) fun t r => by rw [State.listAction_frame]]
  exact State.eachBranch_frame (v := fun t => t.table.requests) State.failsafeClaim_requests (s.entryBegun cause)

theorem State.claimTaken_requests (s : State) (c : Claim) : (s.claimTaken c).table.requests = s.table.requests := by
  unfold State.claimTaken
  split
  · exact s.updateEntry_requests _ fun _ => ⟨rfl, rfl, rfl⟩
  · rfl
  · rfl

theorem State.arbitrate_requests (s : State) (b : BranchId) : (s.arbitrate b).table.requests = s.table.requests := by
  unfold State.arbitrate
  split
  · split
    · rfl
    · exact s.claimTaken_requests _
  · rfl

/-- What a move does to the requests. -/
inductive RequestsMove (s : State) : List Request → Prop
  | same : RequestsMove s s.table.requests
  | allocates (e : Entry) (hs : s.table.slotFree e.slot = true) (hl : e.slot < 24) (ht : s.table.tagHeld e.tag = false)
      (hk : s.sup.state ≠ .normal → e.kind ≠ .write ∧ e.kind ≠ .command) : RequestsMove s (s.table.allocate e).requests
  | starts : RequestsMove s []

theorem Calm.requests {s t : State} (h : Calm s t) : RequestsMove s t.table.requests := by
  have hframe {t : State} (h : t.table = s.table) : RequestsMove s t.table.requests := h ▸ .same
  cases h with
  | completes k f => rw [State.complete_requests]; exact .same
  | editsEntry k f h => rw [s.updateEntry_requests k h]; exact .same
  | allocates e hs hl ht hk => exact .allocates e hs hl ht hk
  | refuses f r => exact hframe (by unfold State.refuse; split <;> rfl)
  | takesToken r hr => exact hframe (by rw [State.takeToken_frame])
  | falls p h => exact hframe (by unfold State.resetBegun State.cutStore; split <;> rfl)
  | periodPasses => exact hframe (by unfold State.tick; dsimp only; split <;> rfl)
  | _ => exact .same

theorem Stir.requests {s t : State} (h : Stir s t) : RequestsMove s t.table.requests := by
  cases h with
  | picks b => rw [State.arbitrate_requests]; exact .same
  | releasesPoll p => rw [State.pollReleased_frame]; exact .same
  | leaves b h => rw [State.heldIfDone_frame]; exact .same
  | faults b h hi => rw [State.heldIfDone_frame]; exact .same
  | commits hl h => rw [State.replaceActive_requests]; exact .same
  | entersFailsafe cause hl h =>
    rw [State.failsafeEntry_fst]
    show RequestsMove s (s.entryListed cause).table.requests
    rw [State.entryListed_requests]
    exact .same
  | coldStarts | warmStarts => exact .starts
  | _ => exact .same

/-! ### Slots and tags (R1, R3) -/

/-- The condition `TagsDistinct` of the requests. -/
def RequestsDistinct (rs : List Request) : Prop :=
  (rs.map Request.slot).Pairwise (· < ·) ∧ (∀ r ∈ rs, r.slot < 24) ∧ (rs.map Request.tag).Nodup

theorem tagsDistinct_iff (s : State) : TagsDistinct s ↔ RequestsDistinct s.table.requests := by
  unfold TagsDistinct RequestsDistinct Table.requests
  simp only [List.map_map, List.forall_mem_map]
  rfl

theorem insertEntry_perm (e : Entry) (l : List Entry) : (insertEntry e l).Perm (e :: l) := by
  induction l with
  | nil => exact .refl _
  | cons x xs ih =>
    unfold insertEntry
    split
    · exact .refl _
    · exact (ih.cons x).trans (.swap ..)

/-- An entry is put in its place in slot order. -/
theorem insertEntry_sorted {e : Entry} {l : List Entry} (hfree : ∀ x ∈ l, x.slot ≠ e.slot)
    (h : (l.map fun x => x.slot).Pairwise (· < ·)) : ((insertEntry e l).map fun x => x.slot).Pairwise (· < ·) := by
  induction l with
  | nil => simp [insertEntry]
  | cons x xs ih =>
    obtain ⟨hx, hxs⟩ := List.pairwise_cons.1 h
    unfold insertEntry
    split
    · rename_i hlt
      refine List.pairwise_cons.2 ⟨fun k hk => ?_, h⟩
      obtain rfl | hk := List.mem_cons.1 hk
      · exact hlt
      · exact hlt.trans (hx k hk)
    · rename_i hge
      refine List.pairwise_cons.2 ⟨fun k hk => ?_, ih (fun y hy => hfree y (List.mem_cons_of_mem _ hy)) hxs⟩
      obtain hk | hk := List.mem_cons.1 (((insertEntry_perm e xs).map fun x => x.slot).mem_iff.1 hk)
      · exact hk ▸ Nat.lt_of_le_of_ne (Nat.le_of_not_lt hge) (hfree x (List.mem_cons_self ..))
      · exact hx k hk

theorem Table.allocate_distinct {t : Table} {e : Entry} (hs : t.slotFree e.slot = true) (hl : e.slot < 24)
    (ht : t.tagHeld e.tag = false) (h : RequestsDistinct t.requests) : RequestsDistinct (t.allocate e).requests := by
  obtain ⟨hsorted, hrange, htags⟩ := h
  have hperm : (t.allocate e).requests.Perm (e.request :: t.requests) := (insertEntry_perm e t.entries).map Entry.request
  refine ⟨?_, fun r hr => ?_, ?_⟩
  · have hslots (es : List Entry) : (es.map Entry.request).map Request.slot = es.map fun e => e.slot := by
      rw [List.map_map]
      rfl
    unfold Table.requests at hsorted ⊢
    rw [hslots] at hsorted ⊢
    exact insertEntry_sorted (Table.slotFree_iff.1 hs) hsorted
  · obtain rfl | hr := List.mem_cons.1 (hperm.mem_iff.1 hr)
    · exact hl
    · exact hrange r hr
  · refine (hperm.map Request.tag).nodup_iff.2 (List.nodup_cons.2 ⟨fun hmem => ?_, htags⟩)
    obtain ⟨r, hr, htag⟩ := List.mem_map.1 hmem
    obtain ⟨x, hx, rfl⟩ := List.mem_map.1 hr
    have hheld : t.tagHeld e.tag = true := List.any_eq_true.2 ⟨x, hx, beq_iff_eq.2 htag⟩
    simp [ht] at hheld

theorem RequestsMove.keeps_distinct {s : State} {rs : List Request} (h : RequestsMove s rs)
    (hd : RequestsDistinct s.table.requests) : RequestsDistinct rs := by
  cases h with
  | same => exact hd
  | allocates e hs hl ht hk => exact Table.allocate_distinct hs hl ht hd
  | starts => exact ⟨.nil, nofun, List.nodup_nil⟩

theorem RequestsDistinct.sublist {rs rs' : List Request} (h : RequestsDistinct rs) (hs : rs'.Sublist rs) : RequestsDistinct rs' :=
  ⟨h.1.sublist (hs.map _), fun r hr => h.2.1 r (hs.subset hr), h.2.2.sublist (hs.map _)⟩

theorem State.promote_requests (s : State) : s.promote.table.requests = s.table.requests := by
  unfold State.promote
  (repeat' split) <;> first | rfl | exact Table.update_requests _ _ fun _ => ⟨rfl, rfl, rfl⟩

/-- The end of a transmission frees at most one entry. -/
theorem State.sent_requests (s : State) (i : OutItem) : (s.sent i).table.requests.Sublist s.table.requests := by
  rw [State.sent_table, State.promote_requests]
  have hfree (t : Table) (k : Nat) : (t.free k).requests.Sublist t.requests := List.filter_sublist.map _
  cases hn : i.note with
  | refusal => exact .refl _
  | entry k | entryRate k | entryRestart k r => exact hfree s.table k

theorem step_keeps_tagsDistinct {s t : State} (hs : TagsDistinct s) (h : step s = .next t) : TagsDistinct t :=
  (tagsDistinct_iff t).2 (step_keeps (p := fun u => RequestsDistinct u.table.requests)
    (fun _ _ ha hp => by cases ha <;> exact hp) (fun u i _ _ _ _ hp => hp.sublist (u.sent_requests i))
    (fun _ _ hc => hc.requests.keeps_distinct) (fun _ _ hc => hc.requests.keeps_distinct) ((tagsDistinct_iff s).1 hs) h)

/-! ### Work that failsafe entry takes away (R115) -/

/-- The slot holds a WRITE or COMMAND. -/
def claimedIn (rs : List Request) (k : Nat) : Bool :=
  match rs.find? fun r => r.slot == k with
  | some r => r.kind == .write || r.kind == .command
  | none => false

theorem State.claimedByFailsafe_eq (s : State) (k : Nat) : s.claimedByFailsafe k = claimedIn s.table.requests k := by
  unfold State.claimedByFailsafe claimedIn Table.requests Table.find?
  rw [List.find?_map]
  have hfound : s.table.entries.find? ((fun r : Request => r.slot == k) ∘ Entry.request)
      = s.table.entries.find? fun e => e.slot == k := rfl
  rw [hfound]
  cases s.table.entries.find? fun e => e.slot == k <;> rfl

/-- Failsafe entry takes away a share, and a WRITE or COMMAND (R115). -/
def takesItem (claimed : Nat → Bool) : QueueItem → Bool
  | .station k => claimed k
  | .share _ => true

theorem State.failsafeTakes_eq (s : State) (q : QueueItem) : s.failsafeTakes q = takesItem s.claimedByFailsafe q := by
  cases q <;> rfl

/-- The condition `WritesHeldBack` of one branch. -/
def Branch.heldBack (claimed : Nat → Bool) (x : Branch) : Prop :=
  (∀ q ∈ x.queue, takesItem claimed q = false)
  ∧ (∀ k, x.bound = some (.share k) → x.state ≠ .guard)
  ∧ (∀ k, x.bound = some (.station k) → claimed k = true → x.state ≠ .guard ∧ x.finalMark = true)

theorem writesHeldBack_iff (s : State) :
    WritesHeldBack s ↔ (s.sup.state ≠ .normal → ∀ b, (s.branch b).heldBack (claimedIn s.table.requests)) := by
  unfold WritesHeldBack Branch.heldBack
  simp only [State.failsafeTakes_eq, show s.claimedByFailsafe = claimedIn s.table.requests from funext s.claimedByFailsafe_eq]

theorem Branch.heldBack.mono {claimed claimed' : Nat → Bool} {x : Branch} (h : x.heldBack claimed)
    (hc : ∀ k, claimed' k = true → claimed k = true) : x.heldBack claimed' := by
  obtain ⟨hqueue, hshare, hstation⟩ := h
  refine ⟨fun q hq => ?_, hshare, fun k hk hclaimed => hstation k hk (hc k hclaimed)⟩
  have hfree := hqueue q hq
  cases q with
  | station k => exact Bool.eq_false_iff.2 fun h => by simp [takesItem, hc k h] at hfree
  | share k => exact hfree

/-- A branch with nothing bound, and a queue of which nothing is taken. -/
theorem Branch.heldBack_of_unbound {claimed : Nat → Bool} {x : Branch} (hq : ∀ q ∈ x.queue, takesItem claimed q = false)
    (hb : x.bound = none) : x.heldBack claimed :=
  ⟨hq, fun k hk => by simp [hb] at hk, fun k hk => by simp [hb] at hk⟩

theorem BranchStep.keeps_heldBack {l : Bool} {claimed : Nat → Bool} {x y : Branch} (h : BranchStep l x y)
    (hx : x.heldBack claimed) : y.heldBack claimed := by
  obtain ⟨hqueue, hshare, hstation⟩ := hx
  have hleaves {y : Branch} (hq : y.queue = x.queue) (hs : y.state ≠ .guard)
      (hm : ∀ k, y.bound = some (.station k) → claimed k = true → y.finalMark = true) : y.heldBack claimed :=
    ⟨hq ▸ hqueue, fun _ _ => hs, fun k hk hc => ⟨hs, hm k hk hc⟩⟩
  cases h with
  | receiver | counters | phase | probeQuiet | probeBegun | deadlinePassed | windowCloses | interrupted | ticks =>
    exact ⟨hqueue, hshare, hstation⟩
  | guardAgain c h => exact ⟨hqueue, fun k hk => absurd h (hshare k hk), fun k hk hc => absurd h (hstation k hk hc).1⟩
  | receives h | awaitsAgain h => exact hleaves rfl nofun fun k hk hc => (hstation k hk hc).2
  | retries c h hb hs hm =>
    refine ⟨hqueue, fun k hk => absurd hk (hs k), fun k hk hc => ?_⟩
    have hmark := (hstation k hk hc).2
    simp [hm] at hmark
  | sends item f now hl h hb =>
    refine hleaves rfl nofun fun k hk hc => ?_
    have hitem : item = .station k := by
      cases item <;> simp_all [Branch.startSending, BoundItem.attempted]
    exact absurd h (hstation k (hitem ▸ hb) hc).1
  | awaits n hl h hb => exact hleaves rfl nofun fun k hk hc => (hstation k hk hc).2

theorem Branch.heldBack.afterPick {claimed : Nat → Bool} {x : Branch} {poll : Option ScanSlot} {c : Claim}
    (hx : x.heldBack claimed) (hheads : c.heads x poll) (cfg : BranchSettings) (own : Octet) (n : Nat) :
    (x.afterPick cfg own n c).heldBack claimed := by
  obtain ⟨hqueue, -, -⟩ := hx
  cases c with
  | failsafe f rest => exact ⟨hqueue, nofun, nofun⟩
  | poll p => exact ⟨hqueue, nofun, nofun⟩
  | queued item rest =>
    have hitem : takesItem claimed item = false := hqueue item (by rw [hheads.2]; exact List.mem_cons_self ..)
    have hrest : ∀ q ∈ rest, takesItem claimed q = false := fun q hq =>
      hqueue q (by rw [hheads.2]; exact List.mem_cons_of_mem _ hq)
    cases item with
    | share k => simp [takesItem] at hitem
    | station k =>
      refine ⟨hrest, nofun, fun j hj hclaimed => ?_⟩
      cases hj
      simp [takesItem, hclaimed] at hitem

theorem Branch.heldBack.committed {claimed : Nat → Bool} {x : Branch} (hx : x.heldBack claimed) (was is : Bool) :
    (x.committed was is).heldBack claimed := by
  have hx' := hx
  obtain ⟨hqueue, hshare, hstation⟩ := hx
  unfold Branch.committed
  split
  · unfold Branch.disabledBy
    dsimp only
    split
    · exact Branch.heldBack_of_unbound nofun ‹_›
    · exact Branch.heldBack_of_unbound nofun rfl
    · exact ⟨nofun, hshare, fun k hk hc => ⟨(hstation k hk hc).1, rfl⟩⟩
  · unfold Branch.enabledBy
    split
    · exact ⟨hqueue, nofun, fun k hk hc => ⟨nofun, (hstation k hk hc).2⟩⟩
    · exact hx'
  · exact hx'

theorem Branch.heldBack.orphaned {claimed : Nat → Bool} {x : Branch} (hx : x.heldBack claimed) (f : Octet → Bool) :
    (x.orphaned f).heldBack claimed := by
  unfold Branch.orphaned
  split
  · split
    · exact hx
    · exact ⟨hx.1, nofun, nofun⟩
  · exact hx

/-! ### The branches after failsafe entry -/

/-- The claim of failsafe entry on a bound item, by the slots that hold a WRITE or COMMAND (R115). -/
def Branch.claimOn (claimed : Nat → Bool) (x : Branch) : BoundClaim :=
  match x.bound, x.state with
  | some (.station k), .guard => if claimed k then .takeAway else .leave
  | some (.share _), .guard => .takeAway
  | some (.station k), _ => if claimed k then .mark else .leave
  | _, _ => .leave

/-- A branch with its controller work claimed by failsafe entry (R115). -/
def Branch.withdrawn (claimed : Nat → Bool) (enabled : Bool) (x : Branch) : Branch :=
  ({ x with queue := x.queue.filter fun q => !takesItem claimed q } : Branch).afterClaim enabled (x.claimOn claimed)

theorem State.boundClaim_eq (s : State) (x : Branch) : s.boundClaim x = x.claimOn (claimedIn s.table.requests) := by
  rw [← show s.claimedByFailsafe = claimedIn s.table.requests from funext s.claimedByFailsafe_eq]
  rfl

theorem State.failsafeClaim_branch (t : State) (b c : BranchId) : (t.failsafeClaim b).1.branch c =
    if c = b then (t.branch b).withdrawn (claimedIn t.table.requests) (t.branchSettings b).enabled else t.branch c := by
  have htakes : t.failsafeTakes = takesItem (claimedIn t.table.requests) := by
    funext q
    rw [State.failsafeTakes_eq, show t.claimedByFailsafe = claimedIn t.table.requests from funext t.claimedByFailsafe_eq]
  unfold State.failsafeClaim
  dsimp only
  by_cases hcb : c = b
  · rw [if_pos hcb, hcb, State.branch_setBranch_self, htakes, State.boundClaim_eq]
    rfl
  · rw [if_neg hcb, State.branch_setBranch_other _ _ _ _ hcb, State.sharesAborted_frame]
    rfl

/-- The failsafe items that the walk of the map lists on a branch (R116). -/
def itemsListed (stations : List StationRecord) (b : BranchId) : List FailsafeItem :=
  stations.filterMap fun r => if r.branch = b then r.failsafe.map (failsafeItem r) else none

/-- A branch with failsafe items listed on it, none where it is in FAULT (R116). -/
def Branch.listing (x : Branch) (fs : List FailsafeItem) : Branch :=
  if x.state = .fault then x else { x with failsafe := x.failsafe ++ fs }

theorem Branch.listing_nil (x : Branch) : x.listing [] = x := by
  unfold Branch.listing
  split
  · rfl
  · rw [List.append_nil]

theorem Branch.listing_listing (x : Branch) (fs gs : List FailsafeItem) : (x.listing fs).listing gs = x.listing (fs ++ gs) := by
  unfold Branch.listing
  by_cases h : x.state = .fault
  · simp [h]
  · simp [h, List.append_assoc]

theorem State.listAction_branch (t : State) (r : StationRecord) (b : BranchId) :
    (t.listAction r).branch b = (t.branch b).listing (itemsListed [r] b) := by
  cases ha : r.failsafe with
  | none => rw [t.listAction_of_none ha]; simp [itemsListed, ha, Branch.listing_nil]
  | some a =>
    by_cases hb : r.branch = b
    · have hitems : itemsListed [r] b = [failsafeItem r a] := by simp [itemsListed, hb, ha]
      by_cases hf : (t.branch r.branch).state = .fault
      · rw [t.listAction_of_fault ha hf, Branch.listing, if_pos (hb ▸ hf)]
        rfl
      · rw [t.listAction_of_noFault ha hf, Branch.listing, if_neg (hb ▸ hf), hb, State.branch_setBranch_self, hitems]
    · have hitems : itemsListed [r] b = [] := by simp [itemsListed, hb]
      rw [hitems, Branch.listing_nil]
      by_cases hf : (t.branch r.branch).state = .fault
      · rw [t.listAction_of_fault ha hf]
        rfl
      · rw [t.listAction_of_noFault ha hf, State.branch_setBranch_other _ _ _ _ (Ne.symm hb)]
        rfl

theorem State.listActions_branch (l : List StationRecord) (t : State) (b : BranchId) :
    (l.foldl State.listAction t).branch b = (t.branch b).listing (itemsListed l b) := by
  induction l generalizing t with
  | nil => rw [show itemsListed [] b = [] from rfl, Branch.listing_nil]; rfl
  | cons r rs ih =>
    rw [List.foldl_cons, ih, State.listAction_branch, Branch.listing_listing]
    congr 1
    exact (List.filterMap_append (l := [r])).symm

/-- A branch after failsafe entry, before the arbiters run (R115, R116). -/
theorem State.failsafeEntry_branch (s : State) (cause : EntryCause) (b : BranchId) : (s.failsafeEntry cause).1.branch b =
    ((s.branch b).withdrawn (claimedIn s.table.requests) (s.branchSettings b).enabled).listing
      (itemsListed s.active.stations b) := by
  have heach := State.eachBranch_branch (f := State.failsafeClaim)
    (P := fun t => t.active = s.active ∧ t.table.requests = s.table.requests)
    (g := fun b x => x.withdrawn (claimedIn s.table.requests) (s.branchSettings b).enabled)
    (fun t b ht => ⟨by rw [State.failsafeClaim_frame]; exact ht.1, (t.failsafeClaim_requests b).trans ht.2⟩)
    (fun t b ht => by rw [State.failsafeClaim_branch, if_pos rfl, ht.2, State.branchSettings, ht.1]; rfl)
    (fun t b c h => by rw [State.failsafeClaim_branch, if_neg h]) (s := s.entryBegun cause) ⟨rfl, rfl⟩ b
  rw [State.failsafeEntry_fst]
  show (s.entryListed cause).branch b = _
  unfold State.entryListed
  rw [State.listActions_branch, heach]
  rfl

theorem Branch.withdrawn_heldBack (claimed : Nat → Bool) (en : Bool) (x : Branch) : (x.withdrawn claimed en).heldBack claimed := by
  have hqueue : ∀ q ∈ x.queue.filter fun q => !takesItem claimed q, takesItem claimed q = false := fun q hq => by
    simpa using (List.mem_filter.1 hq).2
  unfold Branch.withdrawn
  cases hclaim : x.claimOn claimed with
  | leave =>
    refine ⟨hqueue, fun k hk hg => ?_, fun k hk hc => ?_⟩
    · simp [Branch.claimOn, show x.bound = _ from hk, show x.state = _ from hg] at hclaim
    · unfold Branch.claimOn at hclaim
      rw [show x.bound = _ from hk] at hclaim
      cases hstate : x.state <;> simp [hstate, hc] at hclaim
  | takeAway => exact Branch.heldBack_of_unbound hqueue rfl
  | mark =>
    have hbound : x.state ≠ .guard ∧ ∃ k, x.bound = some (.station k) := by
      unfold Branch.claimOn at hclaim
      (repeat' split at hclaim) <;> first | exact ⟨‹_›, _, ‹_›⟩ | cases hclaim
    obtain ⟨hguard, j, hj⟩ := hbound
    exact ⟨hqueue, fun _ _ => hguard, fun _ _ _ => ⟨hguard, rfl⟩⟩

theorem Branch.heldBack.listing {claimed : Nat → Bool} {x : Branch} (hx : x.heldBack claimed) (fs : List FailsafeItem) :
    (x.listing fs).heldBack claimed := by
  unfold Branch.listing
  split <;> exact hx

theorem State.failsafeEntry_writesHeldBack (s : State) (cause : EntryCause) : WritesHeldBack (s.failsafeEntry cause).1 := by
  have hrequests : (s.failsafeEntry cause).1.table.requests = s.table.requests := by
    rw [State.failsafeEntry_fst]
    exact s.entryListed_requests cause
  refine (writesHeldBack_iff _).2 fun _ b => ?_
  rw [hrequests, State.failsafeEntry_branch]
  exact (Branch.withdrawn_heldBack _ _ _).listing _

end Sys2Proof.Machine
end

section
/-! PROOFS. Outside NORMAL the work of R115 stays away, and no guard's completion sends any of it (R117). -/

namespace Sys2Proof.Machine

open Relation

theorem claimedIn_requests (t : Table) (k : Nat) : claimedIn t.requests k =
    match t.find? k with
    | some e => e.kind == .write || e.kind == .command
    | none => false :=
  (State.claimedByFailsafe_eq { State.reset with table := t } k).symm

/-- No move brings a WRITE or COMMAND outside NORMAL (R48). -/
theorem RequestsMove.claimed {s : State} {rs : List Request} (h : RequestsMove s rs) (hn : s.sup.state ≠ .normal) {k : Nat}
    (hk : claimedIn rs k = true) : claimedIn s.table.requests k = true := by
  cases h with
  | same => exact hk
  | starts => cases hk
  | allocates e hs hl ht hkind =>
    obtain ⟨hwrite, hcommand⟩ := hkind hn
    rw [claimedIn_requests, Table.find?_allocate _ _ _ hs] at hk
    rw [claimedIn_requests]
    by_cases hke : k = e.slot
    · simp [if_pos hke, hwrite, hcommand] at hk
    · rwa [if_neg hke] at hk

theorem State.sent_claimed (s : State) (i : OutItem) {k : Nat} (hk : claimedIn (s.sent i).table.requests k = true) :
    claimedIn s.table.requests k = true := by
  rw [State.sent_table, State.promote_requests, claimedIn_requests, State.release_find?] at hk
  rw [claimedIn_requests]
  by_cases hfreed : i.note.slot? = some k
  · rw [if_pos hfreed] at hk
    cases hk
  · rwa [if_neg hfreed] at hk

/-- The condition `WritesHeldBack`, by requests and branches. -/
def State.heldBack (s : State) : Prop := s.sup.state ≠ .normal → ∀ b, (s.branch b).heldBack (claimedIn s.table.requests)

/-- What keeps the work away: no new claim, no return to a failsafe state, and branches that keep to it. -/
theorem State.heldBack.of {s t : State} (hs : s.heldBack) (hsup : t.sup.state ≠ .normal → s.sup.state ≠ .normal)
    (hc : s.sup.state ≠ .normal → ∀ k, claimedIn t.table.requests k = true → claimedIn s.table.requests k = true)
    (hb : ∀ b claimed, (s.branch b).heldBack claimed → (t.branch b).heldBack claimed) : t.heldBack := by
  intro hn b
  have hs' := hsup hn
  exact (hb b _ (hs hs' b)).mono (hc hs')

theorem State.heldBack_setBranch {s : State} {b : BranchId} {y : Branch} {claimed : Nat → Bool}
    (h : (s.branch b).heldBack claimed → y.heldBack claimed) (c : BranchId) (hc : (s.branch c).heldBack claimed) :
    ((s.setBranch b y).branch c).heldBack claimed := by
  by_cases hcb : c = b
  · subst hcb
    rw [State.branch_setBranch_self]
    exact h hc
  · rw [State.branch_setBranch_other _ _ _ _ hcb]
    exact hc

theorem State.heldIfDone_supState {s : State} (h : s.heldIfDone.sup.state ≠ .normal) : s.sup.state ≠ .normal := by
  unfold State.heldIfDone at h
  split at h
  · rename_i hc
    rw [hc.1]
    nofun
  · exact h

theorem Calm.keeps_heldBack {s t : State} (h : Calm s t) (hs : s.heldBack) : t.heldBack := by
  have hframe (hsup : t.sup.state = s.sup.state) (hb : t.branches = s.branches) : t.heldBack :=
    hs.of (fun hn => hsup ▸ hn) (fun hn k => h.requests.claimed hn) fun b c hx => by rwa [State.branch_congr hb]
  cases h with
  | completes k f => exact hframe (by rw [State.complete_frame]) (by rw [State.complete_frame])
  | refuses f r => refine hframe ?_ ?_ <;> (unfold State.refuse; split <;> rfl)
  | takesToken r hr => exact hframe (by rw [State.takeToken_frame]) (by rw [State.takeToken_frame])
  | resumes h => exact fun hn => absurd rfl hn
  | branch b y h => exact hs.of id (fun _ _ => id) fun c claimed => State.heldBack_setBranch h.keeps_heldBack c
  | falls p h =>
    have hcut (u : State) : u.cutStore.sup = u.sup ∧ u.cutStore.table = u.table := by
      unfold State.cutStore
      split <;> exact ⟨rfl, rfl⟩
    obtain ⟨hsup, htable⟩ := hcut { s with pins := p }
    refine hs.of (fun hn => ?_) (fun _ k hk => ?_) fun b c hx => ?_
    · have hn' : ({ s with pins := p } : State).cutStore.sup.state ≠ .normal := hn
      rwa [hsup] at hn'
    · have hk' : claimedIn ({ s with pins := p } : State).cutStore.table.requests k = true := hk
      rwa [htable] at hk'
    · rw [State.resetBegun, State.quieted_branch, State.cutStore_branch]
      exact hx
  | coldBegins p cause =>
    refine hs.of id (fun _ _ => id) fun b c hx => ?_
    show (s.quieted.branch b).heldBack c
    rw [State.quieted_branch]
    exact hx
  | periodPasses =>
    refine hs.of (fun hn => ?_) (fun hn k hk => ?_) fun b c hx => ?_
    · unfold State.tick at hn
      dsimp only at hn
      split at hn <;> exact hn
    · unfold State.tick at hk
      dsimp only at hk
      split at hk <;> exact hk
    · unfold State.tick
      dsimp only
      split
      · cases b <;> exact hx
      · exact hx
  | _ => exact hframe rfl rfl

theorem Stir.keeps_heldBack {s t : State} (h : Stir s t) (hs : s.heldBack) : t.heldBack := by
  have hreq : s.sup.state ≠ .normal → ∀ k, claimedIn t.table.requests k = true → claimedIn s.table.requests k = true :=
    fun hn k => h.requests.claimed hn
  cases h with
  | picks b =>
    refine hs.of (fun hn => by rw [State.arbitrate_frame] at hn; exact hn) hreq fun c claimed hx => ?_
    unfold State.arbitrate
    split
    · split
      · exact hx
      · rename_i claim hclaim
        by_cases hcb : c = b
        · subst hcb
          rw [State.pick_branch_self]
          exact hx.afterPick (chooseClaim_heads hclaim) _ _ _
        · rw [s.pick_branch_other b c claim hcb]
          exact hx
    · exact hx
  | enqueues b q h hf =>
    intro hn
    have hitem : takesItem (claimedIn s.table.requests) q = false := by
      rw [← hf hn, State.failsafeTakes_eq, show s.claimedByFailsafe = claimedIn s.table.requests from funext s.claimedByFailsafe_eq]
    intro c
    refine State.heldBack_setBranch (y := { s.branch b with queue := (s.branch b).queue ++ [q] })
      (fun hx => ⟨fun r hr => ?_, hx.2⟩) c (hs hn c)
    obtain hr | hr := List.mem_append.1 hr
    · exact hx.1 r hr
    · exact List.mem_singleton.1 hr ▸ hitem
  | releasesPoll p =>
    exact hs.of (fun hn => by rw [State.pollReleased_frame] at hn; exact hn) hreq
      fun b c hx => by rw [State.pollReleased_frame]; exact hx
  | recovers b h =>
    refine hs.of id hreq fun c claimed hx => State.heldBack_setBranch (fun hx => ?_) c hx
    exact ⟨hx.1, fun _ _ => nofun, fun k hk hc => ⟨nofun, (hx.2.2 k hk hc).2⟩⟩
  | shareEnds b k hl h hb =>
    refine hs.of id hreq fun c claimed hx => State.heldBack_setBranch (fun hx => ?_) c hx
    exact Branch.heldBack_of_unbound hx.1 rfl
  | leaves b h =>
    refine hs.of State.heldIfDone_supState hreq fun c claimed hx => ?_
    rw [State.branch_congr (State.heldIfDone_branches _)]
    refine State.heldBack_setBranch (s := s) (b := b) (fun hx => ?_) c hx
    exact Branch.heldBack_of_unbound hx.1 rfl
  | faults b h hi =>
    refine hs.of State.heldIfDone_supState hreq fun c claimed hx => ?_
    rw [State.branch_congr (State.heldIfDone_branches _)]
    refine State.heldBack_setBranch (s := s) (b := b) (fun hx => ?_) c hx
    exact Branch.heldBack_of_unbound nofun rfl
  | commits hl h =>
    refine hs.of (fun hn => ?_) hreq fun b claimed hx => ?_
    · have hstate := State.eachBranch_frame (v := fun t => t.sup.state) (fun t b => t.commitBranch_supState s.active b)
        { s with active := s.shadow }
      unfold State.replaceActive at hn
      have hn' := State.heldIfDone_supState hn
      rw [State.commitSilence_supState] at hn'
      exact hstate ▸ hn'
    · rw [State.replaceActive_branch]
      exact (hx.committed _ _).orphaned _
  | entersFailsafe cause hl h => exact (writesHeldBack_iff _).1 (s.failsafeEntry_writesHeldBack cause)
  | coldStarts => exact fun _ b => by rw [State.coldStarted_branch]; exact Branch.heldBack_of_unbound nofun rfl
  | warmStarts hl => exact fun _ b => by rw [State.warmStarted_branch]; exact Branch.heldBack_of_unbound nofun rfl
  | records | slotsDue => exact hs

theorem step_keeps_writesHeldBack {s t : State} (hs : WritesHeldBack s) (h : step s = .next t) : WritesHeldBack t :=
  (writesHeldBack_iff t).2 (step_keeps (p := State.heldBack) (fun _ _ ha hp => by cases ha <;> exact hp)
    (fun u i _ _ _ _ hp => hp.of (fun hn => by rw [State.sent_frame] at hn; exact hn) (fun _ _ => u.sent_claimed i)
      fun b c hx => by rw [State.sent_frame]; exact hx)
    (fun _ _ hc => hc.keeps_heldBack) (fun _ _ hc => hc.keeps_heldBack) ((writesHeldBack_iff s).1 hs) h)

/-- What a completed guard sends (R72). -/
theorem execGuardComplete_next {b : BranchId} {s t : State} (h : exec (.guardComplete b) s = .next t) :
    (s.branch b).state = .guard ∧ ∃ item f, (s.branch b).bound = some item
      ∧ t = (s.countAttempt item).setBranch b ((s.branch b).startSending item f s.clock.ms) := by
  change execGuardComplete b s = .next t at h
  unfold execGuardComplete at h
  dsimp only at h
  split at h
  · split at h
    · rename_i hdone
      split at h
      · cases h
      · rename_i item hitem
        split at h
        · cases h
        · rename_i f _
          cases h
          exact ⟨((s.branch b).guardDone_iff.1 hdone).1, item, f, hitem, rfl⟩
    · cases h
  · cases h

theorem State.countAttempt_requests (s : State) (i : BoundItem) : (s.countAttempt i).table.requests = s.table.requests := by
  cases i with
  | station k => exact s.updateEntry_requests k fun _ => ⟨rfl, rfl, rfl⟩
  | _ => rfl

theorem guardComplete_sendsNoWrite {s t : State} {b : BranchId} (hs : WritesHeldBack s) (hn : s.sup.state ≠ .normal)
    (h : exec (.guardComplete b) s = .next t) (slot : Nat) : (t.branch b).bound ≠ some (.share slot)
      ∧ ((t.branch b).bound = some (.station slot) →
          ∀ e, t.table.find? slot = some e → e.kind ≠ .write ∧ e.kind ≠ .command) := by
  obtain ⟨hguard, item, f, hitem, rfl⟩ := execGuardComplete_next h
  obtain ⟨-, hshare, hstation⟩ := (writesHeldBack_iff s).1 hs hn b
  rw [State.branch_setBranch_self]
  have hbound {i : BoundItem} (hi : ((s.branch b).startSending item f s.clock.ms).bound = some i)
      (hkind : i = .share slot ∨ i = .station slot) : item = i := by
    cases item <;> simp_all [Branch.startSending, BoundItem.attempted] <;> obtain rfl | rfl := hkind <;> simp at hi
  refine ⟨fun hk => ?_, fun hk e he => ?_⟩
  · exact hshare slot (hbound hk (.inl rfl) ▸ hitem) hguard
  · have hfree : claimedIn s.table.requests slot = false :=
      Bool.eq_false_iff.2 fun hc => (hstation slot (hbound hk (.inr rfl) ▸ hitem) hc).1 hguard
    rw [← s.countAttempt_requests item, claimedIn_requests, show (s.countAttempt item).table.find? slot = some e from he] at hfree
    simpa using hfree

/-- Settles O55: failsafe entry takes the work away, no request brings it back, and a retry needs a clear mark. -/
theorem failsafeHoldsWritesBack : Obligations.FailsafeHoldsWritesBack :=
  ⟨fun _ _ => step_keeps_writesHeldBack, fun _ _ _ => guardComplete_sendsNoWrite⟩

end Sys2Proof.Machine
end

section
/-! PROOFS. The front of the queue, the examples, and the state after reset. -/

namespace Sys2Proof.Machine

/-- Settles O1: `step` by its first equation. -/
theorem stepRunsTheFrontCommand : Obligations.StepRunsTheFrontCommand := by
  intro s c rest h
  simp [step, h]

/-- The codes of R169 and R174, each table evaluated. -/
theorem fieldCodes : FieldCodes := by
  refine ⟨rfl, rfl, rfl, rfl, rfl, rfl, rfl, rfl, rfl, rfl, rfl, rfl, rfl, rfl⟩

/-- Settles O6, by evaluation. -/
theorem checkOfTheExample : Obligations.CheckOfTheExample :=
  ⟨by decide +kernel, by decide, by decide, fieldCodes, by decide, by decide⟩

/-! ### The state after reset -/

@[simp] theorem State.reset_branch (b : BranchId) : State.reset.branch b = Branch.reset := by
  cases b <;> rfl

/-- The eight slots of the store after reset are BLANK. -/
theorem ImageSlot.eq_blank_of_reset {c : ImageSlot} (h : c ∈ State.reset.store.slots) : c = ImageSlot.blank :=
  List.eq_of_mem_replicate h

theorem reset_queuesBounded : QueuesBounded State.reset := by
  refine ⟨by decide, fun b => ?_, by decide, fun n h => ?_, fun _ _ => rfl⟩
  · simp [Branch.reset]
  · simp [State.reset] at h

theorem reset_tagsDistinct : TagsDistinct State.reset := by
  simp [TagsDistinct, State.reset]

theorem reset_linesFollowStates : LinesFollowStates State.reset := by
  intro b
  rw [State.reset_branch]
  simp [Branch.reset, State.reset]

theorem reset_countsInRange : CountsInRange State.reset := by
  refine ⟨fun b => ?_, fun x hx => ?_⟩
  · rw [State.reset_branch]
    simp [Branch.reset]
  · simp [State.reset] at hx

theorem reset_noIdleClaim : NoIdleClaim State.reset := by
  intro _ b _
  rw [State.reset_branch]
  exact ⟨rfl, rfl, rfl⟩

theorem reset_writesHeldBack : WritesHeldBack State.reset := fun h => absurd rfl h

theorem factoryConfig_mapOrdered : MapOrdered factoryConfig := by
  simp [MapOrdered, factoryConfig]

theorem reset_mapsOrdered : MapsOrdered State.reset := by
  refine ⟨factoryConfig_mapOrdered, factoryConfig_mapOrdered, fun c hc image hi => ?_⟩
  cases ImageSlot.eq_blank_of_reset hc
  cases hi

theorem reset_activeValid : ActiveValid State.reset := by
  refine ⟨rfl, fun c hc image hi => ?_⟩
  cases ImageSlot.eq_blank_of_reset hc
  cases hi

theorem reset_changesFollowMarks : ChangesFollowMarks State.reset := by
  simp [ChangesFollowMarks, State.reset]

theorem reset_storeConsistent : StoreConsistent State.reset := by
  refine ⟨rfl, fun c hc => ?_, fun k h => ?_, fun k h => ?_⟩
  · cases ImageSlot.eq_blank_of_reset hc
    simp [ImageSlot.blank]
  · cases h
  · cases h

/-- With an empty table every place is empty. -/
theorem reset_entriesPlaced : EntriesPlaced State.reset := by
  intro _
  simp [State.reset, State.branch, Quad.same, Quad.get, Branch.reset, Table.find?]
  intro b
  cases b <;> simp

theorem reset_framesFollowDrivers : FramesFollowDrivers State.reset := by
  intro b
  rw [State.reset_branch]
  exact ⟨rfl, rfl⟩

theorem reset_marksAgree : MarksAgree State.reset := by
  intro k c hc
  cases ImageSlot.eq_blank_of_reset (List.mem_of_getElem? hc)
  simp [ImageSlot.blank]

/-- After POWER the end of LOADING leaves the state of reset, but for the free values used up. -/
theorem endOfLoading_gives_reset :
    ∃ t, exec .power { State.reset with pins := { State.reset.pins with supplyLow := true } } = .next t
      ∧ exec .endOfLoading t = .next { State.reset with free := t.free } :=
  ⟨_, rfl, rfl⟩

/-- Settles O60: each condition on the literal state. -/
theorem resetMeetsTheConditions : Obligations.ResetMeetsTheConditions :=
  ⟨⟨reset_queuesBounded, reset_tagsDistinct, reset_linesFollowStates, reset_countsInRange, reset_noIdleClaim,
      by simp [StatFollows, State.reset], by simp [SendingHasItems, State.reset, State.failsafeLeft, Quad.same, Branch.reset, Branch.failsafeCount],
      reset_writesHeldBack, reset_mapsOrdered, reset_activeValid, by simp [TokensBounded, State.reset, factoryConfig],
      by simp [SlotsFollowMap, State.reset, factoryConfig], reset_changesFollowMarks, reset_storeConsistent,
      reset_entriesPlaced, fun _ h => absurd rfl h, reset_framesFollowDrivers, reset_marksAgree⟩,
    endOfLoading_gives_reset, rfl, rfl, rfl, rfl, rfl, rfl, rfl, fun b => by rw [State.reset_branch]; exact ⟨rfl, rfl⟩,
    rfl, rfl, rfl⟩

end Sys2Proof.Machine
end

section
/-! PROOFS. Request shapes and windows, upstream octets, a recorded success. -/

namespace Sys2Proof.Machine

/-! ### Request shapes (R50, R51) -/

/-- The range of an index pair and a count, where there is one. -/
theorem indexRange?_eq_some {hi lo count : Octet} {p : Nat × Nat} : indexRange? hi lo count = some p ↔
    (1 ≤ count.toNat ∧ count.toNat ≤ 30 ∧ hi.toNat * 256 + lo.toNat + count.toNat - 1 ≤ 65535)
      ∧ p = (hi.toNat * 256 + lo.toNat, hi.toNat * 256 + lo.toNat + count.toNat - 1) := by
  change (if 1 ≤ count.toNat ∧ count.toNat ≤ 30 ∧ hi.toNat * 256 + lo.toNat + count.toNat - 1 ≤ 65535 then
    some (hi.toNat * 256 + lo.toNat, hi.toNat * 256 + lo.toNat + count.toNat - 1) else none) = some p ↔ _
  rw [Option.ite_none_right_eq_some, Option.some.injEq, eq_comm (b := p)]

theorem indexRange?_isSome {hi lo count : Octet} : (indexRange? hi lo count).isSome = true ↔
    1 ≤ count.toNat ∧ count.toNat ≤ 30 ∧ hi.toNat * 256 + lo.toNat + count.toNat - 1 ≤ 65535 := by
  rw [Option.isSome_iff_exists]
  simp [indexRange?_eq_some]

theorem shapeOk_read_iff (p : List Octet) : shapeOk .read p = true ↔ ∃ hi lo count : Octet, p = [hi, lo, count]
    ∧ 1 ≤ count.toNat ∧ count.toNat ≤ 30 ∧ hi.toNat * 256 + lo.toNat + count.toNat - 1 ≤ 65535 := by
  match p with
  | [] | [_] | [_, _] | _ :: _ :: _ :: _ :: _ => simp [shapeOk]
  | [hi, lo, count] => simp [shapeOk, indexRange?_isSome]

/-- A WRITE payload has its range where its values fill it. -/
theorem writeRange?_cons (hi lo count : Octet) (values : List Octet) : writeRange? (hi :: lo :: count :: values) =
    if values.length = 2 * count.toNat then indexRange? hi lo count else none := rfl

theorem shapeOk_write_iff (p : List Octet) : shapeOk .write p = true ↔ ∃ (hi lo count : Octet) (values : List Octet),
    p = hi :: lo :: count :: values ∧ p.length = 3 + 2 * count.toNat ∧ 1 ≤ count.toNat ∧ count.toNat ≤ 30
      ∧ hi.toNat * 256 + lo.toNat + count.toNat - 1 ≤ 65535 := by
  match p with
  | [] | [_] | [_, _] => simp [shapeOk, writeRange?]
  | hi :: lo :: count :: values =>
    have hlen : (hi :: lo :: count :: values).length = 3 + 2 * count.toNat ↔ values.length = 2 * count.toNat := by
      simp; omega
    rw [shapeOk, writeRange?_cons]
    split
    · rename_i h
      rw [indexRange?_isSome]
      constructor
      · intro hr
        exact ⟨hi, lo, count, values, rfl, hlen.2 h, hr⟩
      · rintro ⟨_, _, _, _, heq, -, hr⟩
        cases heq
        exact hr
    · rename_i h
      simp only [Option.isSome_none, Bool.false_eq_true, false_iff]
      rintro ⟨_, _, _, _, heq, hl, -⟩
      cases heq
      exact h (hlen.1 hl)

theorem windowsAllow_iff {hi lo count : Octet} {values : List Octet} (ws : List Window)
    (h : shapeOk .write (hi :: lo :: count :: values) = true) :
    windowsAllow (some ws) (hi :: lo :: count :: values) = true ↔
      ∃ w ∈ ws, w.first ≤ hi.toNat * 256 + lo.toNat ∧ hi.toNat * 256 + lo.toNat + count.toNat - 1 ≤ w.last := by
  obtain ⟨range, hrange⟩ := Option.isSome_iff_exists.1 (show (writeRange? _).isSome = true from h)
  have hcover := hrange
  rw [writeRange?_cons] at hcover
  split at hcover
  · obtain ⟨-, rfl⟩ := indexRange?_eq_some.1 hcover
    simp [windowsAllow, hrange]
  · cases hcover

/-- Settles O8: each shape by its octets. -/
theorem requestShapesAndWindows : Obligations.RequestShapesAndWindows := by
  refine ⟨shapeOk_read_iff, shapeOk_write_iff, fun p => by simp [shapeOk], fun p => by simp [shapeOk],
    fun p => rfl, fun p => ?_, fun ws _ _ _ _ => windowsAllow_iff ws⟩
  simp only [windowsAllow]
  split <;> simp_all

/-! ### Upstream octets (R133, R179) -/

/-- Outside a frame START begins one. -/
theorem Receiver.take_start : Receiver.take .outside 0xC3#8 = (.started, .inside [0xC3#8] 0 0 false) := rfl

theorem Receiver.take_noise {o : Octet} (h : o ≠ 0xC3#8) : Receiver.take .outside o = (.noise, .outside) := by
  simp [Receiver.take, startOctet, h]

/-- An octet inside a frame that decides nothing is stored (R179). -/
theorem Receiver.take_stored {os : List Octet} {o : Octet} (quiet straddle : Nat) (begun : Bool)
    (hlen : os.length = 5 → o.toNat ≤ 64) (hlast : 6 ≤ os.length → os.length + 1 ≠ 8 + (os.getD 5 0#8).toNat) :
    Receiver.take (.inside os quiet straddle begun) o = (.stored, .inside (os ++ [o]) 0 0 false) := by
  simp only [Receiver.take, List.length_append, List.length_singleton]
  by_cases h5 : os.length = 5
  · have hle : ¬ 64 < o.toNat := by have := hlen h5; omega
    simp [h5, hle]
  · have hnot : ¬ (6 < os.length + 1 ∧ os.length + 1 = 8 + ((os ++ [o]).getD 5 0#8).toNat) := by
      rintro ⟨h6, h⟩
      rw [List.getD_append _ _ _ _ (by omega)] at h
      exact hlast (by omega) h
    rw [if_neg (by omega), if_neg hnot]

theorem Receiver.take_length {os : List Octet} {o : Octet} (quiet straddle : Nat) (begun : Bool) (h5 : os.length = 5)
    (ho : 64 < o.toNat) : Receiver.take (.inside os quiet straddle begun) o = (.length, .outside) := by
  simp [Receiver.take, h5, ho]

/-- The five octet commands of the upstream line bring their octet to the receiver. -/
theorem exec_upstreamOctet {c : Instr} {o : Octet}
    (h : c ∈ [Instr.validIn o, .upstreamCheck o, .upstreamLength o, .upstreamNoise o, .upstreamFrameOctet o]) (s : State) :
    exec c s = .next (s.upstreamOctet o) := by
  simp only [List.mem_cons, List.not_mem_nil, or_false] at h
  obtain rfl | rfl | rfl | rfl | rfl := h <;> rfl

theorem exec_upstreamGap (s : State) : exec .upstreamGap s =
    if s.up.rx.gapReached s.up.rate.charPeriods then .next s.upstreamGapped else .refused .timerOtherwise := rfl

/-- The octet of a receiver that is off is not taken. -/
theorem State.upstreamOctet_off {s : State} (h : s.up.rx = .off) (o : Octet) : s.upstreamOctet o = s := by
  simp [State.upstreamOctet, h]

/-- Settles O9: the receiver says what each octet does. -/
theorem upstreamReceptionCounts : Obligations.UpstreamReceptionCounts := by
  refine ⟨fun s => ⟨fun h => ?_, fun os quiet straddle begun o h hlen hlast => ?_, fun o c hc => ⟨fun h => ?_, ?_⟩,
    fun h => ?_⟩, fun s => ⟨fun o h ho => ?_, fun os quiet straddle begun o h h5 ho => ?_, fun f o h => ?_,
    fun os quiet straddle h hq => ?_⟩⟩
  · rw [exec_upstreamOctet (o := 0xC3#8) (by simp), State.upstreamOctet, h, Receiver.take_start]
    rfl
  · rw [exec_upstreamOctet (o := o) (by simp), State.upstreamOctet, h, Receiver.take_stored _ _ _ hlen hlast]
    rfl
  · rw [exec_upstreamOctet hc, State.upstreamOctet_off h]
  · rw [exec_upstreamOctet hc, exec_upstreamOctet (o := o) (by simp)]
  · have hgap : s.up.rx.gapReached s.up.rate.charPeriods ≠ true := by
      rw [ne_eq, Receiver.gapReached_iff]
      rintro ⟨os, quiet, straddle, hrx, hq⟩
      have := h os quiet straddle hrx
      omega
    rw [exec_upstreamGap, if_neg hgap]
  · rw [exec_upstreamOctet (o := o) (by simp), State.upstreamOctet, h, Receiver.take_noise ho]
    simp [State.setUpRx, State.countUp, ← h]
  · rw [exec_upstreamOctet (o := o) (by simp), State.upstreamOctet, h, Receiver.take_length _ _ _ h5 ho]
    rfl
  · rw [exec_upstreamOctet (o := o) (by simp), State.upstreamOctet, Receiver.take_check h]
    rfl
  · rw [exec_upstreamGap, if_pos ((Receiver.gapReached_iff _ _).2 ⟨os, quiet, straddle, h, hq⟩)]
    rfl

/-! ### A VALID upstream frame (R134, R135) -/

/-- A VALID frame is heard, and in RUNNING judged; in RESTART_PENDING it only counts (R134, R135). -/
theorem exec_validIn {s : State} {f : Frame} {o : Octet} (h : s.up.Arrives f o) : exec (.validIn o) s =
    .next (if s.seq.run = .restartPending then
      s.heard.countUp fun c => { c with discardRestart := bump c.discardRestart } else s.heard.admission f) := by
  rw [exec_upstreamOctet (o := o) (by simp), State.upstreamOctet_arrives h]
  rfl

theorem exec_validIn_running {s : State} {f : Frame} {o : Octet} (hrun : s.seq.run = .running) (h : s.up.Arrives f o) :
    exec (.validIn o) s = .next (s.heard.carryOut f (s.heard.judge f)) := by
  rw [exec_validIn h, if_neg (by simp [hrun])]
  rfl

theorem ReqKind.ofOctet?_eq_none {k : Octet} (h : k ∉ [0x10#8, 0x11#8, 0x12#8, 0x13#8, 0x1F#8]) : ReqKind.ofOctet? k = none := by
  simp only [List.mem_cons, List.not_mem_nil, or_false, not_or] at h
  obtain ⟨h0, h1, h2, h3, h4⟩ := h
  simp [ReqKind.ofOctet?, kindRead, kindWrite, kindCommand, kindStatus, kindManage, h0, h1, h2, h3, h4]

theorem ReqKind.ofOctet?_octet (k : ReqKind) : ReqKind.ofOctet? k.octet = some k := by
  cases k <;> rfl

/-- A frame to address 0 or of no request kind is discarded (R46). -/
theorem State.judge_discard {s : State} {f : Frame} (h : f.dest = 0#8 ∨ f.kind ∉ [0x10#8, 0x11#8, 0x12#8, 0x13#8, 0x1F#8]) :
    s.judge f = .discard := by
  unfold State.judge
  obtain h | h := h
  · split
    · rfl
    · rw [if_pos h]
  · rw [ReqKind.ofOctet?_eq_none h]

/-- Settles O10. -/
theorem framesWithoutEffectAreDropped : Obligations.FramesWithoutEffectAreDropped := by
  refine ⟨fun s f o hrun harr => ?_, fun s f o hrun harr hf => ?_⟩
  · rw [exec_validIn harr, if_pos hrun]
    rfl
  · rw [exec_validIn_running hrun harr, State.judge_discard hf]
    rfl

/-! ### A successful poll (R98) -/

/-- The recording of a success: outcome and schedule in the slot, then the test of its mark (R98, R100, R102). -/
theorem State.recordPoll_success (s : State) (a : Octet) (w : Word16) (sent : Millis) :
    s.recordPoll a (some w) sent =
      { s with scan :=
          (s.scan.update a fun x => (x.succeeded w sent).rescheduled s.clock.ms sent (s.active.scan? a)).testMark a } := rfl

/-- Settles O30: the slot is written in its place, and the test of its mark decides the rest. -/
theorem successIsRecorded : Obligations.SuccessIsRecorded := by
  intro s x w sent n hfind huniq hscan
  have haddr (y : ScanSlot) : ((y.succeeded w sent).rescheduled s.clock.ms sent (s.active.scan? x.addr)).addr = y.addr :=
    (y.succeeded w sent).rescheduled_addr ..
  have hflip : (ScanState.online != x.collState || some w != x.collWord) = (x.collState != .online || x.collWord != some w) := by
    rw [bne_comm, bne_comm (a := some w)]
  rw [State.recordPoll_success, Scan.testMark_update _ haddr hfind huniq, hscan, ScanSlot.rescheduled_some]
  simp only [ScanSlot.toMark, ScanSlot.differs, ScanSlot.succeeded, hflip]

end Sys2Proof.Machine
end

section
/-! PROOFS. Frames and layouts read back from their octets. -/

namespace Sys2Proof.Machine

/-! ### Frames (R170, R179) -/

/-- The sixth octet of a frame as sent is its LEN. -/
theorem Frame.octets_getD_five (f : Frame) : f.octets.getD 5 0#8 = oct f.payload.length := by
  simp [Frame.octets, Frame.body]

theorem Frame.octets_length (f : Frame) : f.octets.length = 8 + f.payload.length := by
  simp [Frame.octets, wordOct, twoOct, Frame.body_length]
  omega

/-- An octet of a frame, neither the first nor the last, decides nothing. -/
theorem Receiver.take_inner {f : Frame} (hf : f.payload.length ≤ 64) {os rest : List Octet} {o : Octet}
    (hsplit : f.octets = os ++ o :: rest) (hrest : rest ≠ []) (quiet straddle : Nat) (begun : Bool) :
    Receiver.take (.inside os quiet straddle begun) o = (.stored, .inside (os ++ [o]) 0 0 false) := by
  have hfive := f.octets_getD_five
  have hlen := f.octets_length
  have hl : (oct f.payload.length).toNat = f.payload.length := oct_toNat_of_lt _ (by omega)
  have hpos := List.length_pos_of_ne_nil hrest
  rw [hsplit] at hfive hlen
  simp only [List.length_append, List.length_cons] at hlen
  refine Receiver.take_stored _ _ _ (fun h5 => ?_) (fun h6 => ?_)
  · rw [List.getD_append_right _ _ _ _ (by omega)] at hfive
    simp only [h5, Nat.sub_self, List.getD_cons_zero] at hfive
    rw [hfive, hl]
    exact hf
  · rw [List.getD_append _ _ _ _ (by omega)] at hfive
    rw [hfive]
    omega

/-- Two octets of CHECK. -/
theorem wordOct_pair (w : Word16) : wordOct w = [oct (w.toNat / 256), oct w.toNat] := rfl

/-- From any octet of a frame on, its octets are stored up to the last, which ends it VALID. -/
theorem Receiver.feed_rest {f : Frame} (hf : f.payload.length ≤ 64) (rest : List Octet) :
    ∀ (os : List Octet) (quiet straddle : Nat) (begun : Bool), f.octets = os ++ rest → rest ≠ [] →
      Receiver.feed (.inside os quiet straddle begun) rest = (List.replicate (rest.length - 1) .stored ++ [.valid f], .outside) := by
  induction rest with
  | nil => intro _ _ _ _ _ h; exact absurd rfl h
  | cons o rest ih =>
    intro os quiet straddle begun hsplit _
    cases rest with
    | nil =>
      have hf' : startOctet :: f.body ++ [oct ((crc f.body).toNat / 256)] ++ [oct (crc f.body).toNat] = os ++ [o] := by
        rw [← hsplit, Frame.octets, wordOct_pair]
        simp
      obtain ⟨rfl, ho⟩ := List.append_inj' hf' rfl
      cases ho
      have harr : ArrivesWith (.inside (startOctet :: f.body ++ [oct ((crc f.body).toNat / 256)]) quiet straddle begun) f
          (oct (crc f.body).toNat) := ⟨_, ⟨hf, quiet, straddle, begun, rfl⟩, wordOct_pair _⟩
      rw [Receiver.feed, Receiver.take_valid harr]
      rfl
    | cons p rest =>
      have hnext := ih (os ++ [o]) 0 0 false (by rw [hsplit]; simp) (by simp)
      rw [Receiver.feed, Receiver.take_inner hf hsplit (by simp)]
      simp only [hnext]
      rfl

/-- Settles O5: START begins the frame, and from there on its octets are stored up to the last. -/
theorem framesRoundTrip : Obligations.FramesRoundTrip := by
  intro f hf
  have hrest := Receiver.feed_rest hf (f.body ++ wordOct (crc f.body)) [startOctet] 0 0 false rfl (by simp [Frame.body])
  refine ⟨.started :: List.replicate ((f.body ++ wordOct (crc f.body)).length - 1) .stored, ?_, rfl, ?_⟩
  · rw [Frame.octets, List.cons_append, Receiver.feed, startOctet, Receiver.take_start]
    simp only [← startOctet.eq_1, hrest]
    rfl
  · intro x hx
    exact List.eq_of_mem_replicate hx

/-! ### Numbers in octets -/

theorem pairNat_twoOct {n : Nat} (h : n < 65536) : pairNat (oct (n / 256)) (oct n) = n := by
  simp only [pairNat, oct, BitVec.toNat_ofNat]
  omega

theorem UpRate.ofOctet?_octet (r : UpRate) : UpRate.ofOctet? r.octet = some r := by cases r <;> rfl

theorem BranchRate.ofOctet?_octet (r : BranchRate) : BranchRate.ofOctet? r.octet = some r := by cases r <;> rfl

theorem StartMode.ofOctet?_octet (m : StartMode) : StartMode.ofOctet? m.octet = some m := by cases m <;> rfl

theorem ActionKind.ofOctet?_octet (k : ActionKind) : ActionKind.ofOctet? k.octet = some k := by cases k <;> rfl

theorem BranchId.ofNat?_toNat (b : BranchId) : BranchId.ofNat? (oct b.toNat).toNat = some b := by cases b <;> rfl

/-- Four marks in an octet are read back bit by bit. -/
theorem bitAt_four (a b c d : Bool) :
    let o := oct (bitAt a 0 + bitAt b 1 + bitAt c 2 + bitAt d 3)
    o.toNat < 16 ∧ o.getLsbD 0 = a ∧ o.getLsbD 1 = b ∧ o.getLsbD 2 = c ∧ o.getLsbD 3 = d := by
  revert a b c d
  decide

theorem bitAt_two (a b : Bool) :
    let o := oct (bitAt a 0 + bitAt b 1)
    o.toNat < 4 ∧ o.getLsbD 0 = a ∧ o.getLsbD 1 = b := by
  revert a b
  decide

/-! ### The settings layout (R177) -/

theorem branchSettings?_octets {b : BranchSettings} (h : b.inRange = true) :
    branchSettings? (oct (bitAt b.enabled 0 + bitAt b.bcast 1)) b.rate.octet (oct b.guard) (oct b.burst) = some b := by
  simp only [BranchSettings.inRange, decide_eq_true_eq] at h
  obtain ⟨hflags, h0, h1⟩ := bitAt_two b.enabled b.bcast
  have hg : (oct b.guard).toNat = b.guard := oct_toNat_of_lt _ (by omega)
  have hu : (oct b.burst).toNat = b.burst := oct_toNat_of_lt _ (by omega)
  simp only [branchSettings?, BranchRate.ofOctet?_octet, h0, h1, hg, hu]
  rw [if_pos ⟨hflags, by omega⟩]

theorem settings?_octets {c : Settings} (h : c.inRange = true) : settings? c.octets = some c ∧ c.octets.length = 21 := by
  simp only [Settings.inRange, Bool.and_eq_true, decide_eq_true_eq] at h
  obtain ⟨⟨⟨⟨⟨hown, h0⟩, h1⟩, h2⟩, h3⟩, hs⟩ := h
  refine ⟨?_, by simp [Settings.octets, BranchSettings.octets, twoOct]⟩
  simp only [Settings.octets, BranchSettings.octets, twoOct, List.cons_append, List.nil_append, settings?,
    UpRate.ofOctet?_octet, branchSettings?_octets h0, branchSettings?_octets h1, branchSettings?_octets h2,
    branchSettings?_octets h3, StartMode.ofOctet?_octet]
  rw [pairNat_twoOct (by omega), if_pos ⟨hown, hs⟩]

/-! ### The station record layout (R178) -/

theorem budget?_octets {b : Option Budget} (h : b.all Budget.inRange = true) (xs : List Octet) :
    budget? b.isSome (budgetOctets b ++ xs) = some (b, xs) := by
  cases b with
  | none => rfl
  | some b =>
    simp only [Option.all_some, Budget.inRange, decide_eq_true_eq] at h
    have hd : (oct b.depth).toNat = b.depth := oct_toNat_of_lt _ (by omega)
    have hr : (oct b.refill).toNat = b.refill := oct_toNat_of_lt _ (by omega)
    simp only [budgetOctets, Option.isSome_some, List.cons_append, List.nil_append, budget?, hd, hr]
    rw [if_pos (by omega)]

theorem windowRun?_octets {ws : List Window} (h : ws.all Window.inRange = true) (xs : List Octet) :
    windowRun? ws.length ((ws.flatMap fun w => twoOct w.first ++ twoOct w.last) ++ xs) = some (ws, xs) := by
  induction ws with
  | nil => rfl
  | cons w ws ih =>
    simp only [List.all_cons, Bool.and_eq_true, Window.inRange, decide_eq_true_eq] at h
    obtain ⟨⟨hf, hl⟩, hws⟩ := h
    simp only [List.flatMap_cons, twoOct, List.cons_append, List.nil_append, List.length_cons, windowRun?]
    have htail := ih hws
    simp only [twoOct, List.cons_append, List.nil_append] at htail
    rw [htail, pairNat_twoOct (by omega), pairNat_twoOct (by omega)]

theorem windows?_octets {ws : Option (List Window)}
    (h : ws.all (fun ws => decide (ws.length ≤ 4) && ws.all Window.inRange) = true) (xs : List Octet) :
    windows? ws.isSome (windowOctets ws ++ xs) = some (ws, xs) := by
  cases ws with
  | none => rfl
  | some ws =>
    simp only [Option.all_some, Bool.and_eq_true, decide_eq_true_eq] at h
    have hn : (oct ws.length).toNat = ws.length := oct_toNat_of_lt _ (by omega)
    simp only [windowOctets, Option.isSome_some, List.cons_append, windows?, hn]
    rw [if_pos h.1, windowRun?_octets h.2]

theorem scan?_octets {n : Option Nat} (h : n.all (fun n => decide (1 ≤ n ∧ n ≤ 600)) = true) (xs : List Octet) :
    scan? n.isSome (scanOctets n ++ xs) = some (n, xs) := by
  cases n with
  | none => rfl
  | some n =>
    simp only [Option.all_some, decide_eq_true_eq] at h
    simp only [scanOctets, Option.isSome_some, twoOct, List.cons_append, List.nil_append, scan?]
    rw [pairNat_twoOct (by omega), if_pos h]

theorem action?_octets {a : Option FailsafeAction}
    (h : a.all (fun a => decide (1 ≤ a.payload.length ∧ a.payload.length ≤ 32)) = true) :
    action? a.isSome (actionOctets a) = some a := by
  cases a with
  | none => rfl
  | some a =>
    simp only [Option.all_some, decide_eq_true_eq] at h
    have hn : (oct a.payload.length).toNat = a.payload.length := oct_toNat_of_lt _ (by omega)
    simp only [actionOctets, Option.isSome_some, List.cons_append, List.nil_append, action?, ActionKind.ofOctet?_octet, hn]
    rw [if_pos ⟨h.1, h.2, trivial⟩]

theorem stationRecord?_octets {r : StationRecord} (h : r.inRange = true) : stationRecord? r.octets = some r := by
  simp only [StationRecord.inRange, Bool.and_eq_true, decide_eq_true_eq] at h
  obtain ⟨⟨⟨⟨⟨haddr, ht5, ht, hret⟩, hbudget⟩, hwindows⟩, hscan⟩, haction⟩ := h
  obtain ⟨hp, hp0, hp1, hp2, hp3⟩ := bitAt_four r.budget.isSome r.windows.isSome r.scan.isSome r.failsafe.isSome
  obtain ⟨hc, hc0, hc1, hc2, hc3⟩ := bitAt_four r.classes.read r.classes.write r.classes.command r.classes.status
  have hr : (oct r.retries).toNat = r.retries := oct_toNat_of_lt _ (by omega)
  simp only [StationRecord.octets, twoOct, List.cons_append, List.nil_append, List.append_assoc, stationRecord?,
    BranchId.ofNat?_toNat, StationRecord.presence, ClassSet.octet, hp0, hp1, hp2, hp3, hc0, hc1, hc2, hc3, hr,
    budget?_octets hbudget, windows?_octets hwindows, scan?_octets hscan, action?_octets haction]
  rw [pairNat_twoOct (by omega), if_pos ⟨haddr, hc, ht5, ht, hret, hp⟩]

theorem flatMap_window_length (ws : List Window) :
    (ws.flatMap fun w => twoOct w.first ++ twoOct w.last).length = 4 * ws.length := by
  induction ws with
  | nil => rfl
  | cons w ws ih => simp [twoOct] at ih ⊢; omega

theorem StationRecord.octets_length {r : StationRecord} (h : r.inRange = true) :
    7 ≤ r.octets.length ∧ r.octets.length ≤ 62 := by
  simp only [StationRecord.inRange, Bool.and_eq_true, decide_eq_true_eq] at h
  obtain ⟨⟨⟨-, hwindows⟩, -⟩, haction⟩ := h
  have hb : (budgetOctets r.budget).length ≤ 2 := by cases r.budget <;> simp [budgetOctets]
  have hw : (windowOctets r.windows).length ≤ 17 := by
    cases hws : r.windows with
    | none => simp [windowOctets]
    | some ws =>
      simp only [hws, Option.all_some, Bool.and_eq_true, decide_eq_true_eq] at hwindows
      rw [windowOctets, List.length_cons, flatMap_window_length]
      omega
  have hs : (scanOctets r.scan).length ≤ 2 := by cases r.scan <;> simp [scanOctets, twoOct]
  have ha : (actionOctets r.failsafe).length ≤ 34 := by
    cases hfs : r.failsafe with
    | none => simp [actionOctets]
    | some a =>
      simp only [hfs, Option.all_some, decide_eq_true_eq] at haction
      simp [actionOctets]
      omega
  simp only [StationRecord.octets, twoOct, List.length_append, List.length_cons, List.length_nil]
  omega

/-- Settles O7: field by field. -/
theorem layoutsRoundTrip : Obligations.LayoutsRoundTrip :=
  ⟨fun _ h => settings?_octets h, fun _ h => ⟨stationRecord?_octets h, StationRecord.octets_length h⟩⟩

end Sys2Proof.Machine
end

section
/-! PROOFS. The part's own time: which events are due, and what one clock period does (R2, R179). -/

namespace Sys2Proof.Machine

/-! ### The events that are due -/

theorem mem_dueIf {c : Bool} {i j : Instr} : i ∈ dueIf c j ↔ c = true ∧ i = j := by
  cases c <;> simp [dueIf]

/-- The takes of the agent. -/
def takeInstrs : List Instr := .badOperation :: takeCommands.map Prod.snd

theorem Op.instr_mem (o : Op) : (o.octet, o.instr) ∈ takeCommands := by
  cases o <;> simp [takeCommands, Op.octet, Op.instr]

theorem takeInstr_mem (p : List Octet) : takeInstr p ∈ takeInstrs := by
  unfold takeInstr
  split
  · simp [takeInstrs]
  · split
    · exact List.mem_cons_of_mem _ (List.mem_map.2 ⟨_, Op.instr_mem _, rfl⟩)
    · simp [takeInstrs]

theorem State.dueTake_subset {s : State} {c : Instr} (h : c ∈ s.dueTake) : c ∈ takeInstrs := by
  unfold State.dueTake at h
  split at h
  · rw [List.mem_singleton.1 h]
    exact takeInstr_mem _
  · cases h

/-- In a live part an event is due where the part, the agent or a gap timer has it due. -/
theorem State.mem_due {s : State} (hl : s.live = true) (c : Instr) : c ∈ s.due ↔
    c ∈ dueAtTransmitter s.up.tx ∨ (∃ b, c ∈ dueAtBranch (s.branch b) b)
      ∨ (∃ x ∈ s.scan.slots, x.dueReached s.clock.ms = true ∧ c = .slotDue x.addr)
      ∨ (∃ t ∈ s.tokens, t.timer = some 0 ∧ c = .refillExpiry t.addr)
      ∨ (s.sup.silenceDue = true ∧ c = .silenceExpiry) ∨ c ∈ s.dueTake ∨ ∃ l ∈ s.gapLines, c = gapInstr l := by
  have hall (b : BranchId) : b ∈ BranchId.all := by cases b <;> decide
  simp only [State.due, hl, if_true, List.mem_append, List.mem_flatMap, List.mem_map, List.mem_filter, mem_dueIf, hall,
    true_and, beq_iff_eq, eq_comm (b := c), and_assoc, or_assoc]

theorem mem_dueAtTransmitter {t : Transmitter} {c : Instr} : c ∈ dueAtTransmitter t ↔
    (t = .sending 0 ∧ c = .endOfTransmission) ∨ (t = .spacing 0 ∧ c = .endOfSpacing) := by
  unfold dueAtTransmitter
  split <;> simp_all

theorem mem_dueAtBranch {x : Branch} {b : BranchId} {c : Instr} : c ∈ dueAtBranch x b ↔
    (x.guardDone = true ∧ c = .guardComplete b) ∨ (x.waitDone = true ∧ c = .guardQuietWaitExpiry b)
      ∨ (x.sendDone = true ∧ c = .branchEndOfSending b) ∨ (x.deadlineDue = true ∧ c = .replyDeadlineExpiry b)
      ∨ (x.probeDue = true ∧ c = .probeTimerExpiry b) ∨ (x.probeDone = true ∧ c = .probeQuietEnd b) := by
  simp [dueAtBranch, mem_dueIf]

theorem mem_gapInstrs {s : State} {c : Instr} : (∃ l ∈ s.gapLines, c = gapInstr l) ↔
    (none ∈ s.gapLines ∧ c = .upstreamGap) ∨ ∃ b, some b ∈ s.gapLines ∧ c = .branchGap b := by
  constructor
  · rintro ⟨_ | b, hl, rfl⟩
    · exact .inl ⟨hl, rfl⟩
    · exact .inr ⟨b, hl, rfl⟩
  · rintro (⟨hl, rfl⟩ | ⟨b, hl, rfl⟩)
    · exact ⟨none, hl, rfl⟩
    · exact ⟨some b, hl, rfl⟩

/-- An event that the agent cannot take is due by the lines and timers alone. -/
theorem State.mem_due_of_noTake {s : State} {c : Instr} (hl : s.live = true) (hc : c ∉ takeInstrs) : c ∈ s.due ↔
    c ∈ dueAtTransmitter s.up.tx ∨ (∃ b, c ∈ dueAtBranch (s.branch b) b)
      ∨ (∃ x ∈ s.scan.slots, x.dueReached s.clock.ms = true ∧ c = .slotDue x.addr)
      ∨ (∃ t ∈ s.tokens, t.timer = some 0 ∧ c = .refillExpiry t.addr)
      ∨ (s.sup.silenceDue = true ∧ c = .silenceExpiry) ∨ (none ∈ s.gapLines ∧ c = .upstreamGap)
      ∨ ∃ b, some b ∈ s.gapLines ∧ c = .branchGap b := by
  have hno : c ∉ s.dueTake := fun h => hc (State.dueTake_subset h)
  simp only [State.mem_due hl, hno, false_or, mem_gapInstrs]

theorem State.upstreamGap_mem_due {s : State} (hl : s.live = true) : .upstreamGap ∈ s.due ↔ none ∈ s.gapLines := by
  rw [State.mem_due_of_noTake hl (by simp [takeInstrs, takeCommands])]
  simp [mem_dueAtTransmitter, mem_dueAtBranch]

theorem State.branchGap_mem_due {s : State} (hl : s.live = true) (b : BranchId) : .branchGap b ∈ s.due ↔ some b ∈ s.gapLines := by
  rw [State.mem_due_of_noTake hl (by simp [takeInstrs, takeCommands])]
  simp [mem_dueAtTransmitter, mem_dueAtBranch]

/-! ### What is due at each timer -/

theorem Millis.reached_iff {now due : Millis} : Millis.reached now due = true ↔ (now - due).toNat < 2 ^ 31 :=
  decide_eq_true_iff

theorem ScanSlot.dueReached_iff {x : ScanSlot} {now : Millis} : x.dueReached now = true ↔
    ∃ due, x.schedule = .waiting due ∧ (now - due).toNat < 2 ^ 31 := by
  unfold ScanSlot.dueReached
  cases x.schedule with
  | waiting due => simp only [Millis.reached_iff, Schedule.waiting.injEq, exists_eq_left']
  | overdue _ => simp

theorem Supervision.silenceDue_iff {v : Supervision} : v.silenceDue = true ↔ v.state = .normal ∧ v.silence = some 0 := by
  simp [Supervision.silenceDue]

/-- The take due at the agent is the one that the head entry's payload names. -/
theorem State.dueTake_of_takes {s : State} {slot : Nat} {e : Entry} {p : List Octet} (h : Takes s slot e p) :
    s.dueTake = [takeInstr p] := by
  have hready := State.takeReady_of_takes h
  obtain ⟨-, -, hhead, hfind, -, -, hp⟩ := h
  have hpayload : s.headPayload = p := by
    unfold State.headPayload
    cases hq : s.agent.queue with
    | nil => simp [hq] at hhead
    | cons k ks => simp_all
  rw [State.dueTake, hready, hpayload]

theorem takeInstr_of_mem {op : Octet} {c : Instr} (h : (op, c) ∈ takeCommands) (args : List Octet) : takeInstr (op :: args) = c := by
  have hall : ∀ x ∈ takeCommands, takeInstr [x.1] = x.2 := by decide
  exact hall _ h

theorem takeInstr_of_noOp {op : Octet} (args : List Octet) (h : ∀ c, (op, c) ∉ takeCommands) :
    takeInstr (op :: args) = .badOperation := by
  cases ho : Op.ofOctet? op with
  | none => simp [takeInstr, ho]
  | some o =>
    have hoct : o.octet = op := by simpa using List.find?_some ho
    exact absurd (hoct ▸ Op.instr_mem o) (h _)

theorem State.live_iff {s : State} : s.live = true ↔ s.seq.run ≠ .loading := by
  simp [State.live]

theorem Takes.live {s : State} {slot : Nat} {e : Entry} {p : List Octet} (h : Takes s slot e p) : s.live = true :=
  State.live_iff.2 h.1

theorem expiredTimersAreDue {s : State} (hl : s.live = true) : ExpiredTimersAreDue s := by
  have hdue {c : Instr} (hc : c ∉ takeInstrs) := State.mem_due_of_noTake hl hc
  refine ⟨?_, fun a => ?_, fun a => ?_, ?_, ?_, fun slot e op c args hc ht => ?_, fun slot e p hp ht => ?_, ?_, fun b => ?_⟩
  · simp [hdue (c := .silenceExpiry) (by simp [takeInstrs, takeCommands]), mem_dueAtTransmitter, mem_dueAtBranch,
      Supervision.silenceDue_iff]
  · simp [hdue (c := .refillExpiry a) (by simp [takeInstrs, takeCommands]), mem_dueAtTransmitter, mem_dueAtBranch, and_comm,
      eq_comm (a := a)]
  · simp [hdue (c := .slotDue a) (by simp [takeInstrs, takeCommands]), mem_dueAtTransmitter, mem_dueAtBranch, and_comm,
      eq_comm (a := a), -BitVec.toNat_sub, ScanSlot.dueReached_iff]
  · simp [hdue (c := .endOfTransmission) (by simp [takeInstrs, takeCommands]), mem_dueAtTransmitter, mem_dueAtBranch]
  · simp [hdue (c := .endOfSpacing) (by simp [takeInstrs, takeCommands]), mem_dueAtTransmitter, mem_dueAtBranch]
  · rw [State.mem_due hl, State.dueTake_of_takes ht, takeInstr_of_mem hc]
    simp
  · have hbad : takeInstr p = .badOperation := by
      obtain rfl | ⟨op, args, rfl, hno⟩ := hp
      · rfl
      · exact takeInstr_of_noOp args hno
    rw [State.mem_due hl, State.dueTake_of_takes ht, hbad]
    simp
  · rw [State.upstreamGap_mem_due hl, State.mem_gapLines]
    exact Receiver.gapReached_iff ..
  · have hgap : .branchGap b ∈ s.due ↔ ∃ os quiet straddle, (s.branch b).rx = .inside os quiet straddle false
        ∧ 3 * (s.branch b).rate.charPeriods ≤ quiet := by
      rw [State.branchGap_mem_due hl, State.mem_gapLines]
      exact Receiver.gapReached_iff ..
    refine ⟨?_, ?_, ?_, ?_, ?_, ?_, hgap⟩
    · simp [hdue (c := .guardComplete b) (by simp [takeInstrs, takeCommands]), mem_dueAtTransmitter, mem_dueAtBranch,
        Branch.guardDone_iff]
    · simp [hdue (c := .guardQuietWaitExpiry b) (by simp [takeInstrs, takeCommands]), mem_dueAtTransmitter, mem_dueAtBranch,
        Branch.waitDone_iff]
    · simp [hdue (c := .branchEndOfSending b) (by simp [takeInstrs, takeCommands]), mem_dueAtTransmitter, mem_dueAtBranch,
        Branch.sendDone_iff]
    · simp [hdue (c := .replyDeadlineExpiry b) (by simp [takeInstrs, takeCommands]), mem_dueAtTransmitter, mem_dueAtBranch,
        Branch.deadlineDue_iff]
    · simp [hdue (c := .probeTimerExpiry b) (by simp [takeInstrs, takeCommands]), mem_dueAtTransmitter, mem_dueAtBranch,
        Branch.probeDue_iff]
    · simp [hdue (c := .probeQuietEnd b) (by simp [takeInstrs, takeCommands]), mem_dueAtTransmitter, mem_dueAtBranch,
        Branch.probeDone_iff]

/-! ### One clock period -/

theorem tickTimer_eq : tickTimer = Option.map fun n => n - 1 := by
  funext t
  cases t <;> rfl

theorem Receiver.tick_quietGrows (r : Receiver) : QuietGrows r r.tick := by
  refine ⟨?_, ?_, ?_⟩
  · rintro os quiet straddle begun rfl
    rfl
  · rintro rfl
    rfl
  · rintro rfl
    rfl

theorem State.tick_live {s : State} (hl : s.live = true) : s.tick = { s with
    pins := s.pins.tick, clock := s.clock.tick, tokens := s.tokens.map fun x => { x with timer := tickTimer x.timer }
    up := { s.up with rx := s.up.rx.tick, tx := s.up.tx.tick }, branches := s.branches.map Branch.tick
    sup := { s.sup with silence := tickTimer s.sup.silence }, agent := { s.agent with service := s.agent.service.tick } } := by
  rw [State.tick, if_pos hl]

theorem State.tick_branch {s : State} (hl : s.live = true) (b : BranchId) : s.tick.branch b = (s.branch b).tick := by
  rw [State.tick_live hl]
  exact Quad.get_map ..

theorem State.tick_periodPasses {s : State} (hl : s.live = true) : PeriodPasses s s.tick := by
  refine ⟨fun h => ?_, fun h => ?_, ?_, ?_, fun b => ?_, ?_⟩
  · rw [State.tick_live hl]
    exact if_pos h
  · rw [State.tick_live hl]
    exact if_neg (by simp only [msPeriods]; omega)
  · rw [State.tick_live hl, tickTimer_eq]
  · rw [State.tick_live hl, tickTimer_eq]
  · rw [State.tick_branch hl]
    refine ⟨fun n h => ?_, fun n h => ?_, fun h => ?_, Receiver.tick_quietGrows _, ?_⟩
    · rw [Branch.tick, h]; rfl
    · rw [Branch.tick, h]; rfl
    · rw [Branch.tick, h]; rfl
    · simp only [Branch.tick, tickTimer_eq]
  · rw [State.tick_live hl]
    refine ⟨fun n h => ?_, fun n h => ?_, fun h => ?_, Receiver.tick_quietGrows _, rfl, fun n h => ?_, fun h => ?_, rfl, rfl⟩
    · simp only [h]; rfl
    · simp only [h]; rfl
    · simp only [h]; rfl
    · simp only [h]; rfl
    · simp only [h]; rfl

/-! ### What comes next -/

/-- An octet is awaited in a live part where it is on some line (assumption log 6). -/
theorem State.octetAwaited_iff {s : State} (hl : s.live = true) : s.octetAwaited = true ↔ OctetIsAwaited s := by
  rw [State.octetAwaited, hl, Bool.true_and, List.any_eq_true]
  constructor
  · rintro ⟨_ | b, -, h⟩
    · exact .inl ((Receiver.octetAwaited_iff ..).1 h)
    · exact .inr ⟨b, (Receiver.octetAwaited_iff ..).1 h⟩
  · rintro (h | ⟨b, h⟩)
    · exact ⟨none, mem_lines _, (Receiver.octetAwaited_iff ..).2 h⟩
    · exact ⟨some b, mem_lines _, (Receiver.octetAwaited_iff ..).2 h⟩

theorem State.live_of_mem_due {s : State} {c : Instr} (h : c ∈ s.due) : s.live = true := by
  unfold State.due at h
  split at h
  · assumption
  · cases h

theorem State.gapInstr_mem_due {s : State} (hl : s.live = true) {l : Option BranchId} (h : l ∈ s.gapLines) :
    gapInstr l ∈ s.due := by
  cases l with
  | none => exact (State.upstreamGap_mem_due hl).2 h
  | some b => exact (State.branchGap_mem_due hl b).2 h

/-- With several choices one of them is made, with a free value used up. -/
theorem State.nextDue_of_several {s : State} (h : 2 ≤ s.choices.length) : s.nextDue.1 ∈ s.choices ∧ s.nextDue.2 = s.drawn := by
  refine ⟨s.nextDue_mem.1, ?_⟩
  unfold State.nextDue
  split
  · rename_i c hc
    simp [hc] at h
  · rfl

/-- A start bit taken where the gap timer of a line has run out (R179). -/
theorem State.startBit_isTaken {s : State} (hl : s.live = true) {l : Option BranchId} (h : l ∈ s.gapLines) :
    StartBitIsTaken s (s.startBit l) := by
  have hdue := State.gapInstr_mem_due hl h
  cases l with
  | none =>
    obtain ⟨os, quiet, straddle, hrx, -⟩ := (Receiver.gapReached_iff ..).1 ((s.mem_gapLines none).1 h)
    refine .inl ⟨os, quiet, straddle, hdue, hrx, ?_⟩
    simp [State.startBit, State.setUpRx, hrx]
  | some b =>
    obtain ⟨os, quiet, straddle, hrx, -⟩ := (Receiver.gapReached_iff ..).1 ((s.mem_gapLines (some b)).1 h)
    refine .inr ⟨b, os, quiet, straddle, hdue, hrx, ?_⟩
    simp [State.startBit, State.setRx, hrx]

theorem step_event {s t : State} {c : Instr} (h : s.pending = []) (hn : s.nextDue = (.event c, t)) : step s = exec c t := by
  simp [step, h, hn]

theorem step_startBit {s t : State} {l : Option BranchId} (h : s.pending = []) (hn : s.nextDue = (.startBit l, t)) :
    step s = .next (t.startBit l) := by
  simp [step, h, hn]

theorem step_period {s t : State} (h : s.pending = []) (hn : s.nextDue = (.period, t)) : step s = .next t.tick := by
  simp [step, h, hn]

theorem step_wait {s t : State} (h : s.pending = []) (hn : s.nextDue = (.wait, t)) : step s = .next t := by
  simp [step, h, hn]

/-- Settles O2: each clause reads off the choice that `nextDue` makes. -/
theorem idleStepsTakeEventsOrTime : Obligations.IdleStepsTakeEventsOrTime := by
  intro s hpending
  refine ⟨fun c hd hup hbr => ?_, fun hseveral => ?_, fun hrun => expiredTimersAreDue (State.live_iff.2 hrun),
    fun hd hrun hw => ?_, fun hd hrun hw => ⟨s.tick, ?_, State.tick_periodPasses (State.live_iff.2 hrun)⟩, fun hrun => ?_⟩
  · have hl : s.live = true := State.live_of_mem_due (c := c) (by simp [hd])
    have hgap : s.gapLines = [] := by
      refine List.eq_nil_iff_forall_not_mem.2 fun l hmem => ?_
      have hc : gapInstr l = c := by simpa [hd] using State.gapInstr_mem_due hl hmem
      cases l with
      | none => exact hup hc.symm
      | some b => exact hbr b hc.symm
    exact step_event hpending (State.nextDue_one hd hgap)
  · have hmem : ∃ c, c ∈ s.due := by
      obtain h | h | ⟨b, h⟩ := hseveral
      · exact List.exists_mem_of_length_pos (by omega)
      · exact ⟨_, h⟩
      · exact ⟨_, h⟩
    obtain ⟨c0, hc0⟩ := hmem
    have hl := State.live_of_mem_due hc0
    have hch : s.choices = s.due.map .event ++ s.gapLines.map .startBit := if_neg (List.ne_nil_of_mem hc0)
    have htwo : 2 ≤ s.choices.length := by
      have hpos := List.length_pos_of_mem hc0
      simp only [hch, List.length_append, List.length_map]
      obtain h | h | ⟨b, h⟩ := hseveral
      · omega
      · have := List.length_pos_of_mem ((State.upstreamGap_mem_due hl).1 h)
        omega
      · have := List.length_pos_of_mem ((State.branchGap_mem_due hl b).1 h)
        omega
    obtain ⟨hmem, hnext⟩ := State.nextDue_of_several htwo
    rw [hch, List.mem_append, List.mem_map, List.mem_map] at hmem
    obtain ⟨c, hc, he⟩ | ⟨l, hg, he⟩ := hmem
    · exact .inl ⟨c, hc, step_event hpending (Prod.ext he.symm hnext)⟩
    · exact .inr ⟨s.drawn.startBit l, step_startBit hpending (Prod.ext he.symm hnext),
        State.startBit_isTaken (s := s.drawn) hl hg⟩
  · refine step_wait hpending ?_
    rw [State.nextDue_none hd, (State.octetAwaited_iff (State.live_iff.2 hrun)).2 hw, if_pos rfl]
  · have hno : s.octetAwaited = false :=
      Bool.eq_false_iff.2 fun h => hw ((State.octetAwaited_iff (State.live_iff.2 hrun)).1 h)
    refine step_period hpending ?_
    rw [State.nextDue_none hd, hno, if_neg Bool.false_ne_true]
  · have hl : s.live = false := by simp [State.live, hrun]
    have hd : s.due = [] := by simp [State.due, hl]
    have hno : s.octetAwaited = false := by simp [State.octetAwaited, hl]
    have hperiod : s.nextDue = (.period, s) := by rw [State.nextDue_none hd, hno, if_neg Bool.false_ne_true]
    rw [step_period hpending hperiod]
    simp [State.tick, hl, Pins.tick, cfgenSteady]

end Sys2Proof.Machine
end

section
/-! PROOFS. An event that is due by the timers comes about. -/

namespace Sys2Proof.Machine

/-- The outcome of a command is a state, or the stop where a slot that is named is free, and a state where every entry stands in
its place. -/
def ComesAbout (s : State) (e : Effect) : Prop :=
  ((∃ t, e = .next t) ∨ e = .fault .entryLost) ∧ (EntriesPlaced s → ∃ t, e = .next t)

theorem ComesAbout.next {s : State} (t : State) : ComesAbout s (.next t) := ⟨.inl ⟨t, rfl⟩, fun _ => ⟨t, rfl⟩⟩

/-- A stop at a free slot, where no slot that is named is free. -/
theorem ComesAbout.lost {s : State} (h : EntriesPlaced s → False) : ComesAbout s (.fault .entryLost) :=
  ⟨.inr rfl, fun hp => (h hp).elim⟩

/-! ### The lines -/

theorem endOfTransmission_comesAbout {s : State} (hl : s.live = true) (hq : QueuesBounded s) (htx : s.up.tx = .sending 0) :
    ComesAbout s (exec .endOfTransmission s) := by
  obtain ⟨-, -, -, hqueue, -⟩ := hq
  obtain ⟨i, rest, hi⟩ := List.exists_cons_of_ne_nil (hqueue 0 htx)
  change ComesAbout s (execEndOfTransmission s)
  rw [execEndOfTransmission, if_pos hl, htx, hi]
  exact .next _

theorem endOfSpacing_comesAbout {s : State} (hl : s.live = true) (htx : s.up.tx = .spacing 0) :
    ComesAbout s (exec .endOfSpacing s) := by
  change ComesAbout s (execEndOfSpacing s)
  rw [execEndOfSpacing, if_pos hl, htx]
  exact .next _

/-- Where every entry stands in its place, a bound item has its frame. -/
theorem EntriesPlaced.attemptFrame {s : State} (h : EntriesPlaced s) (hl : s.live = true) {b : BranchId} {i : BoundItem}
    (hb : (s.branch b).bound = some i) : s.attemptFrame (s.branch b) i ≠ none := by
  obtain ⟨-, hbranch, -⟩ := h (State.live_iff.1 hl)
  obtain ⟨-, -, hstation, hshare, -⟩ := hbranch b
  cases i with
  | station slot =>
    obtain ⟨e, r, hfind, -⟩ := (hstation slot).1 hb
    simp [State.attemptFrame, hfind]
  | share slot =>
    obtain ⟨e, x, hfind, -⟩ := (hshare slot).1 (.inr hb)
    simp [State.attemptFrame, hfind]
  | poll p => simp [State.attemptFrame]
  | failsafe f => simp [State.attemptFrame]

theorem guardComplete_comesAbout {s : State} (hl : s.live = true) (hlines : LinesFollowStates s) {b : BranchId}
    (hd : (s.branch b).guardDone = true) : ComesAbout s (exec (.guardComplete b) s) := by
  have hguard : (s.branch b).state = .guard := ((Branch.guardDone_iff _).1 hd).1
  obtain ⟨i, hi⟩ := Option.isSome_iff_exists.1 ((hlines b).1.2 (.inl hguard))
  change ComesAbout s (execGuardComplete b s)
  simp only [execGuardComplete, hl, hd, hi, if_true]
  cases hf : s.attemptFrame (s.branch b) i with
  | none => exact .lost fun hp => hp.attemptFrame hl hi hf
  | some f => exact .next _

theorem branchEndOfSending_comesAbout {s : State} (hl : s.live = true) (hlines : LinesFollowStates s) {b : BranchId}
    (hd : (s.branch b).sendDone = true) : ComesAbout s (exec (.branchEndOfSending b) s) := by
  obtain ⟨i, hi⟩ := Option.isSome_iff_exists.1 ((hlines b).1.2 (.inr (.inl ((Branch.sendDone_iff _).1 hd).1)))
  change ComesAbout s (execBranchEndOfSending b s)
  simp only [execBranchEndOfSending, hl, hd, hi, if_true]
  cases i <;> exact .next _

theorem replyDeadlineExpiry_comesAbout {s : State} (hl : s.live = true) {b : BranchId}
    (hd : (s.branch b).deadlineDue = true) : ComesAbout s (exec (.replyDeadlineExpiry b) s) := by
  change ComesAbout s (execReplyDeadlineExpiry b s)
  simp only [execReplyDeadlineExpiry, hl, hd, if_true]
  split <;> exact .next _

/-- The events of a branch that its timer alone brings about. -/
theorem dueAtBranch_comesAbout {s : State} (hl : s.live = true) (hlines : LinesFollowStates s) {b : BranchId} {c : Instr}
    (h : c ∈ dueAtBranch (s.branch b) b) : ComesAbout s (exec c s) := by
  obtain ⟨hd, rfl⟩ | ⟨hd, rfl⟩ | ⟨hd, rfl⟩ | ⟨hd, rfl⟩ | ⟨hd, rfl⟩ | ⟨hd, rfl⟩ := mem_dueAtBranch.1 h
  · exact guardComplete_comesAbout hl hlines hd
  · change ComesAbout s (execGuardQuietWaitExpiry b s)
    rw [execGuardQuietWaitExpiry, if_pos hl, if_pos hd]
    exact .next _
  · exact branchEndOfSending_comesAbout hl hlines hd
  · exact replyDeadlineExpiry_comesAbout hl hd
  · change ComesAbout s (execProbeTimerExpiry b s)
    rw [execProbeTimerExpiry, if_pos hl, if_pos hd]
    exact .next _
  · change ComesAbout s (execProbeQuietEnd b s)
    rw [execProbeQuietEnd, if_pos hl, if_pos hd]
    exact .next _

theorem gap_comesAbout {s : State} {l : Option BranchId} (h : l ∈ s.gapLines) : ComesAbout s (exec (gapInstr l) s) := by
  have hgap := (s.mem_gapLines l).1 h
  cases l with
  | none =>
    change ComesAbout s (execUpstreamGap s)
    rw [execUpstreamGap, if_pos (show s.up.rx.gapReached _ = true from hgap)]
    exact .next _
  | some b =>
    change ComesAbout s (execBranchGap b s)
    rw [execBranchGap, if_pos (show (s.branch b).rx.gapReached _ = true from hgap)]
    exact .next _

/-! ### The expiries that belong to no line -/

theorem slotDue_comesAbout {s : State} (hl : s.live = true) (hmap : MapOrdered s.active) (hslots : SlotsFollowMap s) {x : ScanSlot}
    (hx : x ∈ s.scan.slots) (hd : x.dueReached s.clock.ms = true) : ComesAbout s (exec (.slotDue x.addr) s) := by
  have hnodup : (s.scan.slots.map fun x => x.addr).Nodup := by
    rw [hslots (State.live_iff.1 hl)]
    exact hmap.addr_nodup _
  change ComesAbout s (execSlotDue x.addr s)
  rw [execSlotDue, if_pos hl, Scan.find?_of_mem hnodup hx]
  simp only [hd, if_true]
  exact .next _

theorem State.tokenState?_of_mem {s : State} (h : (s.tokens.map fun t => t.addr).Nodup) {t : TokenState} (ht : t ∈ s.tokens) :
    s.tokenState? t.addr = some t := by
  obtain ⟨u, hu⟩ := Option.isSome_iff_exists.1 (show (s.tokenState? t.addr).isSome = true by
    simp only [State.tokenState?, List.find?_isSome, beq_iff_eq]; exact ⟨t, ht, rfl⟩)
  have haddr : u.addr = t.addr := by simpa using List.find?_some hu
  rw [hu, List.inj_on_of_nodup_map h (List.mem_of_find?_eq_some hu) ht haddr]

theorem refillExpiry_comesAbout {s : State} (hl : s.live = true) (hmap : MapOrdered s.active) (htokens : TokensBounded s)
    {t : TokenState} (ht : t ∈ s.tokens) (hd : t.timer = some 0) : ComesAbout s (exec (.refillExpiry t.addr) s) := by
  obtain ⟨haddrs, -⟩ := htokens (State.live_iff.1 hl)
  have hnodup : (s.tokens.map fun t => t.addr).Nodup := by
    rw [haddrs]
    exact hmap.addr_nodup _
  have hmem : t.addr ∈ s.tokens.map fun t => t.addr := List.mem_map_of_mem ht
  rw [haddrs, List.mem_map] at hmem
  obtain ⟨r, hr, hra⟩ := hmem
  obtain ⟨hr, hb⟩ := List.mem_filter.1 hr
  obtain ⟨b, hb⟩ := Option.isSome_iff_exists.1 hb
  have hbudget : ((s.active.record? t.addr).bind fun r => r.budget) = some b := by
    rw [← hra, hmap.record? hr]
    exact hb
  change ComesAbout s (execRefillExpiry t.addr s)
  rw [execRefillExpiry, if_pos hl, State.tokenState?_of_mem hnodup ht, hbudget]
  simp only [hd, if_true]
  exact .next _

theorem silenceExpiry_comesAbout {s : State} (hl : s.live = true) (hd : s.sup.silenceDue = true) :
    ComesAbout s (exec .silenceExpiry s) := by
  change ComesAbout s (execSilenceExpiry s)
  rw [execSilenceExpiry, if_pos hl, if_pos hd]
  exact .next _

/-! ### The takes of the agent -/

/-- The command of an operation takes the head entry where its payload names the operation. -/
theorem exec_opInstr (o : Op) : ∃ act, ∀ s, exec o.instr s = takeOp o act s := by
  cases o <;> exact ⟨_, fun _ => rfl⟩

/-- The take that is due is that of the head entry's payload. -/
theorem exec_takeInstr (s : State) (p : List Octet) :
    ∃ named act, exec (takeInstr p) s = takeHead named act s ∧ named p = true := by
  unfold takeInstr
  split
  · exact ⟨namesNoOperation, _, rfl, rfl⟩
  · rename_i op args
    split
    · rename_i o ho
      obtain ⟨act, hact⟩ := exec_opInstr o
      have hoct : o.octet = op := by simpa using List.find?_some ho
      exact ⟨_, _, hact s, by simp [hoct]⟩
    · rename_i ho
      exact ⟨namesNoOperation, _, rfl, by simp [namesNoOperation, ho]⟩

theorem State.takeReady_eq_some {s : State} {slot : Nat} (h : s.takeReady = some slot) :
    ∃ rest, s.agent.queue = slot :: rest := by
  unfold State.takeReady at h
  split at h
  · split at h
    · rename_i k rest _ hq
      cases h
      exact ⟨rest, hq⟩
    · cases h
  · cases h

theorem dueTake_comesAbout {s : State} (hl : s.live = true) {c : Instr} (h : c ∈ s.dueTake) : ComesAbout s (exec c s) := by
  unfold State.dueTake at h
  split at h
  · rename_i slot hready
    rw [List.mem_singleton.1 h]
    obtain ⟨rest, hqueue⟩ := State.takeReady_eq_some hready
    obtain ⟨named, act, hexec, hnamed⟩ := exec_takeInstr s s.headPayload
    simp only [hexec, takeHead, hready]
    cases hfind : s.table.find? slot with
    | none =>
      refine .lost fun hp => ?_
      obtain ⟨-, -, -, hagent, -⟩ := hp (State.live_iff.1 hl)
      obtain ⟨e, he, -⟩ := (hagent slot).1 (by simp [hqueue])
      rw [hfind] at he
      cases he
    | some e =>
      have hpayload : s.headPayload = e.payload := by simp [State.headPayload, hqueue, hfind]
      rw [hpayload] at hnamed
      simp only [hnamed, if_true]
      exact .next _
  · cases h

/-- Settles O3, event by event. -/
theorem dueEventsComeAbout : Obligations.DueEventsComeAbout := by
  intro s c hlines hqueues hmaps htokens hslots hc
  obtain ⟨hmap, -⟩ := hmaps
  have hl := State.live_of_mem_due hc
  change ComesAbout s (exec c s)
  obtain h | ⟨b, h⟩ | ⟨x, hx, hd, rfl⟩ | ⟨t, ht, hd, rfl⟩ | ⟨hd, rfl⟩ | h | ⟨l, h, rfl⟩ := (State.mem_due hl c).1 hc
  · obtain ⟨htx, rfl⟩ | ⟨htx, rfl⟩ := mem_dueAtTransmitter.1 h
    · exact endOfTransmission_comesAbout hl hqueues htx
    · exact endOfSpacing_comesAbout hl htx
  · exact dueAtBranch_comesAbout hl hlines h
  · exact slotDue_comesAbout hl hmap hslots hx hd
  · exact refillExpiry_comesAbout hl hmap htokens ht hd
  · exact silenceExpiry_comesAbout hl hd
  · exact dueTake_comesAbout hl h
  · exact gap_comesAbout h

end Sys2Proof.Machine
end

section
/-! PROOFS. The arbiter (R68 to R71). -/

namespace Sys2Proof.Machine

/-! ### When the arbiter picks -/

theorem State.arbitrate_of_busy {s : State} {b : BranchId} (h : (s.branch b).state ≠ .idle) : s.arbitrate b = s := by
  unfold State.arbitrate
  rw [if_neg (by simp [h])]

theorem State.arbitrate_of_held {s : State} (h : s.live = false) (b : BranchId) : s.arbitrate b = s := by
  unfold State.arbitrate
  rw [if_neg (by simp [h])]

theorem State.arbitrate_of_claim {s : State} {b : BranchId} {c : Claim} (hl : s.live = true) (hi : (s.branch b).state = .idle)
    (hc : chooseClaim (s.branch b) (s.branchSettings b).burst (s.firstClaim b) = some c) : s.arbitrate b = s.pick b c := by
  unfold State.arbitrate
  rw [if_pos (by simp [hl, hi]), hc]

theorem State.arbitrate_of_noClaim {s : State} {b : BranchId}
    (hc : chooseClaim (s.branch b) (s.branchSettings b).burst (s.firstClaim b) = none) : s.arbitrate b = s := by
  unfold State.arbitrate
  rw [hc]
  split <;> rfl

/-- A branch that is not IDLE stays as it is (R68). -/
theorem State.settle_branch_of_busy {s : State} {b : BranchId} (h : (s.branch b).state ≠ .idle) : s.settle.branch b = s.branch b := by
  have hkeep (c : BranchId) {t : State} (ht : t.branch b = s.branch b) : (t.arbitrate c).branch b = s.branch b := by
    by_cases hbc : b = c
    · subst hbc
      rw [State.arbitrate_of_busy (by rw [ht]; exact h), ht]
    · rw [State.arbitrate_branch_other _ _ _ hbc, ht]
  exact hkeep .b3 (hkeep .b2 (hkeep .b1 (hkeep .b0 rfl)))

/-! ### What a pick leaves -/

theorem State.pick_eq (s : State) (b : BranchId) (c : Claim) : s.pick b c =
    (s.claimTaken c).setBranch b ((s.branch b).afterPick (s.branchSettings b) s.own (s.pollTimeout c) c) := rfl

theorem Branch.afterPick_failsafe (x : Branch) (cfg : BranchSettings) (own : Octet) (n : Nat) (i : FailsafeItem)
    (rest : List FailsafeItem) : x.afterPick cfg own n (.failsafe i rest) =
      { x.pickedFor cfg own (.failsafe i) with failsafe := rest } := by
  simp only [Branch.afterPick, Branch.picked, Branch.beginGuard, Branch.pickedFor, Receiver.rerated_eq]

theorem Branch.afterPick_station (x : Branch) (cfg : BranchSettings) (own : Octet) (n slot : Nat) (rest : List QueueItem) :
    x.afterPick cfg own n (.queued (.station slot) rest) =
      { x.pickedFor cfg own (.station slot) with queue := rest, consec := min 15 (x.consec + 1) } := by
  simp only [Branch.afterPick, Branch.picked, Branch.beginGuard, Branch.pickedFor, Receiver.rerated_eq]

theorem Branch.afterPick_share (x : Branch) (cfg : BranchSettings) (own : Octet) (n slot : Nat) (rest : List QueueItem) :
    x.afterPick cfg own n (.queued (.share slot) rest) =
      { x.pickedFor cfg own (.share slot) with queue := rest, consec := min 15 (x.consec + 1) } := by
  simp only [Branch.afterPick, Branch.picked, Branch.beginGuard, Branch.pickedFor, Receiver.rerated_eq]

theorem Branch.afterPick_poll (x : Branch) (cfg : BranchSettings) (own : Octet) (n : Nat) (p : ScanSlot) :
    x.afterPick cfg own n (.poll p) =
      { x.pickedFor cfg own (.poll { station := p.addr, timeout := n, attempts := 0, sentAt := none, live := true }) with
        consec := 0 } := by
  simp only [Branch.afterPick, Branch.picked, Branch.beginGuard, Branch.pickedFor, Receiver.rerated_eq]

/-! ### The overdue claims -/

theorem State.claimsBranch_iff {s : State} {b : BranchId} {x : ScanSlot} : s.claimsBranch b x = true ↔
    (∃ since, x.schedule = .overdue since) ∧ x.pollBound = false ∧ ∃ r, s.active.record? x.addr = some r ∧ r.branch = b := by
  unfold State.claimsBranch
  cases hx : x.schedule <;> cases hr : s.active.record? x.addr <;> simp

theorem State.mem_overdueClaims {s : State} {b : BranchId} {x : ScanSlot} : x ∈ s.overdueClaims b ↔ Claims s b x := by
  rw [State.overdueClaims, List.mem_filter, State.claimsBranch_iff, Claims]

/-- Of two claims `x` ranks before `y`: it is OVERDUE longer, or as long at the lower address (R70). -/
def ranksBefore (now : Millis) (x y : ScanSlot) : Prop :=
  y.overdueAge now < x.overdueAge now ∨ (y.overdueAge now = x.overdueAge now ∧ x.addr.toNat < y.addr.toNat)

/-- In address order the best of a list of claims ranks before every other. -/
theorem foldr_longerOverdue (now : Millis) (l : List ScanSlot) (h : (l.map fun x => x.addr.toNat).Pairwise (· < ·)) {p : ScanSlot}
    (hp : l.foldr (fun x best => some (longerOverdue now x best)) none = some p) :
    p ∈ l ∧ ∀ y ∈ l, y = p ∨ ranksBefore now p y := by
  induction l generalizing p with
  | nil => cases hp
  | cons x xs ih =>
    rw [List.map_cons, List.pairwise_cons] at h
    obtain ⟨hfirst, hrest⟩ := h
    have hlow (y : ScanSlot) (hy : y ∈ xs) : x.addr.toNat < y.addr.toNat := hfirst _ (List.mem_map_of_mem hy)
    rw [List.foldr_cons, Option.some.injEq] at hp
    cases hbest : xs.foldr (fun x best => some (longerOverdue now x best)) none with
    | none =>
      rw [hbest] at hp
      cases xs with
      | nil => exact ⟨List.mem_singleton.2 hp.symm, fun y hy => .inl ((List.mem_singleton.1 hy).trans hp)⟩
      | cons z zs => simp at hbest
    | some q =>
      obtain ⟨hq, hqbest⟩ := ih hrest hbest
      rw [hbest, longerOverdue] at hp
      split at hp
      · rename_i hlt
        subst hp
        refine ⟨List.mem_cons_of_mem _ hq, fun y hy => ?_⟩
        obtain rfl | hy := List.mem_cons.1 hy
        · exact .inr (.inl hlt)
        · exact hqbest y hy
      · rename_i hge
        subst hp
        refine ⟨List.mem_cons_self .., fun y hy => ?_⟩
        obtain rfl | hy := List.mem_cons.1 hy
        · exact .inl rfl
        · have hxy := hlow y hy
          have hyq : y.overdueAge now ≤ q.overdueAge now := by
            obtain rfl | h | ⟨h, -⟩ := hqbest y hy <;> omega
          right
          unfold ranksBefore
          omega

theorem ScanSlot.overdueAge_of {x : ScanSlot} {since : Millis} (h : x.schedule = .overdue since) (now : Millis) :
    x.overdueAge now = (now - since).toNat := by
  rw [ScanSlot.overdueAge, h]
  rfl

/-- With its slots in address order the arbiter considers the claim that ranks first. -/
theorem State.firstClaim_of {s : State} {b : BranchId} {p : ScanSlot}
    (hs : (s.scan.slots.map fun x => x.addr.toNat).Pairwise (· < ·)) (hp : FirstClaim s b p) : s.firstClaim b = some p := by
  obtain ⟨hclaims, hfirst⟩ := hp
  have hmem := State.mem_overdueClaims.2 hclaims
  have hsorted : ((s.overdueClaims b).map fun x => x.addr.toNat).Pairwise (· < ·) :=
    hs.sublist (List.filter_sublist.map _)
  cases hq : s.firstClaim b with
  | none =>
    rw [State.firstClaim_eq_none hq] at hmem
    cases hmem
  | some q =>
    obtain ⟨hqmem, hqbest⟩ := foldr_longerOverdue s.clock.ms _ hsorted hq
    obtain rfl | hrank := hqbest p hmem
    · rfl
    · have hqclaims := State.mem_overdueClaims.1 hqmem
      obtain ⟨-, ⟨since, hsince⟩, -⟩ := hclaims
      have hqc := hqclaims
      obtain ⟨-, ⟨t, ht⟩, -⟩ := hqc
      rw [ranksBefore, ScanSlot.overdueAge_of hsince, ScanSlot.overdueAge_of ht] at hrank
      by_cases haddr : q.addr = p.addr
      · rw [haddr] at hrank
        have hnodup : ((s.overdueClaims b).map fun x => x.addr.toNat).Nodup := hsorted.imp Nat.ne_of_lt
        rw [List.inj_on_of_nodup_map hnodup hqmem hmem (by rw [haddr])]
      · have := hfirst q since t hqclaims haddr hsince ht
        omega

theorem State.firstClaim_of_none {s : State} {b : BranchId} (h : ∀ y, ¬ Claims s b y) : s.firstClaim b = none := by
  have hnil : s.overdueClaims b = [] := List.eq_nil_iff_forall_not_mem.2 fun y hy => h y (State.mem_overdueClaims.1 hy)
  rw [State.firstClaim, hnil]
  rfl

/-! ### The order of R69 -/

theorem chooseClaim_failsafe {x : Branch} {i : FailsafeItem} {rest : List FailsafeItem} (burst : Nat) (poll : Option ScanSlot)
    (h : x.failsafe = i :: rest) : chooseClaim x burst poll = some (.failsafe i rest) := by
  simp [chooseClaim, h]

theorem chooseClaim_poll {x : Branch} {burst : Nat} {p : ScanSlot} (hf : x.failsafe = []) (h : burst ≤ x.consec ∨ x.queue = []) :
    chooseClaim x burst (some p) = some (.poll p) := by
  simp only [chooseClaim, hf, Branch.queueClaim]
  obtain h | h := h
  · rw [if_pos h]
  · simp [h]

theorem chooseClaim_queued {x : Branch} {burst : Nat} {poll : Option ScanSlot} {q : QueueItem} {rest : List QueueItem}
    (hf : x.failsafe = []) (hq : x.queue = q :: rest) (h : x.consec < burst ∨ poll = none) :
    chooseClaim x burst poll = some (.queued q rest) := by
  obtain h | rfl := h
  · cases poll with
    | none => simp [chooseClaim, hf, Branch.queueClaim, hq]
    | some p => simp [chooseClaim, hf, Branch.queueClaim, hq, h]
  · simp [chooseClaim, hf, Branch.queueClaim, hq]

theorem chooseClaim_empty {x : Branch} (burst : Nat) (hf : x.failsafe = []) (hq : x.queue = []) :
    chooseClaim x burst none = none := by
  simp [chooseClaim, hf, Branch.queueClaim, hq]

/-- A queued item that is first is picked. -/
theorem State.arbitrate_queued {s : State} {b : BranchId} {q : QueueItem} {rest : List QueueItem} (hl : s.live = true)
    (hi : (s.branch b).state = .idle) (hf : (s.branch b).failsafe = []) (hq : (s.branch b).queue = q :: rest)
    (h : (s.branch b).consec < (s.branchSettings b).burst ∨ ∀ y, ¬ Claims s b y) :
    s.arbitrate b = s.pick b (.queued q rest) :=
  State.arbitrate_of_claim hl hi (chooseClaim_queued hf hq (h.imp_right State.firstClaim_of_none))

/-- Settles O29: the claim that `chooseClaim` takes in each case, and what its pick leaves. -/
theorem arbiterPicksByPriority : Obligations.ArbiterPicksByPriority := by
  refine ⟨fun s b => ⟨fun x => State.mem_overdueClaims, List.filter_sublist⟩,
    fun s => ⟨rfl, fun b h => State.settle_branch_of_busy h, fun b h => ?_⟩, fun s b hrun hidle hs => ?_⟩
  · obtain h | h := h
    · exact State.arbitrate_of_held (by simp [State.live, h]) b
    · exact State.arbitrate_of_busy h
  · have hl := State.live_iff.2 hrun
    refine ⟨fun i rest h => ?_, fun p r hf hp hr h => ?_, fun slot rest hf hq h => ?_, fun slot rest hf hq h => ?_,
      fun hf hq h => ?_⟩
    · rw [State.arbitrate_of_claim hl hidle (chooseClaim_failsafe _ _ h), State.pick_eq, Branch.afterPick_failsafe]
      rfl
    · have hclaim := State.firstClaim_of hs hp
      rw [State.arbitrate_of_claim hl hidle (by rw [hclaim]; exact chooseClaim_poll hf h), State.pick_eq, Branch.afterPick_poll,
        State.pollTimeout, hr]
      rfl
    · rw [State.arbitrate_queued hl hidle hf hq h, State.pick_eq, Branch.afterPick_station]
      rfl
    · rw [State.arbitrate_queued hl hidle hf hq h, State.pick_eq, Branch.afterPick_share]
      rfl
    · refine State.arbitrate_of_noClaim ?_
      rw [State.firstClaim_of_none h]
      exact chooseClaim_empty _ hf hq

end Sys2Proof.Machine
end

section
/-! PROOFS. The chain of checks: refusals (R45 to R58). -/

namespace Sys2Proof.Machine

theorem Upstream.append_counters (u : Upstream) (i : OutItem) : (u.append i).counters = u.counters := by
  unfold Upstream.append
  simp only [Upstream.beginHead]
  split
  · split <;> rfl
  · rfl

theorem Upstream.hasRoom_iff (u : Upstream) : u.hasRoom = true ↔ u.queue.length < 8 := decide_eq_true_iff

/-- A refusal, as the claims spell it (R58). -/
theorem State.refuse_eq (s : State) (f : Frame) (r : RefusalReason) : s.refuse f r = s.refusedWith f r.octet := by
  unfold State.refuse State.refusedWith
  by_cases h : s.up.queue.length < 8
  · rw [if_pos ((Upstream.hasRoom_iff _).2 h), if_pos h]
    simp only [Upstream.append_counters]
    rfl
  · rw [if_neg (mt (Upstream.hasRoom_iff _).1 h), if_neg h]

/-- A frame that the chain refuses (R58). -/
theorem exec_validIn_refused {s : State} {f : Frame} {o : Octet} {r : RefusalReason} (hrun : s.seq.run = .running)
    (h : s.up.Arrives f o) (hj : s.heard.judge f = .refuse r) : exec (.validIn o) s = .next (s.heard.refusedWith f r.octet) := by
  rw [exec_validIn_running hrun h, hj, ← State.refuse_eq]
  rfl

/-! ### Steps 1 to 4 of the chain -/

/-- The chain on a frame that has been heard, of a known kind (R45 to R48). -/
theorem State.judge_heard {s : State} {f : Frame} {k : ReqKind} (hk : f.kind = k.octet) : s.heard.judge f =
    if f.dest = 0#8 then .discard
    else if f.dest = s.active.settings.ownAddr then if k = .manage then s.judgeManage f else .refuse .format
    else if k = .manage then .refuse .format
    else if s.sup.state ≠ .normal ∧ (k = .write ∨ k = .command) then .refuse .failsafe
    else if f.dest = 0xFF#8 then s.judgeBroadcast f k
    else s.judgeStation f k := by
  unfold State.judge
  rw [hk, ReqKind.ofOctet?_octet]
  rfl

/-- The kinds of requests to stations, by their octets (R46). -/
theorem stationKind_of_mem {o : Octet} (h : o ∈ [0x10#8, 0x11#8, 0x12#8, 0x13#8]) : ∃ k : ReqKind, k ≠ .manage ∧ o = k.octet := by
  simp only [List.mem_cons, List.not_mem_nil, or_false] at h
  obtain rfl | rfl | rfl | rfl := h
  · exact ⟨.read, nofun, rfl⟩
  · exact ⟨.write, nofun, rfl⟩
  · exact ⟨.command, nofun, rfl⟩
  · exact ⟨.status, nofun, rfl⟩

theorem writeKind_of_mem {o : Octet} (h : o ∈ [0x11#8, 0x12#8]) :
    ∃ k : ReqKind, (k = .write ∨ k = .command) ∧ o = k.octet := by
  simp only [List.mem_cons, List.not_mem_nil, or_false] at h
  obtain rfl | rfl := h
  · exact ⟨.write, .inl rfl, rfl⟩
  · exact ⟨.command, .inr rfl, rfl⟩

/-- Settles O11: steps 2 and 3 of the chain. -/
theorem destinationAndFailsafeRefusals : Obligations.DestinationAndFailsafeRefusals := by
  refine fun s f o hrun harr hdest => ⟨fun hkind hown => ?_, fun hkind hown => ?_, fun hkind hown hsup => ?_⟩
  · obtain ⟨k, hk, hoct⟩ := stationKind_of_mem hkind
    refine exec_validIn_refused (r := .format) hrun harr ?_
    rw [State.judge_heard hoct, if_neg hdest, if_pos hown, if_neg hk]
  · refine exec_validIn_refused (r := .format) hrun harr ?_
    rw [State.judge_heard (k := .manage) hkind, if_neg hdest, if_neg hown, if_pos rfl]
  · obtain ⟨k, hk, hoct⟩ := writeKind_of_mem hkind
    refine exec_validIn_refused (r := .failsafe) hrun harr ?_
    have hmanage : k ≠ .manage := by obtain rfl | rfl := hk <;> exact nofun
    rw [State.judge_heard hoct, if_neg hdest, if_neg hown, if_neg hmanage, if_pos ⟨hsup, hk⟩]

/-! ### Steps 5 to 9: a station request (R49 to R54) -/

theorem judge_of_stationRequest {s : State} {f : Frame} {o : Octet} {k : ReqKind} (h : StationRequest s f o k) :
    s.heard.judge f = s.judgeStation f k := by
  obtain ⟨-, -, hmanage, hkind, hdest, hall, hown, hsup⟩ := h
  have hnot : ¬ (s.sup.state ≠ .normal ∧ (k = .write ∨ k = .command)) := by
    rintro ⟨hn, hk⟩
    obtain h | rfl | rfl := hsup
    · exact hn h
    · simp at hk
    · simp at hk
  rw [State.judge_heard hkind, if_neg hdest, if_neg hown, if_neg hmanage, if_neg hnot, if_neg hall]

theorem refused_of_stationRequest {s : State} {f : Frame} {o : Octet} {k : ReqKind} (h : StationRequest s f o k) {r : RefusalReason}
    (hj : s.judgeStation f k = .refuse r) : exec (.validIn o) s = .next (s.heard.refusedWith f r.octet) :=
  exec_validIn_refused h.1 h.2.1 ((judge_of_stationRequest h).trans hj)

theorem Table.tagHeld_iff {t : Table} {tag : Octet} : t.tagHeld tag = true ↔ ∃ e ∈ t.entries, e.tag = tag := by
  simp [Table.tagHeld]

theorem Table.tagHeld_eq_false {t : Table} {tag : Octet} (h : ∀ e ∈ t.entries, e.tag ≠ tag) : t.tagHeld tag = false := by
  rw [Bool.eq_false_iff, ne_eq, Table.tagHeld_iff]
  rintro ⟨e, he, ht⟩
  exact h e he ht

theorem Table.slotFree_eq_false {t : Table} {n : Nat} (h : ∃ e ∈ t.entries, e.slot = n) : t.slotFree n = false := by
  rw [Bool.eq_false_iff, ne_eq, Table.slotFree_iff]
  obtain ⟨e, he, rfl⟩ := h
  exact fun hfree => hfree e he rfl

/-- A full table has no free slot (R1). -/
theorem Table.lowestFree_full {t : Table} (h : ∀ n, n < 24 → ∃ e ∈ t.entries, e.slot = n) : t.lowestFree = none := by
  unfold Table.lowestFree
  rw [List.find?_eq_none]
  intro n hn
  rw [Table.slotFree_eq_false (h n (List.mem_range.1 hn))]
  simp

theorem Table.lowestFree_some {t : Table} {slot : Nat} (h : slot < 24) (hfree : ∀ e ∈ t.entries, e.slot ≠ slot) :
    ∃ k, t.lowestFree = some k := by
  refine Option.isSome_iff_exists.1 ?_
  unfold Table.lowestFree
  rw [List.find?_isSome]
  exact ⟨slot, List.mem_range.2 h, Table.slotFree_iff.2 hfree⟩

/-- The lowest-numbered free slot is the one that is taken (R1). -/
theorem Table.lowestFree_eq {s : State} {slot : Nat} (h : LowestFree s slot) : s.table.lowestFree = some slot := by
  obtain ⟨hlt, hfree, hbelow⟩ := h
  obtain ⟨k, hk⟩ := Table.lowestFree_some hlt hfree
  obtain ⟨-, hkfree⟩ := Table.lowestFree_spec hk
  have hkslot : ¬ k < slot := fun hks => by
    obtain ⟨e, he, hes⟩ := hbelow k hks
    exact Table.slotFree_iff.1 hkfree e he hes
  have hslotk : ¬ slot < k := fun hsk => by
    have hfalse := (List.find?_range_eq_some.1 hk).2.2 slot hsk
    rw [Table.slotFree_iff.2 hfree] at hfalse
    cases hfalse
  rw [hk, show k = slot by omega]

/-- Step 5 to 9 past the checks on the record and the payload. -/
theorem State.judgeStation_of_record {s : State} {f : Frame} {k : ReqKind} {r : StationRecord} (hr : s.active.record? f.dest = some r)
    (hclass : r.classes.allows k = true) (hshape : shapeOk k f.payload = true)
    (hwindow : k = .write → windowsAllow r.windows f.payload = true) : s.judgeStation f k =
      if (s.branch r.branch).state = .fault ∨ (s.branch r.branch).state = .disabled then .refuse .lineFault
      else if s.table.tagHeld f.tag then .refuse .tagInUse
      else
        match s.table.lowestFree with
        | none => .refuse .busy
        | some slot =>
          if branchQueueSize ≤ (s.branch r.branch).queue.length then .refuse .busy
          else if !s.hasToken r then .refuse .rate
          else .station r k slot := by
  unfold State.judgeStation
  have hno : ¬ (k = .write ∧ (!windowsAllow r.windows f.payload) = true) := by
    rintro ⟨hk, hw⟩
    rw [hwindow hk] at hw
    cases hw
  simp only [hr, hclass, hshape, Bool.not_true, Bool.false_eq_true, if_false, if_neg hno] <;> rfl

/-- Settles O12: the branches of `judgeStation` in their order. -/
theorem stationRequestRefusals : Obligations.StationRequestRefusals := by
  refine fun s f o k hreq => ⟨fun hnone => ?_, fun r hr => ⟨fun hclass => ?_, fun hclass => ⟨fun hshape => ?_, fun hshape =>
    ⟨fun hk hwindow => ?_, fun hwindow => ?_⟩⟩⟩⟩
  · refine refused_of_stationRequest hreq (r := .unknownStation) ?_
    simp [State.judgeStation, hnone]
  · refine refused_of_stationRequest hreq (r := .classSet) ?_
    simp [State.judgeStation, hr, hclass]
  · refine refused_of_stationRequest hreq (r := .format) ?_
    simp [State.judgeStation, hr, hclass, hshape]
  · refine refused_of_stationRequest hreq (r := .window) ?_
    subst hk
    simp [State.judgeStation, hr, hclass, hshape, hwindow]
  · have hjudge := State.judgeStation_of_record hr hclass hshape hwindow
    refine ⟨fun hline => ?_, fun hfault hdisabled => ?_⟩
    · refine refused_of_stationRequest hreq (r := .lineFault) ?_
      rw [hjudge, if_pos hline]
    · rw [if_neg (by simp [hfault, hdisabled])] at hjudge
      refine ⟨fun htag => ?_, fun htag => ?_⟩
      · refine refused_of_stationRequest hreq (r := .tagInUse) ?_
        rw [hjudge, if_pos (Table.tagHeld_iff.2 htag)]
      · rw [Table.tagHeld_eq_false htag, if_neg Bool.false_ne_true] at hjudge
        refine ⟨fun hbusy => ?_, fun slot hslot hfree hqueue hbudget htokens => ?_⟩
        · refine refused_of_stationRequest hreq (r := .busy) ?_
          rw [hjudge]
          obtain hfull | hqueue := hbusy
          · rw [Table.lowestFree_full hfull]
          · split
            · rfl
            · exact if_pos hqueue
        · refine refused_of_stationRequest hreq (r := .rate) ?_
          obtain ⟨k', hk'⟩ := Table.lowestFree_some hslot hfree
          obtain ⟨b, hb⟩ := Option.isSome_iff_exists.1 hbudget
          have hno : s.hasToken r = false := by
            simp [State.hasToken, hb, ConfigSet.record?_addr hr, htokens]
          rw [hjudge, hk']
          simp only [branchQueueSize, hno, Bool.not_false, if_true]
          rw [if_neg (by omega)]

/-! ### Allocation (R1, R2) -/

/-- The table after an allocation in a free slot. -/
theorem State.allocate_allocates {s : State} {e : Entry} (h : s.table.slotFree e.slot = true) : Allocates s (s.allocate e) e := by
  refine ⟨?_, fun n hn => ?_, rfl, rfl, rfl⟩
  · exact (Table.find?_allocate s.table e e.slot h).trans (if_pos rfl)
  · exact (Table.find?_allocate s.table e n h).trans (if_neg hn)

/-! ### Step 10: a management request (R55) -/

theorem State.judge_heard_manage {s : State} {f : Frame} (hdest : f.dest ≠ 0#8) (hown : f.dest = s.active.settings.ownAddr)
    (hkind : f.kind = 0x1F#8) : s.heard.judge f = s.judgeManage f := by
  rw [State.judge_heard (k := .manage) hkind, if_neg hdest, if_pos hown, if_pos rfl]

/-- Settles O14. -/
theorem managementRequestAdmission : Obligations.ManagementRequestAdmission := by
  intro s f o hrun harr hdest hown hkind
  have hjudge : s.heard.judge f = s.judgeManage f := State.judge_heard_manage hdest hown hkind
  unfold State.judgeManage at hjudge
  refine ⟨fun htag => ?_, fun htag => ⟨fun hbusy => ?_, fun slot hlow hqueue => ?_⟩⟩
  · exact exec_validIn_refused (r := .tagInUse) hrun harr (hjudge.trans (if_pos (Table.tagHeld_iff.2 htag)))
  · rw [Table.tagHeld_eq_false htag, if_neg Bool.false_ne_true] at hjudge
    refine exec_validIn_refused (r := .busy) hrun harr (hjudge.trans ?_)
    obtain hfull | hqueue := hbusy
    · rw [Table.lowestFree_full hfull]
    · split
      · rfl
      · exact if_pos hqueue
  · have hmanage : s.heard.judge f = .manage slot := by
      rw [hjudge, Table.tagHeld_eq_false htag, if_neg Bool.false_ne_true, Table.lowestFree_eq hlow]
      exact if_neg (by simp only [agentQueueSize]; omega)
    refine ⟨_, by rw [exec_validIn_running hrun harr, hmanage], ?_⟩
    have hall : Allocates s (s.heard.allocate (freshEntry slot f .manage .manage s.clock.ms))
        (allocated s slot f .manage .manage none none none .queued) :=
      State.allocate_allocates (Table.slotFree_iff.2 hlow.2.1)
    cases hq : s.agent.queue with
    | nil =>
      have hserved : (s.heard.allocate (freshEntry slot f .manage .manage s.clock.ms)).enqueueAgent slot =
          { s.heard.allocate (freshEntry slot f .manage .manage s.clock.ms) with
            agent := { s.agent with queue := [slot], service := .serving (serviceTime s.free) }, free := s.free + 1 } := by
        simp [State.enqueueAgent, State.heard, State.serveNext, State.drawn, hq, State.allocate]
      refine ⟨?_, ?_, ?_, ?_, fun h => absurd rfl h, fun _ => ?_⟩
      all_goals simp only [State.carryOut]
      all_goals rw [show s.heard.clock.ms = s.clock.ms from rfl, hserved]
      · rfl
      · exact hall
      · rfl
      · exact ⟨rfl, rfl⟩
    | cons x xs =>
      have hwaits : (s.heard.allocate (freshEntry slot f .manage .manage s.clock.ms)).enqueueAgent slot =
          { s.heard.allocate (freshEntry slot f .manage .manage s.clock.ms) with
            agent := { s.agent with queue := x :: xs ++ [slot] } } := by
        simp [State.enqueueAgent, State.heard, hq, State.allocate]
      refine ⟨?_, ?_, ?_, ?_, fun _ => ?_, fun h => by cases h⟩
      all_goals simp only [State.carryOut]
      all_goals rw [show s.heard.clock.ms = s.clock.ms from rfl, hwaits]
      · rfl
      · exact hall
      · exact ⟨rfl, rfl⟩

end Sys2Proof.Machine
end

section
/-! PROOFS. Admission: a station request and a broadcast (R54 to R57). -/

namespace Sys2Proof.Machine

/-! ### The arbiters after an admission -/

theorem State.arbitrate_of_unclaimed {s : State} {b : BranchId} (h : s.unclaimed b) : s.arbitrate b = s := by
  by_cases hl : s.live = true
  · by_cases hi : (s.branch b).state = .idle
    · obtain ⟨hf, hq, hc⟩ := h hl hi
      refine State.arbitrate_of_noClaim ?_
      rw [State.firstClaim, hc]
      exact chooseClaim_empty _ hf hq
    · exact State.arbitrate_of_busy hi
  · exact State.arbitrate_of_held (Bool.eq_false_iff.2 hl) b

/-- Where one branch alone may have a claimant, its arbiter alone has something to do (R68). -/
theorem State.settle_of_one {s : State} {b : BranchId} (h : ∀ c, c ≠ b → s.unclaimed c) : s.settle = s.arbitrate b := by
  have hbefore {c : BranchId} (hc : c ≠ b) : s.arbitrate c = s := State.arbitrate_of_unclaimed (h c hc)
  have hafter {c : BranchId} (hc : c ≠ b) : (s.arbitrate b).arbitrate c = s.arbitrate b :=
    State.arbitrate_of_unclaimed (State.arbitrate_keeps_unclaimed (h c hc))
  unfold State.settle
  cases b with
  | b0 => rw [hafter (c := .b1) (by decide), hafter (c := .b2) (by decide), hafter (c := .b3) (by decide)]
  | b1 => rw [hbefore (c := .b0) (by decide), hafter (c := .b2) (by decide), hafter (c := .b3) (by decide)]
  | b2 => rw [hbefore (c := .b0) (by decide), hbefore (c := .b1) (by decide), hafter (c := .b3) (by decide)]
  | b3 => rw [hbefore (c := .b0) (by decide), hbefore (c := .b1) (by decide), hbefore (c := .b2) (by decide)]

/-- What the claims of a branch depend on. -/
theorem State.unclaimed_of_eq {s t : State} {b : BranchId} (h : s.unclaimed b) (hl : t.live = s.live) (ha : t.active = s.active)
    (hs : t.scan = s.scan) (hb : t.branch b = s.branch b) : t.unclaimed b := by
  unfold State.unclaimed at h ⊢
  rw [hl, hb, State.overdueClaims_congr ha (by rw [hs])]
  exact h

/-! ### A station request (R54) -/

/-- The state in which an admitted station request stands at the tail of its queue. -/
def State.withRequest (s : State) (f : Frame) (k : ReqKind) (r : StationRecord) (slot : Nat) : State :=
  ((s.heard.takeToken r).allocate (stationEntry slot f k r s.clock.ms)).enqueue r.branch (.station slot)

theorem State.withRequest_frame (s : State) (f : Frame) (k : ReqKind) (r : StationRecord) (slot : Nat) :
    s.withRequest f k r slot = { s.heard with
      table := s.table.allocate (stationEntry slot f k r s.clock.ms), tokens := (s.heard.takeToken r).tokens
      branches := s.branches.set r.branch
        { s.branch r.branch with queue := (s.branch r.branch).queue ++ [.station slot] } } := by
  rw [State.withRequest, State.takeToken_frame]
  rfl

theorem State.withRequest_branch_self (s : State) (f : Frame) (k : ReqKind) (r : StationRecord) (slot : Nat) :
    (s.withRequest f k r slot).branch r.branch =
      { s.branch r.branch with queue := (s.branch r.branch).queue ++ [.station slot] } := by
  rw [State.withRequest_frame]
  exact Quad.get_set_self ..

theorem State.withRequest_branch_other (s : State) (f : Frame) (k : ReqKind) (r : StationRecord) (slot : Nat) {c : BranchId}
    (h : c ≠ r.branch) : (s.withRequest f k r slot).branch c = s.branch c := by
  rw [State.withRequest_frame]
  exact Quad.get_set_other _ _ _ _ h

/-- The tokens after an admission: one taken where the record has a budget (R60). -/
theorem State.takeToken_tokens (s : State) (r : StationRecord) : (r.budget = none → (s.takeToken r).tokens = s.tokens)
    ∧ ∀ b, r.budget = some b → (s.takeToken r).tokens = s.tokens.map fun x =>
        if x.addr = r.addr then
          { x with count := x.count - 1
                   timer := if x.count = b.depth then some (b.refill * 10 * 18432) else x.timer }
        else x := by
  refine ⟨fun h => ?_, fun b h => ?_⟩
  · simp only [State.takeToken, h]
  · simp only [State.takeToken, h]
    rfl

/-- Every other branch is as it was, and so has no claimant. -/
theorem State.withRequest_unclaimed {s : State} (h : NoIdleClaim s) (f : Frame) (k : ReqKind) (r : StationRecord) (slot : Nat)
    {c : BranchId} (hc : c ≠ r.branch) : (s.withRequest f k r slot).unclaimed c := by
  refine State.unclaimed_of_eq ((noIdleClaim_iff s).1 h c) ?_ ?_ ?_ (s.withRequest_branch_other f k r slot hc)
  all_goals rw [State.withRequest_frame]; rfl

/-- An IDLE branch takes the request up at once (R68, R71). -/
theorem State.withRequest_picked {s : State} (h : NoIdleClaim s) (hrun : s.seq.run = .running) (f : Frame) (k : ReqKind)
    (r : StationRecord) (slot : Nat) (hi : (s.branch r.branch).state = .idle) : (s.withRequest f k r slot).arbitrate r.branch =
      ((s.withRequest f k r slot).updateEntry slot fun e => { e with state := .onLine }).setBranch r.branch
        { (s.branch r.branch).pickedFor (s.branchSettings r.branch) s.active.settings.ownAddr (.station slot) with
          consec := min 15 ((s.branch r.branch).consec + 1) } := by
  obtain ⟨hf, hq, hclaims⟩ := h (by simp [hrun]) _ hi
  have hself := s.withRequest_branch_self f k r slot
  have hno : ∀ y, ¬ Claims (s.withRequest f k r slot) r.branch y := fun y hy => by
    have := State.mem_overdueClaims.2 hy
    rw [State.overdueClaims_congr (s := s) (by rw [State.withRequest_frame]; rfl) (by rw [State.withRequest_frame]; rfl), hclaims] at this
    cases this
  rw [State.arbitrate_queued (rest := []) (q := .station slot) (by rw [State.withRequest_frame, State.live_iff]; simp [State.heard, hrun])
    (by rw [hself]; exact hi) (by rw [hself]; exact hf) (by rw [hself, hq]; rfl) (.inr hno), State.pick_eq,
    Branch.afterPick_station, hself]
  rw [State.withRequest_frame]
  simp only [Branch.pickedFor, hq]
  rfl

/-- Settles O13: the request stands at the tail of its queue, and where the branch was IDLE its arbiter picks it. -/
theorem stationRequestIsAdmitted : Obligations.StationRequestIsAdmitted := by
  intro s f o k r slot hreq hidle hr hclass hshape hwindow hfault hdisabled htag hlow hqueue hbudget
  have haddr : r.addr = f.dest := ConfigSet.record?_addr hr
  have htoken : s.hasToken r = true := by
    unfold State.hasToken
    cases hb : r.budget with
    | none => rfl
    | some b =>
      have := hbudget (by rw [hb]; rfl)
      simp [haddr, this]
  have hjudge : s.heard.judge f = .station r k slot := by
    rw [judge_of_stationRequest hreq, State.judgeStation_of_record hr hclass hshape hwindow, if_neg (by simp [hfault, hdisabled]),
      Table.tagHeld_eq_false htag, if_neg Bool.false_ne_true, Table.lowestFree_eq hlow]
    simp only [branchQueueSize, htoken]
    rw [if_neg (by omega)]
    rfl
  have hrun : s.seq.run = .running := hreq.1
  have hexec : exec (.validIn o) s = .next ((s.withRequest f k r slot).arbitrate r.branch) := by
    rw [exec_validIn_running hrun hreq.2.1, hjudge,
      ← State.settle_of_one fun c hc => State.withRequest_unclaimed hidle f k r slot hc]
    rfl
  obtain ⟨hnone, hsome⟩ := s.heard.takeToken_tokens r
  have hfree : s.table.slotFree slot = true := Table.slotFree_iff.2 hlow.2.1
  have hallocates : Allocates s (s.withRequest f k r slot)
      (allocated s slot f .station k (some f.dest) (some ⟨r.branch, r.timeout, r.retries⟩) none .queued) := by
    rw [State.withRequest_frame]
    exact State.allocate_allocates (s := s) hfree
  rw [haddr] at hsome
  refine ⟨_, hexec, ?_⟩
  by_cases hi : (s.branch r.branch).state = .idle
  · have hupdate (n : Nat) := Table.find?_update (s.withRequest f k r slot).table slot n (fun e => { e with state := .onLine })
      fun _ => rfl
    rw [State.withRequest_picked hidle hrun f k r slot hi]
    refine ⟨?_, fun h => ?_, fun b h => ?_, fun b hb => ?_, fun h => absurd hi h, fun _ => ⟨⟨?_, fun n hn => ?_, ?_⟩, ?_⟩⟩
    · rw [State.withRequest_frame]
      rfl
    · rw [State.withRequest_frame]
      exact hnone h
    · rw [State.withRequest_frame]
      exact hsome b h
    · rw [State.branch_setBranch_other _ _ _ _ hb]
      exact s.withRequest_branch_other f k r slot hb
    · refine (hupdate slot).trans ?_
      rw [if_pos rfl]
      exact congrArg _ hallocates.1
    · refine (hupdate n).trans ?_
      rw [if_neg (show n ≠ slot from hn)]
      exact hallocates.2.1 n hn
    · exact hallocates.2.2
    · exact State.branch_setBranch_self ..
  · rw [State.arbitrate_of_busy (by rw [State.withRequest_branch_self]; exact hi)]
    refine ⟨?_, fun h => ?_, fun b h => ?_, fun b hb => ?_, fun _ => ⟨hallocates, ?_⟩, fun h => absurd h hi⟩
    · rw [State.withRequest_frame]
    · rw [State.withRequest_frame]
      exact hnone h
    · rw [State.withRequest_frame]
      exact hsome b h
    · exact s.withRequest_branch_other f k r slot hb
    · exact s.withRequest_branch_self f k r slot

/-! ### A broadcast (R56, R57) -/

/-- The arbiter of a branch that may have broadcast shares to send, and nothing else. -/
def Branch.sharePicked (x : Branch) (cfg : BranchSettings) (own : Octet) : Branch :=
  match x.state, x.queue with
  | .idle, .share slot :: rest =>
    { x.pickedFor cfg own (.share slot) with queue := rest, consec := min 15 (x.consec + 1) }
  | _, _ => x

/-- An IDLE branch has no claimants but broadcast shares. -/
def SharesAlone (s : State) : Prop :=
  ∀ b, (s.branch b).state = .idle →
    (s.branch b).failsafe = [] ∧ s.overdueClaims b = [] ∧ ∀ q ∈ (s.branch b).queue, ∃ slot, q = .share slot

theorem SharesAlone.arbitrate {s : State} (h : SharesAlone s) (hl : s.live = true) (b : BranchId) :
    s.arbitrate b = s.setBranch b ((s.branch b).sharePicked (s.branchSettings b) s.own) := by
  by_cases hi : (s.branch b).state = .idle
  · obtain ⟨hf, hc, hq⟩ := h b hi
    have hno : ∀ y, ¬ Claims s b y := fun y hy => by
      have := State.mem_overdueClaims.2 hy
      rw [hc] at this
      cases this
    cases hqueue : (s.branch b).queue with
    | nil =>
      rw [State.arbitrate_of_unclaimed fun _ _ => ⟨hf, hqueue, hc⟩, Branch.sharePicked, hi, hqueue, State.setBranch_branch]
    | cons q rest =>
      obtain ⟨slot, rfl⟩ := hq q (by rw [hqueue]; exact List.mem_cons_self ..)
      rw [State.arbitrate_queued hl hi hf hqueue (.inr hno), State.pick_eq, Branch.afterPick_share, Branch.sharePicked, hi, hqueue]
      rfl
  · rw [State.arbitrate_of_busy hi, Branch.sharePicked]
    split
    · rename_i hidle _
      exact absurd hidle hi
    · rw [State.setBranch_branch]

theorem Branch.sharePicked_busy_or_same (x : Branch) (cfg : BranchSettings) (own : Octet) :
    (x.sharePicked cfg own).state = .guard ∨ x.sharePicked cfg own = x := by
  unfold Branch.sharePicked
  split
  · exact .inl rfl
  · exact .inr rfl

theorem SharesAlone.arbitrate_keeps {s : State} (h : SharesAlone s) (hl : s.live = true) (b : BranchId) :
    SharesAlone (s.arbitrate b) := by
  rw [h.arbitrate hl]
  intro c hc
  rw [State.overdueClaims_congr (s := s) (State.setBranch_active ..) (by rw [State.setBranch_scan])]
  by_cases hcb : c = b
  · subst hcb
    rw [State.branch_setBranch_self] at hc ⊢
    obtain hguard | hsame := (s.branch c).sharePicked_busy_or_same (s.branchSettings c) s.own
    · rw [hguard] at hc
      cases hc
    · rw [hsame] at hc ⊢
      exact h c hc
  · rw [State.branch_setBranch_other _ _ _ _ hcb] at hc ⊢
    exact h c hc

/-- The arbiters where IDLE branches have shares alone: each takes the head of its queue. -/
theorem SharesAlone.settle {s : State} (h : SharesAlone s) (hl : s.live = true) :
    s.settle = { s with branches := s.settle.branches }
    ∧ ∀ b, s.settle.branch b = (s.branch b).sharePicked (s.branchSettings b) s.own := by
  have h0 := h.arbitrate hl .b0
  have k0 := h.arbitrate_keeps hl .b0
  rw [h0] at k0
  have h1 := k0.arbitrate hl .b1
  have k1 := k0.arbitrate_keeps hl .b1
  rw [h1] at k1
  have h2 := k1.arbitrate hl .b2
  have k2 := k1.arbitrate_keeps hl .b2
  rw [h2] at k2
  have h3 := k2.arbitrate hl .b3
  unfold State.settle
  rw [h0, h1, h2, h3]
  refine ⟨rfl, fun b => ?_⟩
  cases b <;> rfl

/-- The state in which an admitted broadcast has its shares in the queues. -/
def State.withShares (s : State) (f : Frame) (slot : Nat) : State :=
  BranchId.all.foldl (fun t b => t.enqueueShare slot s.eligibleSet b) (s.heard.allocate (broadcastEntry slot f s.eligibleSet s.clock.ms))

theorem State.enqueueShare_eq (s : State) (slot : Nat) (el : Quad Bool) (b : BranchId) : s.enqueueShare slot el b =
    s.setBranch b (if el.get b then { s.branch b with queue := (s.branch b).queue ++ [.share slot] } else s.branch b) := by
  unfold State.enqueueShare State.enqueue
  split
  · rfl
  · rw [State.setBranch_branch]

theorem State.enqueueShare_branch (s : State) (slot : Nat) (el : Quad Bool) (b c : BranchId) : (s.enqueueShare slot el b).branch c =
    if c = b ∧ el.get b = true then { s.branch b with queue := (s.branch b).queue ++ [.share slot] } else s.branch c := by
  rw [State.enqueueShare_eq]
  by_cases hc : c = b
  · subst hc
    rw [State.branch_setBranch_self]
    simp
  · rw [State.branch_setBranch_other _ _ _ _ hc, if_neg fun h => hc h.1]

theorem State.withShares_frame (s : State) (f : Frame) (slot : Nat) : s.withShares f slot = { s.heard with
    table := s.table.allocate (broadcastEntry slot f s.eligibleSet s.clock.ms), branches := (s.withShares f slot).branches } := by
  simp only [State.withShares, BranchId.all, List.foldl_cons, List.foldl_nil, State.enqueueShare_eq]
  rfl

theorem State.withShares_branch (s : State) (f : Frame) (slot : Nat) (b : BranchId) : (s.withShares f slot).branch b =
    if s.eligible b then { s.branch b with queue := (s.branch b).queue ++ [.share slot] } else s.branch b := by
  simp only [State.withShares, BranchId.all, List.foldl_cons, List.foldl_nil, State.enqueueShare_branch, State.eligibleSet_get,
    State.allocate_branch]
  cases b <;> simp <;> rfl

theorem State.withShares_sharesAlone {s : State} (hrun : s.seq.run = .running) (h : NoIdleClaim s) (f : Frame) (slot : Nat) :
    SharesAlone (s.withShares f slot) := by
  intro b hb
  have hstate : ((s.withShares f slot).branch b).state = (s.branch b).state := by
    rw [State.withShares_branch]
    split <;> rfl
  obtain ⟨hf, hq, hc⟩ := h (by simp [hrun]) b (hstate ▸ hb)
  refine ⟨?_, ?_, ?_⟩
  · rw [State.withShares_branch]
    split <;> exact hf
  · have hactive : (s.withShares f slot).active = s.active := by rw [State.withShares_frame]; rfl
    have hscan : (s.withShares f slot).scan.slots = s.scan.slots := by rw [State.withShares_frame]; rfl
    rw [State.overdueClaims_congr hactive hscan]
    exact hc
  · rw [State.withShares_branch]
    split
    · simp [hq]
    · simp [hq]

theorem emptySet_eligible_iff {s : State} : emptySet s.eligibleSet = true ↔ ∀ b, s.eligible b = false := by
  simp only [emptySet, State.eligibleSet, Bool.and_eq_true, Bool.not_eq_true']
  constructor
  · rintro ⟨⟨⟨h0, h1⟩, h2⟩, h3⟩ b
    cases b <;> assumption
  · intro h
    exact ⟨⟨⟨h .b0, h .b1⟩, h .b2⟩, h .b3⟩

theorem shapeOk_command_iff {p : List Octet} : shapeOk .command p = true ↔ 1 ≤ p.length ∧ p.length ≤ 33 :=
  requestShapesAndWindows.2.2.1 p

theorem branch_mem_all (b : BranchId) : b ∈ BranchId.all := by cases b <;> decide

/-- Settles O15: the branches of `judgeBroadcast` in their order, and the shares in the queues. -/
theorem broadcastAdmission : Obligations.BroadcastAdmission := by
  intro s f o k hrun harr hmanage hkind hall hown hsup eligible refusal
  have hel : eligible = s.eligible := rfl
  have hjudge : s.heard.judge f = s.judgeBroadcast f k := by
    have hnot : ¬ (s.sup.state ≠ .normal ∧ (k = .write ∨ k = .command)) := by
      rintro ⟨hn, hk⟩
      obtain h | rfl | rfl := hsup
      · exact hn h
      · simp at hk
      · simp at hk
    rw [State.judge_heard hkind, if_neg (by rw [hall]; decide), if_neg hown, if_neg hmanage, if_neg hnot, if_pos hall]
  unfold State.judgeBroadcast at hjudge
  have hrefused {r : RefusalReason} (h : s.heard.judge f = .refuse r) : refusal r.octet := exec_validIn_refused hrun harr h
  refine ⟨fun hk => ?_, fun hk hpayload => ?_, fun hk hne hlen => ?_⟩
  · rw [if_pos hk] at hjudge
    exact hrefused (r := .noBroadcast) hjudge
  · have hshape : shapeOk .command f.payload = false := by
      rw [Bool.eq_false_iff, ne_eq, shapeOk_command_iff]
      obtain h | h := hpayload
      · simp [h]
      · omega
    rw [if_neg (not_not.2 hk), hshape, Bool.not_false, if_pos rfl] at hjudge
    exact hrefused (r := .format) hjudge
  · have hshape : shapeOk .command f.payload = true := shapeOk_command_iff.2 ⟨List.length_pos_of_ne_nil hne, hlen⟩
    rw [if_neg (not_not.2 hk), hshape, Bool.not_true, if_neg Bool.false_ne_true] at hjudge
    refine ⟨fun hnone => ?_, fun ⟨c, hc⟩ => ?_⟩
    · rw [if_pos (emptySet_eligible_iff.2 hnone)] at hjudge
      exact hrefused (r := .noBroadcast) hjudge
    · have hsome : ¬ emptySet s.eligibleSet = true := by
        rw [emptySet_eligible_iff]
        intro h
        rw [hel, h c] at hc
        cases hc
      rw [if_neg hsome] at hjudge
      refine ⟨fun htag => ?_, fun htag => ?_⟩
      · rw [if_pos (Table.tagHeld_iff.2 htag)] at hjudge
        exact hrefused (r := .tagInUse) hjudge
      · rw [Table.tagHeld_eq_false htag, if_neg Bool.false_ne_true] at hjudge
        refine ⟨fun hbusy => ?_, fun slot hlow hroom hidle => ?_⟩
        · refine hrefused (r := .busy) (hjudge.trans ?_)
          obtain hfull | ⟨b, hb, hqueue⟩ := hbusy
          · rw [Table.lowestFree_full hfull]
          · split
            · rfl
            · refine if_pos ?_
              rw [List.any_eq_true]
              exact ⟨b, branch_mem_all b, Bool.and_eq_true_iff.2 ⟨hb, decide_eq_true hqueue⟩⟩
        · have hbroadcast : s.heard.judge f = .broadcast s.eligibleSet slot := by
            rw [hjudge, Table.lowestFree_eq hlow]
            refine if_neg ?_
            rw [List.any_eq_true]
            rintro ⟨b, -, hb⟩
            obtain ⟨he, hfull⟩ := Bool.and_eq_true_iff.1 hb
            exact absurd (hroom b he) (Nat.not_lt.2 (of_decide_eq_true hfull))
          have hexec : exec (.validIn o) s = .next (s.withShares f slot).settle := by
            rw [exec_validIn_running hrun harr, hbroadcast]
            rfl
          have hlive : (s.withShares f slot).live = true := by
            rw [State.withShares_frame, State.live_iff]
            simp [State.heard, hrun]
          obtain ⟨hframe, hbranch⟩ := (State.withShares_sharesAlone hrun hidle f slot).settle hlive
          refine ⟨_, hexec, ?_, ?_, fun b => ?_⟩
          · rw [hframe, State.withShares_frame]
          · rw [hframe, State.withShares_frame]
            exact State.allocate_allocates (s := s) (Table.slotFree_iff.2 hlow.2.1)
          · rw [hbranch, State.withShares_branch, hel]
            have hcfg : (s.withShares f slot).branchSettings b = s.branchSettings b := by rw [State.withShares_frame]; rfl
            have hownAddr : (s.withShares f slot).own = s.active.settings.ownAddr := by rw [State.withShares_frame]; rfl
            rw [hcfg, hownAddr]
            refine ⟨fun he => ?_, fun he hi => ?_, fun he hi => ?_⟩
            · rw [he, if_neg Bool.false_ne_true, Branch.sharePicked]
              split
              · rename_i slot' rest hidleb hqueue
                rw [(hidle (by simp [hrun]) b hidleb).2.1] at hqueue
                cases hqueue
              · rfl
            · rw [he, if_pos rfl, Branch.sharePicked]
              split
              · rename_i hidleb _
                exact absurd hidleb hi
              · rfl
            · have hq := (hidle (by simp [hrun]) b hi).2.1
              rw [he, if_pos rfl, Branch.sharePicked]
              simp only [hi, hq, List.nil_append, Branch.pickedFor]

end Sys2Proof.Machine
end

section
/-! PROOFS. The transmitter (R130, R131), and the pins that hold the part reset or start it cold (R163, R181). -/

namespace Sys2Proof.Machine

/-! ### The end of a transmission -/

theorem exec_endOfTransmission {s : State} {i : OutItem} {rest : List OutItem} (hl : s.seq.run ≠ .loading)
    (htx : s.up.tx = .sending 0) (hq : s.up.queue = i :: rest) : exec .endOfTransmission s = .next (s.transmitted i) := by
  change execEndOfTransmission s = _
  simp only [execEndOfTransmission, State.live_iff.2 hl, if_true, htx, hq]

theorem exec_endOfSpacing {s : State} (hl : s.seq.run ≠ .loading) (htx : s.up.tx = .spacing 0) :
    exec .endOfSpacing s = .next { s with up := s.up.beginHead } := by
  change execEndOfSpacing s = _
  simp only [execEndOfSpacing, State.live_iff.2 hl, if_true, htx]

/-- A transmitter in SPACING leaves a new frame waiting (R130). -/
theorem Upstream.append_spacing {u : Upstream} {n : Nat} (h : u.tx = .spacing n) (i : OutItem) :
    u.append i = { u with queue := u.queue ++ [i] } := by
  simp [Upstream.append, h]

/-- Without a restart the end of a transmission is the sending of the item (R131). -/
theorem State.restarted_of_noRestart (s : State) {n : ReleaseNote} (h : ∀ k x, n ≠ .entryRestart k x) : s.restarted n = s := by
  cases n with
  | entryRestart k x => exact absurd rfl (h k x)
  | entry | entryRate | refusal => rfl

/-- The RETURNING entry that goes to the tail of the queue, with the head item gone and its slot released (R14, R131). -/
theorem State.promote_released {s : State} {n : ReleaseNote} {slot : Nat} {more : List Nat} {e : Entry} {g : Frame}
    (hret : s.table.returning = slot :: more) (he : (s.release n).table.find? slot = some e) (hg : e.reply = some g) :
    (s.itemGone.release n).promote = { s with
      table := { (s.release n).table.update slot (fun e => { e with state := .outbound }) with returning := more }
      up := { s.up with queue := s.up.queue.tail ++ [{ frame := g, note := releaseNote e g }], tx := .spacing 0
                        counters := { s.up.counters with framesOut := bump s.up.counters.framesOut } } } := by
  have hfind : (s.itemGone.release n).table.find? slot = some e := by rw [← he]; cases n <;> rfl
  rw [State.promote_answered (by rw [State.release_returning]; exact hret) hfind hg,
    Upstream.append_spacing (n := 0) (by rw [State.release_up]; rfl)]
  cases n <;> rfl

/-- Settles O16: what becomes of the item, of the line and of the oldest RETURNING entry. -/
theorem transmissionAndSpacingEnd : Obligations.TransmissionAndSpacingEnd := by
  refine ⟨fun s i rest hl htx hq hno => ⟨fun hret => ?_, fun slot more e g hret he hg => ?_⟩,
    fun s hl htx => ⟨fun hq => ?_, fun i rest hq => ?_⟩⟩
  · rw [exec_endOfTransmission hl htx hq, State.transmitted_eq, State.restarted_of_noRestart _ hno, State.sent,
      State.promote_nothing (by rw [State.release_returning]; exact hret)]
    obtain ⟨f, n⟩ := i
    cases n with
    | entryRestart k x => exact absurd rfl (hno k x)
    | entry | entryRate | refusal =>
      simp [State.itemGone, State.release, State.rateChange, State.startSpacing, Table.free, hq, Receiver.rerated_eq, spacingChars]
  · have hfind : (s.release i.note).table.find? slot = some e := by
      obtain ⟨f, n⟩ := i
      cases n with
      | entryRestart k x => exact absurd rfl (hno k x)
      | entry | entryRate | refusal => exact he
    rw [exec_endOfTransmission hl htx hq, State.transmitted_eq, State.restarted_of_noRestart _ hno, State.sent,
      State.promote_released hret hfind hg]
    obtain ⟨f, n⟩ := i
    cases n with
    | entryRestart k x => exact absurd rfl (hno k x)
    | entry | entryRate | refusal =>
      simp [State.release, State.rateChange, State.startSpacing, Table.free, Table.update, hq, Receiver.rerated_eq, spacingChars]
  · simp [exec_endOfSpacing hl htx, Upstream.beginHead, hq]
  · simp [exec_endOfSpacing hl htx, Upstream.beginHead, hq, Frame.chars]

/-! ### The store as a cold start finds it -/

theorem ImageSlot.classified_eq (c : ImageSlot) :
    c.classified = stateByMarks c.header c.verify (c.checkGood && c.image.isSome) c.retire := by
  unfold ImageSlot.classified ImageSlot.checked stateByMarks
  cases c.header <;> cases c.verify <;> cases (c.checkGood && c.image.isSome) <;> cases c.retire <;> rfl

theorem newestFrom_none {cs : List ImageSlot} (h : ∀ c ∈ cs, c.state ≠ .valid) (k : Nat) : newestFrom k cs = none := by
  induction cs generalizing k with
  | nil => rfl
  | cons c cs ih =>
    have hc := h c (List.mem_cons_self ..)
    simp only [newestFrom, ih (fun d hd => h d (List.mem_cons_of_mem _ hd))]
    split
    · rename_i hv _
      exact absurd hv hc
    · rfl

/-- The highest-numbered VALID slot is the one loaded (R163). -/
theorem newestFrom_some {cs : List ImageSlot} {i : Nat} {c : ImageSlot} {image : ConfigSet} (hc : cs[i]? = some c)
    (hv : c.state = .valid) (hi : c.image = some image) (hlast : ∀ j d, i < j → cs[j]? = some d → d.state ≠ .valid) (k : Nat) :
    newestFrom k cs = some (k + i, image) := by
  induction cs generalizing k i with
  | nil => cases hc
  | cons x xs ih =>
    rw [newestFrom]
    cases i with
    | zero =>
      have hrest : ∀ d ∈ xs, d.state ≠ .valid := fun d hd => by
        obtain ⟨j, hj⟩ := List.mem_iff_getElem?.1 hd
        exact hlast (j + 1) d (Nat.succ_pos j) (by simpa using hj)
      cases Option.some.inj hc
      rw [newestFrom_none hrest]
      simp only [hv, hi]
      rfl
    | succ i =>
      rw [ih (i := i) hc (fun j d hj hd => hlast (j + 1) d (by omega) (by simpa using hd))]
      simp only [Option.some.injEq, Prod.mk.injEq, and_true]
      omega

/-! ### A cold start begins (R163) -/

theorem State.coldBegun_slot? (s : State) (cause : StartCause) (k : Nat) : (s.coldBegun cause).store.slot? k =
    (s.store.slot? k).map fun c =>
      let good := c.checkGood && Config.checkHolds s.free k
      { c with checkGood := good, state := stateByMarks c.header c.verify (good && c.image.isSome) c.retire } := by
  refine (Store.classify_aged_slot? s.store _ k).trans (congrArg₂ _ (funext fun c => ?_) rfl)
  simp only [ImageSlot.classified_eq]

theorem State.coldBegun_begun (s : State) (cause : StartCause) : ColdStartBegun s (s.coldBegun cause) cause := by
  refine ⟨rfl, rfl, rfl, rfl, ?_, fun k c hc => ?_, fun k c image hc hv hi hlast => ?_, fun hnone => ?_, fun b => ?_, rfl, rfl,
    rfl⟩
  · simp [State.coldBegun, Store.classify, Store.aged]
  · rw [State.coldBegun_slot?, hc]
    rfl
  · have hnewest : ((s.store.aged (Config.checkHolds s.free)).classify).newest = some (k, image) :=
      (newestFrom_some hc hv hi hlast 0).trans (by rw [Nat.zero_add])
    simp [State.coldBegun, hnewest]
  · have hnewest : ((s.store.aged (Config.checkHolds s.free)).classify).newest = none := newestFrom_none hnone 0
    simp [State.coldBegun, hnewest]
  · exact Quad.get_map ..

/-! ### The part held reset (R181) -/

theorem State.resetBegun_pins (s : State) : s.resetBegun.pins = s.pins := by
  unfold State.resetBegun State.cutStore
  split <;> rfl

theorem State.resetBegun_held (s : State) (p : Pins) : HeldReset s ({ s with pins := p } : State).resetBegun := by
  unfold State.resetBegun State.cutStore
  cases hb : s.store.busy with
  | idle =>
    have hsave (k : Nat) : s.store.busy ≠ .saving k := by simp [hb]
    have hretire (k : Nat) : s.store.busy ≠ .retiring k := by simp [hb]
    exact ⟨rfl, fun b => Quad.get_map .., rfl, rfl, hb, fun _ => rfl, fun k _ h => absurd h (hsave k),
      fun k _ h => absurd h (hretire k), fun _ k h => absurd h (not_or.2 ⟨hsave k, hretire k⟩), rfl⟩
  | saving n =>
    have hsave (k : Nat) (h : s.store.busy = .saving k) : n = k := by simpa [hb] using h
    have hretire (k : Nat) : s.store.busy ≠ .retiring k := by simp [hb]
    refine ⟨rfl, fun b => Quad.get_map .., rfl, rfl, rfl, fun h => ?_, fun k c h hc => ?_, fun k _ h => absurd h (hretire k),
      fun j k h hjk => ?_, rfl⟩
    · simp [hb] at h
    · cases hsave k h
      exact Store.slot?_update_self hc
    · cases hsave k (h.resolve_right (hretire k))
      exact (Store.slot?_update ..).trans (if_neg hjk)
  | retiring n =>
    have hretire (k : Nat) (h : s.store.busy = .retiring k) : n = k := by simpa [hb] using h
    have hsave (k : Nat) : s.store.busy ≠ .saving k := by simp [hb]
    refine ⟨rfl, fun b => Quad.get_map .., rfl, rfl, rfl, fun h => ?_, fun k _ h => absurd h (hsave k), fun k c h hc => ?_,
      fun j k h hjk => ?_, rfl⟩
    · simp [hb] at h
    · cases hretire k h
      exact Store.slot?_update_self hc
    · cases hretire k (h.resolve_left (hsave k))
      exact (Store.slot?_update ..).trans (if_neg hjk)

/-- Settles O18, pin by pin. -/
theorem pinsActAtOnce : Obligations.PinsActAtOnce := by
  refine ⟨fun s => ⟨fun h => ?_, fun h => ?_, fun hr hs => ?_, fun hs hr => ?_, fun hr hs => ⟨?_, ?_⟩⟩, fun s => ⟨_, rfl, rfl, rfl, rfl⟩⟩
  · refine ⟨_, ?_, s.resetBegun_held { s.pins with rstnLow := true }, State.resetBegun_pins _⟩
    exact if_neg (by simp [h])
  · refine ⟨_, ?_, s.resetBegun_held { s.pins with supplyLow := true }, State.resetBegun_pins _⟩
    exact if_neg (by simp [h])
  · refine ⟨_, ?_, State.coldBegun_begun _ .line⟩
    exact (if_pos hr).trans (if_neg (by simp [hs]))
  · refine ⟨_, ?_, State.coldBegun_begun _ .power⟩
    exact (if_pos hs).trans (if_neg (by simp [hr]))
  · exact (if_pos hr).trans (if_pos hs)
  · exact (if_pos hs).trans (if_pos hr)

end Sys2Proof.Machine
end

section
/-! PROOFS. The warm and the cold start, block by block (R164, R166), with the polls that the branches pick first. -/

namespace Sys2Proof.Machine

/-! ### Picks of polls alone -/

/-- The branch with the poll of a station picked, as its record says (R71). -/
def Branch.polled (x : Branch) (cfg : BranchSettings) (own : Octet) (r : StationRecord) : Branch :=
  { x.pickedFor cfg own (.poll { station := r.addr, timeout := r.timeout, attempts := 0, sentAt := none, live := true }) with
    consec := 0 }

/-- A slot but for whether its poll is bound. -/
def ScanSlot.unbound (x : ScanSlot) : ScanSlot := { x with pollBound := false }

/-- From `s` to `t` IDLE branches may have picked polls, each of a station with its record on that branch; nothing else changes. -/
structure PollsPicked (s t : State) : Prop where
  frame   : t = { s with branches := t.branches, scan := t.scan }
  changes : t.scan.changes = s.scan.changes
  slots   : t.scan.slots.map ScanSlot.unbound = s.scan.slots.map ScanSlot.unbound
  branch  : ∀ b, t.branch b = s.branch b
    ∨ ((s.branch b).state = .idle ∧ ∃ r, s.active.record? r.addr = some r ∧ r.branch = b
        ∧ t.branch b = (s.branch b).polled (s.branchSettings b) s.own r)

theorem PollsPicked.refl (s : State) : PollsPicked s s := ⟨rfl, rfl, rfl, fun _ => .inl rfl⟩

/-- The pick of a poll: its station's record stands on the branch (R70, R71). -/
theorem State.pick_poll {s : State} {b : BranchId} {p : ScanSlot} (hp : p ∈ s.overdueClaims b) :
    ∃ r, s.active.record? r.addr = some r ∧ r.branch = b ∧ s.pick b (.poll p) =
      ({ s with scan := s.scan.update p.addr fun x => { x with pollBound := true } } : State).setBranch b
        ((s.branch b).polled (s.branchSettings b) s.own r) := by
  obtain ⟨-, -, -, r, hr, hb⟩ := State.mem_overdueClaims.1 hp
  have haddr := ConfigSet.record?_addr hr
  refine ⟨r, by rw [haddr]; exact hr, hb, ?_⟩
  rw [State.pick_eq, Branch.afterPick_poll, State.pollTimeout, hr, Branch.polled, haddr]
  rfl

theorem Scan.update_unbound (c : Scan) (a : Octet) :
    (c.update a fun x => { x with pollBound := true }).slots.map ScanSlot.unbound = c.slots.map ScanSlot.unbound := by
  simp only [Scan.update, List.map_map]
  refine List.map_congr_left fun x _ => ?_
  simp only [Function.comp_apply]
  split <;> rfl

theorem State.firstClaim_mem {s : State} {b : BranchId} {p : ScanSlot} (h : s.firstClaim b = some p) : p ∈ s.overdueClaims b := by
  have hmem (l : List ScanSlot) {p : ScanSlot}
      (h : l.foldr (fun x best => some (longerOverdue s.clock.ms x best)) none = some p) : p ∈ l := by
    induction l generalizing p with
    | nil => cases h
    | cons x xs ih =>
      rw [List.foldr_cons, Option.some.injEq] at h
      cases hbest : xs.foldr (fun x best => some (longerOverdue s.clock.ms x best)) none with
      | none => rw [hbest] at h; exact h ▸ List.mem_cons_self ..
      | some q =>
        rw [hbest, longerOverdue] at h
        split at h
        · exact h ▸ List.mem_cons_of_mem _ (ih hbest)
        · exact h ▸ List.mem_cons_self ..
  exact hmem _ h

/-- The arbiter of an IDLE branch with empty queues picks a poll or nothing. -/
theorem State.arbitrate_pollsPicked {s : State} {b : BranchId}
    (h : (s.branch b).state = .idle → (s.branch b).failsafe = [] ∧ (s.branch b).queue = []) : PollsPicked s (s.arbitrate b) := by
  by_cases hl : s.live = true
  · by_cases hi : (s.branch b).state = .idle
    · obtain ⟨hf, hq⟩ := h hi
      cases hclaim : s.firstClaim b with
      | none =>
        rw [State.arbitrate_of_noClaim (by rw [hclaim]; exact chooseClaim_empty _ hf hq)]
        exact .refl s
      | some p =>
        obtain ⟨r, hr, hrb, hpick⟩ := State.pick_poll (State.firstClaim_mem hclaim)
        rw [State.arbitrate_of_claim hl hi (by rw [hclaim]; exact chooseClaim_poll hf (.inr hq)), hpick]
        refine ⟨rfl, rfl, Scan.update_unbound .., fun c => ?_⟩
        by_cases hc : c = b
        · subst hc
          exact .inr ⟨hi, r, hr, hrb, State.branch_setBranch_self ..⟩
        · exact .inl (State.branch_setBranch_other _ _ _ _ hc)
    · rw [State.arbitrate_of_busy hi]
      exact .refl s
  · rw [State.arbitrate_of_held (Bool.eq_false_iff.2 hl)]
    exact .refl s

theorem Branch.polled_state (x : Branch) (cfg : BranchSettings) (own : Octet) (r : StationRecord) :
    (x.polled cfg own r).state = .guard := rfl

theorem PollsPicked.trans {s t u : State} (h : PollsPicked s t) (h' : PollsPicked t u) : PollsPicked s u := by
  have hactive : t.active = s.active := by rw [h.frame]
  refine ⟨?_, h'.changes.trans h.changes, h'.slots.trans h.slots, fun b => ?_⟩
  · rw [h'.frame, h.frame]
  · obtain hsame | ⟨hi, r, hr, hrb, hx⟩ := h.branch b
    · obtain hsame' | ⟨hi, r, hr, hrb, hx⟩ := h'.branch b
      · exact .inl (hsame'.trans hsame)
      · rw [hactive] at hr
        refine .inr ⟨hsame ▸ hi, r, hr, hrb, ?_⟩
        rw [hx, hsame, State.branchSettings, State.own, hactive]
        rfl
    · obtain hsame' | ⟨hi', -⟩ := h'.branch b
      · exact .inr ⟨hi, r, hr, hrb, hsame'.trans hx⟩
      · rw [hx, Branch.polled_state] at hi'
        cases hi'

/-- Where no IDLE branch has anything listed or queued, the arbiters pick polls alone. -/
theorem State.settle_pollsPicked {s : State}
    (h : ∀ b, (s.branch b).state = .idle → (s.branch b).failsafe = [] ∧ (s.branch b).queue = []) : PollsPicked s s.settle := by
  have hnext {t : State} (ht : PollsPicked s t) (b : BranchId) : PollsPicked s (t.arbitrate b) := by
    refine ht.trans (State.arbitrate_pollsPicked fun hi => ?_)
    obtain hsame | ⟨-, r, -, -, hx⟩ := ht.branch b
    · rw [hsame] at hi ⊢
      exact h b hi
    · rw [hx, Branch.polled_state] at hi
      cases hi
  exact hnext (hnext (hnext (hnext (.refl s) .b0) .b1) .b2) .b3

/-! ### A branch right after a start (R94) -/

/-- What the two starts claim of a branch: everything at its cold value, and nothing bound but a poll just picked. -/
def StartedBranch (s : State) (b : BranchId) (counters : BranchCounters) (x : Branch) : Prop :=
  x.counters = counters ∧ x.queue = [] ∧ x.failsafe = [] ∧ x.rate = (s.branchSettings b).rate
  ∧ x.addr = s.active.settings.ownAddr ∧ x.interrupts = 0 ∧ x.consec = 0 ∧ x.pollTag = 0#8 ∧ x.driver = false ∧ x.frame = none
  ∧ x.sendLeft = none ∧ x.finalMark = false ∧ x.deadline = none ∧ x.deadlinePassed = false ∧ x.probeTimer = none
  ∧ x.probeQuiet = none
  ∧ ((s.branchSettings b).enabled = false → x.state = .disabled ∧ x.rx = .off ∧ x.bound = none)
  ∧ ((s.branchSettings b).enabled = true → x.rx = .outside
      ∧ ((x.state = .idle ∧ x.bound = none)
        ∨ (x.state = .guard ∧ ∃ p, x.bound = some (.poll p) ∧ p.attempts = 0 ∧ p.sentAt = none ∧ p.live = true
            ∧ ∃ r, s.active.record? p.station = some r ∧ r.branch = b ∧ p.timeout = r.timeout)))

theorem Branch.started_fits (s : State) (b : BranchId) (counters : BranchCounters) :
    StartedBranch s b counters (Branch.started (s.branchSettings b) s.own counters) := by
  refine ⟨rfl, rfl, rfl, rfl, rfl, rfl, rfl, rfl, rfl, rfl, rfl, rfl, rfl, rfl, rfl, rfl, fun h => ?_, fun h => ?_⟩
  · simp [Branch.started, h, Branch.reset]
  · simp [Branch.started, h, Branch.reset]

theorem Branch.polled_fits {s : State} {b : BranchId} {r : StationRecord} (counters : BranchCounters)
    (hr : s.active.record? r.addr = some r) (hb : r.branch = b)
    (hi : (Branch.started (s.branchSettings b) s.own counters).state = .idle) :
    StartedBranch s b counters ((Branch.started (s.branchSettings b) s.own counters).polled (s.branchSettings b) s.own r) := by
  have hon : (s.branchSettings b).enabled = true := by
    by_contra hoff
    simp [Branch.started, hoff] at hi
  refine ⟨rfl, rfl, rfl, rfl, rfl, rfl, rfl, rfl, rfl, rfl, rfl, rfl, rfl, rfl, rfl, rfl, fun h => ?_, fun _ =>
    ⟨?_, .inr ⟨rfl, _, rfl, rfl, rfl, rfl, r, hr, hb, rfl⟩⟩⟩
  · rw [h] at hon
    cases hon
  · simp [Branch.polled, Branch.pickedFor, Branch.started, hon, Receiver.overChange]

theorem startedBranches_get (c : ConfigSet) (counters : Quad BranchCounters) (b : BranchId) :
    (startedBranches c counters).get b = Branch.started (c.settings.branch.get b) c.settings.ownAddr (counters.get b) := by
  cases b <;> rfl

/-- A start before its first picks, and the picks: each branch is as the claims say. -/
theorem PollsPicked.started {s u t : State} {counters : Quad BranchCounters} (h : PollsPicked u t) (ha : u.active = s.active)
    (hb : u.branches = startedBranches s.active counters) (b : BranchId) : StartedBranch s b (counters.get b) (t.branch b) := by
  have hu : u.branch b = Branch.started (s.branchSettings b) s.own (counters.get b) := by
    rw [State.branch, hb, startedBranches_get]
    rfl
  obtain hsame | ⟨hi, r, hr, hrb, hx⟩ := h.branch b
  · rw [hsame, hu]
    exact Branch.started_fits ..
  · rw [hu] at hi hx
    rw [ha] at hr
    have hcfg : u.branchSettings b = s.branchSettings b := by rw [State.branchSettings, ha]; rfl
    have hown : u.own = s.own := by rw [State.own, ha]; rfl
    rw [hx, hcfg, hown]
    exact Branch.polled_fits _ hr hrb hi

theorem startedBranches_empty (c : ConfigSet) (counters : Quad BranchCounters) (b : BranchId) :
    ((startedBranches c counters).get b).failsafe = [] ∧ ((startedBranches c counters).get b).queue = [] := by
  rw [startedBranches_get]
  exact ⟨rfl, rfl⟩

/-! ### The end of LOADING (R164) -/

theorem State.coldStarted_pollsPicked (s : State) : PollsPicked s.coldStarted s.coldEnded := by
  rw [State.coldEnded_eq]
  exact State.settle_pollsPicked fun b _ => startedBranches_empty s.active (Quad.same BranchCounters.zero) b

theorem map_unbound_coldSlots (c : ConfigSet) : (coldSlots c).map ScanSlot.unbound = coldSlots c := by
  simp only [coldSlots, List.map_filterMap, Option.map_map]
  rfl

/-- Settles O19: the blocks as `coldStarted` sets them, and the first picks. -/
theorem loadingEnds : Obligations.LoadingEnds := by
  intro s hload hsupply hrstn
  have hpicks := s.coldStarted_pollsPicked
  refine ⟨s.coldEnded, if_pos ⟨hload, hsupply, hrstn⟩, ?_⟩
  have hframe := hpicks.frame
  refine ⟨by rw [hframe]; rfl, by rw [hframe]; rfl, by rw [hframe]; rfl, by rw [hframe]; rfl, by rw [hframe]; rfl,
    by rw [hframe]; rfl, hpicks.changes, ?_, fun h => ?_, fun h => ?_, by rw [hframe]; rfl, fun b => ?_, ?_⟩
  · exact hpicks.slots.trans (map_unbound_coldSlots s.active)
  · rw [hframe]
    simp only [State.coldStarted, State.recordStart, State.restartSilence, State.silenceAfresh, h, coldSupervision, true_and]
    by_cases hz : s.active.settings.silence = 0
    · simp [hz]
    · simp [hz, silencePeriods, msPeriods]
  · rw [hframe]
    simp [State.coldStarted, State.recordStart, State.restartSilence, State.silenceAfresh, h, coldSupervision]
  · have hstarted := hpicks.started (s := s) (counters := Quad.same BranchCounters.zero) rfl rfl b
    rw [Quad.get_same] at hstarted
    exact hstarted
  · rw [hframe]
    rfl

/-! ### The warm start (R166) -/

/-- The attempts that the item bound on a branch has reached, where it is the station's (R126). -/
def Branch.itemAttempts (x : Branch) (a : Octet) : Nat :=
  match x.bound with
  | some (.failsafe f) => if f.station = a then f.attempts else 0
  | _ => 0

theorem State.itemAttempts_eq (s : State) (a : Octet) : s.itemAttempts a =
    (s.branch .b0).itemAttempts a + (s.branch .b1).itemAttempts a + (s.branch .b2).itemAttempts a + (s.branch .b3).itemAttempts a :=
  rfl

theorem Branch.itemAttempts_bound {x : Branch} {f : FailsafeItem} (h : x.bound = some (.failsafe f)) :
    x.itemAttempts f.station = f.attempts := by
  simp [Branch.itemAttempts, h]

theorem Branch.itemAttempts_other {x : Branch} {a : Octet} (h : ∀ f, x.bound = some (.failsafe f) → f.station ≠ a) :
    x.itemAttempts a = 0 := by
  unfold Branch.itemAttempts
  split
  · rename_i f hf
    rw [if_neg (h f hf)]
  · rfl

/-- The attempts of a station's item are those of the one branch that has it bound. -/
theorem State.itemAttempts_of_one {s : State} {b : BranchId} {f : FailsafeItem} (h : (s.branch b).bound = some (.failsafe f))
    (hone : ∀ c g, c ≠ b → (s.branch c).bound = some (.failsafe g) → g.station ≠ f.station) :
    s.itemAttempts f.station = f.attempts := by
  have hself := Branch.itemAttempts_bound h
  have hother (c : BranchId) (hc : c ≠ b) : (s.branch c).itemAttempts f.station = 0 :=
    Branch.itemAttempts_other fun g hg => hone c g hc hg
  rw [State.itemAttempts_eq]
  cases b with
  | b0 => rw [hself, hother .b1 (by decide), hother .b2 (by decide), hother .b3 (by decide)]; omega
  | b1 => rw [hself, hother .b0 (by decide), hother .b2 (by decide), hother .b3 (by decide)]; omega
  | b2 => rw [hself, hother .b0 (by decide), hother .b1 (by decide), hother .b3 (by decide)]; omega
  | b3 => rw [hself, hother .b0 (by decide), hother .b1 (by decide), hother .b2 (by decide)]; omega

theorem State.itemAttempts_of_none {s : State} {a : Octet} (h : ∀ b f, (s.branch b).bound = some (.failsafe f) → f.station ≠ a) :
    s.itemAttempts a = 0 := by
  simp only [State.itemAttempts_eq, Branch.itemAttempts_other fun f hf => h _ f hf]

theorem State.warmStarted_pollsPicked (s : State) : PollsPicked s.warmStarted s.warmStart := by
  rw [State.warmStart_eq]
  exact State.settle_pollsPicked fun b _ => startedBranches_empty s.active _ b

/-- Supervision after a warm start in NORMAL: the timer runs afresh (R126). -/
theorem State.warmStarted_sup_normal {s : State} (h : s.sup.state = .normal) :
    s.warmStarted.sup = { s.sup with stat := false, silence := s.freshSilence } := by
  simp [State.warmStarted, State.recordStart, State.restartSilence, State.silenceAfresh, State.warmSupervision, h,
    State.freshSilence, silencePeriods, msPeriods]

/-- Supervision after a warm start outside NORMAL: FAILSAFE_HELD, every PENDING line SKIPPED (R126). -/
theorem State.warmStarted_sup_failsafe {s : State} (h : s.sup.state ≠ .normal) :
    s.warmStarted.sup = { s.sup with state := .failsafeHeld, silence := none, lines := s.sup.lines.map s.warmLine, stat := true } := by
  have hwarm : s.warmSupervision =
      { s.sup with state := .failsafeHeld, silence := none, lines := s.sup.lines.map s.warmLine, stat := true } := by
    unfold State.warmSupervision
    split
    · rename_i hn
      exact absurd hn h
    · rfl
  simp [State.warmStarted, State.recordStart, State.restartSilence, State.silenceAfresh, hwarm]

theorem State.promote_counters (s : State) :
    s.promote.up.counters = s.up.counters ∧ s.promote.table.counters = s.table.counters := by
  unfold State.promote
  split
  · exact ⟨rfl, rfl⟩
  · split
    · exact ⟨rfl, rfl⟩
    · split
      · exact ⟨rfl, rfl⟩
      · exact ⟨Upstream.append_counters _ _, rfl⟩

/-- The sending of an item counts FRAMES_OUT and nothing else (R131). -/
theorem State.sent_counters (s : State) (i : OutItem) :
    (s.sent i).up.counters = { s.up.counters with framesOut := bump s.up.counters.framesOut }
    ∧ (s.sent i).table.counters = s.table.counters := by
  have hrate (t : State) (n : ReleaseNote) : (t.rateChange n).up.counters = t.up.counters := by cases n <;> rfl
  have hrelease (t : State) (n : ReleaseNote) : (t.release n).table.counters = t.table.counters := by cases n <;> rfl
  refine ⟨?_, ?_⟩
  · show ((((s.itemGone).release i.note).promote).rateChange i.note).up.counters = _
    rw [hrate, (State.promote_counters _).1, State.release_up]
    rfl
  · rw [State.sent_table, (State.promote_counters _).2, hrelease]
    rfl

/-- Settles O17: the item is sent, and the blocks are as `warmStarted` sets them, or LOADING begins. -/
theorem restartsFollowTheirAnswers : Obligations.RestartsFollowTheirAnswers := by
  intro s i rest k hl htx hq
  have hsent := s.sent_frame i
  obtain ⟨hcount, htable⟩ := s.sent_counters i
  have hactive : (s.sent i).active = s.active := by rw [hsent]
  have hbranches : (s.sent i).branches = s.branches := by rw [hsent]
  have hsup : (s.sent i).sup = s.sup := by rw [hsent]
  have hbranch (b : BranchId) : (s.sent i).branch b = s.branch b := by rw [hsent]; rfl
  refine ⟨fun hnote => ?_, fun hnote => ?_⟩
  · have hpicks := (s.sent i).warmStarted_pollsPicked
    have hframe := hpicks.frame
    have hexec : exec .endOfTransmission s = .next (s.sent i).warmStart := by
      rw [exec_endOfTransmission hl htx hq, State.transmitted_eq, hnote]
      rfl
    have hwarmSup : (s.sent i).warmStart.sup = (s.sent i).warmStarted.sup := by rw [hframe]
    refine ⟨_, hexec, by rw [hframe]; rfl, by rw [hframe]; rfl, ?_, ?_, by rw [hframe]; rfl, ?_, ?_, ?_, fun h => ?_, fun h => ?_,
      ?_, fun b => ?_, ?_⟩
    · rw [hframe, ← htable]
      rfl
    · rw [hframe, ← hcount, ← hactive]
      rfl
    · rw [hframe, ← hactive]
      rfl
    · rw [hpicks.changes, hsent]
      rfl
    · refine hpicks.slots.trans ?_
      have hscan : (s.sent i).scan = s.scan := by rw [hsent]
      show ((s.sent i).scan.slots.map ScanSlot.warm).map ScanSlot.unbound = _
      rw [hscan, List.map_map]
      rfl
    · rw [hwarmSup, State.warmStarted_sup_normal (by rw [hsup]; exact h), State.freshSilence, hsup, hactive]
      rfl
    · rw [hwarmSup, State.warmStarted_sup_failsafe (by rw [hsup]; exact h), hsup]
      refine ⟨rfl, rfl, rfl, rfl, (s.sent i).itemAttempts, rfl, fun a hno => State.itemAttempts_of_none fun b f hf => ?_,
        fun b f hf hone => State.itemAttempts_of_one (b := b) ?_ fun c g hc hg => ?_⟩
      · exact hno b f (hbranch b ▸ hf)
      · rw [hbranch]
        exact hf
      · exact hone c g hc (hbranch c ▸ hg)
    · rw [hframe, hsent]
      rfl
    · have hstarted := hpicks.started (s := s) (counters := (s.sent i).branches.map fun x => x.counters) hactive
        (by rw [← hactive]; rfl) b
      rw [Quad.get_map, hbranches] at hstarted
      obtain ⟨hcounters, hqueue, hlist, hrate, haddr, hinterrupts, hconsec, hpollTag, hdriver, hfr, hleft, hmark, hdeadline,
        hpassed, hprobe, hquiet, hoff, hon⟩ := hstarted
      exact ⟨hcounters, hqueue, hlist, hrate, haddr, hinterrupts, hconsec, hpollTag, hmark, hdeadline, hpassed, hprobe, hquiet,
        hdriver, hfr, hleft, hoff, hon⟩
    · rw [hframe, hsent]
      rfl
  · refine ⟨s.sent i, (s.sent i).coldBegun .mgmtCold, ?_, State.coldBegun_begun _ _, hsent, hcount⟩
    rw [exec_endOfTransmission hl htx hq, State.transmitted_eq, hnote]
    rfl

end Sys2Proof.Machine
end

section
/-! PROOFS. The events of a branch line one by one: guards and sendings, octets in each state, waits and probes. -/

namespace Sys2Proof.Machine

/-! ### The end of a guard (R72, R75) -/

theorem exec_guardComplete {s : State} {b : BranchId} {i : BoundItem} {f : Frame} (hrun : s.seq.run ≠ .loading)
    (hst : (s.branch b).state = .guard) (hph : (s.branch b).phase = .running 0) (hi : (s.branch b).bound = some i)
    (hf : s.attemptFrame (s.branch b) i = some f) :
    exec (.guardComplete b) s = .next ((s.countAttempt i).setBranch b ((s.branch b).startSending i f s.clock.ms)) := by
  change execGuardComplete b s = _
  simp only [execGuardComplete, s.live_iff.2 hrun, (Branch.guardDone_iff _).2 ⟨hst, hph⟩, if_true, hi, hf]

/-- An entry's item keeps its account in the table, and takes the tag of its entry (R67, R75). -/
theorem Branch.startSending_entry {x : Branch} {i : BoundItem} {now : Millis} (hb : x.bound = some i) (hi : i.attempted now = i)
    (htag : i.internal = false) (f : Frame) : x.startSending i f now = x.sendingFrame f := by
  rw [Branch.startSending, hi, htag, ← hb]
  rfl

/-- Settles O20: the frame of the attempt, for each kind of bound item. -/
theorem guardCompletes : Obligations.GuardCompletes := by
  intro s b hrun hst hph x
  refine ⟨fun slot e a hb he ha => ?_, fun slot e hb he => ?_, fun p hb => ?_, fun i hb => ?_⟩
  · rw [exec_guardComplete hrun hst hph hb (by rw [State.attemptFrame, he, Option.map_some, ha])]
    rw [Branch.startSending_entry hb rfl rfl]
    rfl
  · rw [exec_guardComplete hrun hst hph hb (by rw [State.attemptFrame, he, Option.map_some]),
      Branch.startSending_entry hb rfl rfl]
    rfl
  · rw [exec_guardComplete hrun hst hph hb rfl]
    rfl
  · rw [exec_guardComplete hrun hst hph hb rfl]
    rfl

/-! ### Octets (R73, R77, R88, R179) -/

/-- The five octet commands of a branch bring their octet to its receiver. -/
theorem exec_branchOctet {b : BranchId} {c : Instr} {o : Octet}
    (h : c ∈ [Instr.branchOctet b o, .branchFrameOctet b o, .branchFrameValid b o, .branchFrameCheck b o, .branchFrameLength b o])
    (s : State) : exec c s = .next (s.octetOn b o) := by
  simp only [List.mem_cons, List.not_mem_nil, or_false] at h
  obtain rfl | rfl | rfl | rfl | rfl := h <;> rfl

theorem exec_branchGap (s : State) (b : BranchId) : exec (.branchGap b) s =
    if (s.branch b).rx.gapReached (s.branch b).rate.charPeriods then .next (s.gapOn b) else .refused .timerOtherwise := rfl

theorem State.octetOn_off {s : State} {b : BranchId} (h : (s.branch b).rx = .off) (o : Octet) : s.octetOn b o = s := by
  rw [State.octetOn, h, Receiver.take_off]

theorem State.lineActivity_running {s : State} {b : BranchId} {x : Branch} {n : Nat} (hst : x.state = .guard)
    (hph : x.phase = .running n) (hi : x.interrupts < 7) :
    (s.setBranch b x).lineActivity b = s.setBranch b x.interrupted := by
  have hless : ¬ faultThreshold ≤ x.interrupts + 1 := by unfold faultThreshold; omega
  simp only [State.lineActivity, State.branch_setBranch_self, hst, hph, if_neg hless, State.setBranch_setBranch]

theorem State.lineActivity_waiting {s : State} {b : BranchId} {x : Branch} {n : Nat} (hst : x.state = .guard)
    (hph : x.phase = .waiting n) : (s.setBranch b x).lineActivity b =
      s.setBranch b { x with phase := .waiting (quietWaitChars * x.rate.charPeriods) } := by
  simp only [State.lineActivity, State.branch_setBranch_self, hst, hph, State.setBranch_setBranch]

theorem State.lineActivity_fault {s : State} {b : BranchId} {x : Branch} (hst : x.state = .fault) :
    (s.setBranch b x).lineActivity b = s.setBranch b { x with probeQuiet := none } := by
  simp only [State.lineActivity, State.branch_setBranch_self, hst, State.setBranch_setBranch]

theorem State.lineActivity_none {s : State} {b : BranchId} (hg : (s.branch b).state ≠ .guard) (hf : (s.branch b).state ≠ .fault) :
    s.lineActivity b = s := by
  unfold State.lineActivity
  dsimp only
  split
  · exact absurd ‹_› hg
  · exact absurd ‹_› hg
  · exact absurd ‹_› hf
  · rfl

/-- The branch after its receiver took an octet, which counts STRAY where it ended a VALID frame (R81). -/
def Branch.heard (x : Branch) (r : Receiver) (stray : Bool) : Branch :=
  { x with rx := r, counters := { x.counters with stray := if stray then bump x.counters.stray else x.counters.stray } }

/-- Outside AWAITING and RECEIVING an octet is line activity, whatever it does at the receiver (R73, R81, R88). -/
theorem exec_of_octetReaches {s : State} {b : BranchId} {c : Instr} {r : Receiver} {stray : Bool}
    (h : OctetReaches s b c r stray) (ha : (s.branch b).state ≠ .awaiting) (hr : (s.branch b).state ≠ .receiving) :
    exec c s = .next ((s.setBranch b ((s.branch b).heard r stray)).lineActivity b) := by
  rcases h with ⟨o, rfl, hrx, rfl, rfl⟩ | ⟨o, os, quiet, straddle, begun, rfl, hrx, h5, h6, rfl, rfl⟩ |
      ⟨f, o, rfl, harr, rfl, rfl⟩ | ⟨f, o, rfl, hbr, rfl, rfl⟩ | ⟨o, os, quiet, straddle, begun, rfl, hrx, h5, ho, rfl, rfl⟩
  · rw [exec_branchOctet (b := b) (o := o) (by simp), State.octetOn, hrx]
    by_cases ho : o = 0xC3#8
    · subst ho
      simp only [Receiver.take_start, State.branchStarted, State.setRx, State.branch_setBranch_self, if_neg ha, if_true]
      rfl
    · simp only [Receiver.take_noise ho, if_neg ho]
      rfl
  · rw [exec_branchOctet (b := b) (o := o) (by simp), State.octetOn, hrx, Receiver.take_stored _ _ _ h5 h6]
    rfl
  · rw [exec_branchOctet (b := b) (o := o) (by simp), State.octetOn_arrives harr]
    simp only [State.branchValid, State.setRx, State.branch_setBranch_self, if_neg hr, State.setBranch_setBranch]
    rfl
  · rw [exec_branchOctet (b := b) (o := o) (by simp), State.octetOn, Receiver.take_check hbr]
    simp only [State.branchBroken, State.setRx, State.branch_setBranch_self, if_neg hr]
    rfl
  · rw [exec_branchOctet (b := b) (o := o) (by simp), State.octetOn, hrx, Receiver.take_length _ _ _ h5 ho]
    simp only [State.branchBroken, State.setRx, State.branch_setBranch_self, if_neg hr]
    rfl

/-- What an octet leaves of a branch by its state, below the eighth interruption (R73, R88). -/
theorem exec_of_octetReaches_state {s : State} {b : BranchId} {c : Instr} {r : Receiver} {stray : Bool}
    (h : OctetReaches s b c r stray) :
    (∀ n, (s.branch b).state = .guard → (s.branch b).phase = .running n → (s.branch b).interrupts < 7 →
      exec c s = .next (s.setBranch b ((s.branch b).heard r stray).interrupted))
    ∧ (∀ n, (s.branch b).state = .guard → (s.branch b).phase = .waiting n → exec c s = .next (s.setBranch b
        { (s.branch b).heard r stray with phase := .waiting (quietWaitChars * (s.branch b).rate.charPeriods) }))
    ∧ ((s.branch b).state = .fault →
        exec c s = .next (s.setBranch b { (s.branch b).heard r stray with probeQuiet := none }))
    ∧ ((s.branch b).state = .idle → exec c s = .next (s.setBranch b ((s.branch b).heard r stray))) := by
  have hexec {st : BranchState} (hst : (s.branch b).state = st) (ha : st ≠ .awaiting) (hr : st ≠ .receiving) :=
    exec_of_octetReaches h (hst ▸ ha) (hst ▸ hr)
  refine ⟨fun n hst hph hi => ?_, fun n hst hph => ?_, fun hst => ?_, fun hst => ?_⟩
  · rw [hexec hst nofun nofun, State.lineActivity_running (x := (s.branch b).heard r stray) (n := n) hst hph hi]
  · rw [hexec hst nofun nofun, State.lineActivity_waiting (x := (s.branch b).heard r stray) (n := n) hst hph]
    rfl
  · rw [hexec hst nofun nofun, State.lineActivity_fault (x := (s.branch b).heard r stray) hst]
  · have hidle : ((s.setBranch b ((s.branch b).heard r stray)).branch b).state = .idle := by
      rw [State.branch_setBranch_self]
      exact hst
    rw [hexec hst nofun nofun, State.lineActivity_none (by rw [hidle]; nofun) (by rw [hidle]; nofun)]

theorem quietWait_eq (x : Branch) : quietWaitChars * x.rate.charPeriods = x.rate.charPeriods := Nat.one_mul _

/-- Settles O21: the octet by the receiver, then by the state. -/
theorem octetsOnABranch : Obligations.OctetsOnABranch := by
  intro s b o c r x
  refine ⟨fun hc => ⟨fun hoff => ?_, ?_⟩, fun h => ?_, fun h => ?_⟩
  · rw [exec_branchOctet hc, State.octetOn_off hoff]
  · rw [exec_branchOctet hc, exec_branchOctet (b := b) (o := o) (by simp)]
  · have hgap : (s.branch b).rx.gapReached (s.branch b).rate.charPeriods ≠ true := by
      rw [ne_eq, Receiver.gapReached_iff]
      rintro ⟨os, quiet, straddle, hrx, hq⟩
      exact absurd (h os quiet straddle hrx) (Nat.not_lt.2 hq)
    rw [exec_branchGap, if_neg hgap]
  · have hreach : OctetReaches s b c r false := by
      rcases h with ⟨hc, hrx, hr⟩ | ⟨os, quiet, straddle, begun, hc, hrx, h5, h6, hr⟩
      · exact .inl ⟨o, hc, hrx, hr, rfl⟩
      · exact .inr (.inl ⟨o, os, quiet, straddle, begun, hc, hrx, h5, h6, hr, rfl⟩)
    obtain ⟨hrunning, hwaiting, hfault, hidle⟩ := exec_of_octetReaches_state hreach
    refine ⟨fun n hst hph hi => ?_, fun n hst hph => ?_, hfault, fun hst hc ho => ?_, fun hst => ?_⟩
    · rw [hrunning n hst hph hi, Branch.interrupted, quietWait_eq]
      rfl
    · rw [hwaiting n hst hph, quietWait_eq]
      rfl
    · subst hc ho
      obtain ⟨-, hrx, hr⟩ | ⟨_, _, _, _, hc, -⟩ := h
      · rw [exec_branchOctet (b := b) (o := 0xC3#8) (by simp), State.octetOn, hrx, Receiver.take_start, hr]
        simp only [State.branchStarted, State.setRx, State.branch_setBranch_self, State.setBranch_setBranch]
        rw [if_pos hst]
        rfl
      · cases hc
    · have hquiet : (s.setBranch b { x with rx := r }).lineActivity b = s.setBranch b { x with rx := r } := by
        refine State.lineActivity_none ?_ ?_ <;> rw [State.branch_setBranch_self] <;>
          obtain hst | hst | ⟨hst, -⟩ := hst <;> simp [hst]
      rcases h with ⟨rfl, hrx, hr⟩ | ⟨os, quiet, straddle, begun, rfl, hrx, h5, h6, hr⟩
      · rw [exec_branchOctet (b := b) (o := o) (by simp), State.octetOn, hrx]
        by_cases ho : o = 0xC3#8
        · have ha : x.state ≠ .awaiting := by
            obtain hst | hst | ⟨-, -, hne⟩ := hst
            · rw [hst]; nofun
            · rw [hst]; nofun
            · exact absurd ho hne
          rw [if_pos ho] at hr
          subst ho
          simp only [Receiver.take_start, State.branchStarted, State.setRx, State.branch_setBranch_self, ← hr]
          rw [if_neg ha]
          exact congrArg Host.Outcome.next hquiet
        · rw [if_neg ho] at hr
          rw [Receiver.take_noise ho]
          subst hr
          exact congrArg Host.Outcome.next hquiet
      · rw [exec_branchOctet (b := b) (o := o) (by simp), State.octetOn, hrx, Receiver.take_stored _ _ _ h5 h6, ← hr]
        exact congrArg Host.Outcome.next hquiet

/-! ### Waits and probes (R73, R88) -/

/-- Settles O22. -/
theorem waitsAndProbesEnd : Obligations.WaitsAndProbesEnd := by
  refine ⟨fun s b hrun hst hph => ?_, fun s b hrun hst => ⟨fun ht => ?_, fun hq => ?_⟩⟩
  · change execGuardQuietWaitExpiry b s = _
    rw [execGuardQuietWaitExpiry, if_pos (s.live_iff.2 hrun), if_pos ((Branch.waitDone_iff _).2 ⟨hst, hph⟩)]
    rw [Branch.beginGuard, ← hst]
  · change execProbeTimerExpiry b s = _
    rw [execProbeTimerExpiry, if_pos (s.live_iff.2 hrun), if_pos ((Branch.probeDue_iff _).2 ⟨hst, ht⟩), Branch.probeBegun,
      Receiver.rerated_eq]
    rfl
  · change execProbeQuietEnd b s = _
    rw [execProbeQuietEnd, if_pos (s.live_iff.2 hrun), if_pos ((Branch.probeDone_iff _).2 ⟨hst, hq⟩)]
    rfl

end Sys2Proof.Machine
end

section
/-! PROOFS. The reply window (R77 to R84): a failed attempt is retried or ends its item, a matching reply ends it well. -/

namespace Sys2Proof.Machine

/-! ### Handing an outcome on -/

theorem State.complete_setBranch (s : State) (k : Nat) (f : Form) (b : BranchId) (y : Branch) :
    (s.setBranch b y).complete k f = (s.complete k f).setBranch b y := by
  simp only [State.complete, State.setBranch_table, State.setBranch_up]
  split
  · rfl
  · split
    · by_cases hroom : (s.up.hasRoom && s.table.returning.isEmpty) = true
      · simp only [hroom, if_true]
        rfl
      · simp only [hroom, Bool.false_eq_true, if_false]
        rfl
    · rfl

theorem State.pollEnded_setBranch (s : State) (p : PollItem) (w : Option Word16) (b : BranchId) (y : Branch) :
    (s.setBranch b y).pollEnded p w = (s.pollEnded p w).setBranch b y := by
  unfold State.pollEnded
  split <;> rfl

theorem State.noteCause_setBranch (s : State) (c : Cause) (i : Option BoundItem) (b : BranchId) (y : Branch) :
    (s.setBranch b y).noteCause c i = (s.noteCause c i).setBranch b y := by
  unfold State.noteCause
  split <;> rfl

theorem State.failureOutcome_setBranch (s : State) (i : Option BoundItem) (b : BranchId) (y : Branch) :
    (s.setBranch b y).failureOutcome i = (s.failureOutcome i).setBranch b y := by
  unfold State.failureOutcome
  split
  · exact s.complete_setBranch _ _ b y
  · exact s.pollEnded_setBranch _ _ b y
  · rfl
  · rfl

theorem State.successOutcome_setBranch (s : State) (payload : List Octet) (i : Option BoundItem) (b : BranchId) (y : Branch) :
    (s.setBranch b y).successOutcome payload i = (s.successOutcome payload i).setBranch b y := by
  unfold State.successOutcome
  split
  · exact s.complete_setBranch _ _ b y
  · split
    · exact s.pollEnded_setBranch _ _ b y
    · rfl
  · rfl
  · rfl

theorem State.noteCause_frame (s : State) (c : Cause) (i : Option BoundItem) :
    s.noteCause c i = { s with table := (s.noteCause c i).table } := by
  unfold State.noteCause
  split <;> rfl

/-- What an outcome leaves alone. -/
theorem State.failureOutcome_frame (s : State) (i : Option BoundItem) : s.failureOutcome i =
    { s with table := (s.failureOutcome i).table, up := (s.failureOutcome i).up, scan := (s.failureOutcome i).scan
             sup := (s.failureOutcome i).sup } := by
  unfold State.failureOutcome
  split
  · rw [State.complete_frame]
  · unfold State.pollEnded
    split <;> rfl
  · rfl
  · rfl

theorem State.successOutcome_frame (s : State) (payload : List Octet) (i : Option BoundItem) : s.successOutcome payload i =
    { s with table := (s.successOutcome payload i).table, up := (s.successOutcome payload i).up
             scan := (s.successOutcome payload i).scan, sup := (s.successOutcome payload i).sup } := by
  unfold State.successOutcome
  split
  · rw [State.complete_frame]
  · split
    · unfold State.pollEnded
      split <;> rfl
    · rfl
  · rfl
  · rfl

/-! ### A failed attempt (R82, R83) -/

theorem Branch.windowClosed_eq (x : Branch) (c : Cause) : x.windowClosed c x.rx =
    { x with deadline := none, deadlinePassed := false, counters := x.counters.countFailure c } := by
  cases c <;> rfl

theorem State.retryAllowed_setBranch (s : State) (b : BranchId) (y x : Branch) :
    (s.setBranch b y).retryAllowed x = s.retryAllowed x := rfl

theorem State.attemptFails_retried {s : State} {b : BranchId} {y : Branch} {c : Cause}
    (h : (s.noteCause c y.bound).retryAllowed (y.windowClosed c y.rx) = true) : (s.setBranch b y).attemptFails b c =
      (s.noteCause c y.bound).setBranch b ((y.windowClosed c y.rx).beginGuard (s.branchSettings b)) := by
  rw [Branch.windowClosed_eq] at h ⊢
  simp only [State.attemptFails, State.branch_setBranch_self, State.noteCause_setBranch, State.setBranch_setBranch,
    State.retryAllowed_setBranch]
  rw [if_pos h, State.noteCause_frame]
  rfl

theorem State.attemptFails_ended {s : State} {b : BranchId} {y : Branch} {c : Cause}
    (h : (s.noteCause c y.bound).retryAllowed (y.windowClosed c y.rx) = false) : (s.setBranch b y).attemptFails b c =
      (((s.noteCause c y.bound).failureOutcome y.bound).setBranch b
        ((y.windowClosed c y.rx).itemEnded (s.branchSettings b).enabled)).heldIfDone.settle := by
  rw [Branch.windowClosed_eq] at h ⊢
  simp only [State.attemptFails, State.branch_setBranch_self, State.noteCause_setBranch, State.setBranch_setBranch,
    State.retryAllowed_setBranch]
  rw [if_neg (by rw [Bool.not_eq_true]; exact h), State.failureOutcome_setBranch, State.freeBranch, State.branch_setBranch_self,
    State.setBranch_setBranch, State.setBranch_branchSettings]
  refine congrArg (fun z => State.settle (State.heldIfDone (State.setBranch _ b z))) ?_
  rw [State.failureOutcome_frame, State.noteCause_frame]
  rfl

theorem State.attemptSucceeds_eq (s : State) (b : BranchId) (y : Branch) (payload : List Octet) :
    (s.setBranch b y).attemptSucceeds b payload = ((s.successOutcome payload y.bound).setBranch b
      (Branch.itemEnded { y with counters := { y.counters with replies := bump y.counters.replies } }
        (s.branchSettings b).enabled)).heldIfDone.settle := by
  simp only [State.attemptSucceeds, State.branch_setBranch_self, State.setBranch_setBranch]
  rw [State.successOutcome_setBranch, State.freeBranch, State.branch_setBranch_self, State.setBranch_setBranch,
    State.setBranch_branchSettings]
  refine congrArg (fun z => State.settle (State.heldIfDone (State.setBranch _ b z))) ?_
  rw [State.successOutcome_frame]
  rfl

/-! ### The end of failsafe sending (R119) -/

theorem Branch.itemEnded_failsafeCount (y : Branch) (en : Bool) : (y.itemEnded en).failsafeCount = y.failsafe.length := rfl

/-- An item that is no failsafe item ends, and failsafe sending goes on as it did. -/
theorem State.heldIfDone_setBranch {s u : State} {b : BranchId} {z : Branch} (hs : SendingHasItems s) (hsup : u.sup = s.sup)
    (hbr : u.branches = s.branches) (hz : z.failsafeCount = (s.branch b).failsafeCount) :
    (u.setBranch b z).heldIfDone = u.setBranch b z := by
  refine State.heldIfDone_of_left _ fun hst => ?_
  rw [State.failsafeLeft_setBranch (by rw [hz, State.branch_congr hbr]), State.failsafeLeft_branches hbr]
  exact hs.1 (by rw [← hsup]; exact hst)

theorem State.failsafeLeft_unbound {s : State} {b : BranchId} {z : Branch}
    (hz : z.failsafeCount + 1 = (s.branch b).failsafeCount) : (s.setBranch b z).failsafeLeft + 1 = s.failsafeLeft := by
  cases b <;>
    · simp only [State.failsafeLeft, State.setBranch, Quad.set]
      simp only [State.branch, Quad.get] at hz
      omega

/-- With its last item failsafe sending ends (R119). -/
theorem State.heldIfDone_itemOutcome {s : State} {b : BranchId} {z : Branch} (i : FailsafeItem) (o : LineOutcome)
    (hz : z.failsafeCount + 1 = (s.branch b).failsafeCount) :
    ∃ v : State, ((s.itemOutcome i o).setBranch b z).heldIfDone = v
      ∧ v.sup.lines = s.sup.lines.map (fun l =>
          if l.station = i.station ∧ l.outcome = .pending then { l with outcome := o, attempts := i.attempts } else l)
      ∧ v.sup.state = (if s.sup.state = .failsafeSending ∧ s.failsafeLeft = 1 then .failsafeHeld else s.sup.state)
      ∧ v = { s.setBranch b z with sup := { s.sup with lines := v.sup.lines, state := v.sup.state } } := by
  have hleft : ((s.itemOutcome i o).setBranch b z).failsafeLeft + 1 = s.failsafeLeft := State.failsafeLeft_unbound hz
  have hiff : ((s.itemOutcome i o).setBranch b z).failsafeLeft = 0 ↔ s.failsafeLeft = 1 := by omega
  refine ⟨_, rfl, ?_⟩
  unfold State.heldIfDone
  by_cases hlast : s.sup.state = .failsafeSending ∧ s.failsafeLeft = 1
  · rw [if_pos (by exact ⟨hlast.1, hiff.2 hlast.2⟩), if_pos hlast]
    exact ⟨rfl, rfl, rfl⟩
  · rw [if_neg (by exact fun h => hlast ⟨h.1, hiff.1 h.2⟩), if_neg hlast]
    exact ⟨rfl, rfl, rfl⟩

end Sys2Proof.Machine
end

section
/-! PROOFS. What a failed attempt and a matching reply leave, item by item (R77 to R84). -/

namespace Sys2Proof.Machine

/-! ### A failed attempt, item by item (R82, R83) -/

section Failing

variable {s : State} {b : BranchId} {y : Branch} (c : Cause)

/-- A failed attempt on `y`, closed and back in the guard (R82). -/
def Branch.retrying (y : Branch) (c : Cause) (cfg : BranchSettings) : Branch := (y.windowClosed c y.rx).beginGuard cfg

/-- A failed attempt on `y`, closed and its item gone (R83). -/
def Branch.failed (y : Branch) (c : Cause) (enabled : Bool) : Branch := (y.windowClosed c y.rx).itemEnded enabled

theorem Branch.failed_failsafeCount (y : Branch) (c : Cause) (en : Bool) : (y.failed c en).failsafeCount = y.failsafe.length := rfl

theorem State.noteCause_find? (s : State) {slot : Nat} {e : Entry} (he : s.table.find? slot = some e) (j : Nat) :
    (s.noteCause c (some (.station slot))).table.find? j =
      if j = slot then some { e with lastCause := some c } else s.table.find? j := by
  change (s.table.update slot _).find? j = _
  rw [Table.find?_update s.table slot j (fun e => { e with lastCause := some c }) (fun _ => rfl), he]
  rfl

/-- A STATION entry is retried while it has attempts left and its branch no mark (R82). -/
theorem State.retryAllowed_station {u : State} {x : Branch} {slot : Nat} {e : Entry} {r : Route} (hb : x.bound = some (.station slot))
    (he : u.table.find? slot = some e) (hr : e.route = some r) :
    u.retryAllowed x = (!x.finalMark && decide (e.attempts < 1 + r.retries)) := by
  simp only [State.retryAllowed, hb, he, hr, Option.map_some, Option.getD_some]

theorem State.retryAllowed_failsafe {u : State} {x : Branch} {i : FailsafeItem} (hb : x.bound = some (.failsafe i)) :
    u.retryAllowed x = (!x.finalMark && decide (i.attempts < 1 + i.retries)) := by
  simp only [State.retryAllowed, hb]

theorem State.retryAllowed_poll {u : State} {x : Branch} {p : PollItem} (hb : x.bound = some (.poll p)) :
    u.retryAllowed x = false := by
  simp only [State.retryAllowed, hb, Bool.and_false]

theorem State.fails_station_retried {slot : Nat} {e : Entry} {r : Route} (hb : y.bound = some (.station slot))
    (he : s.table.find? slot = some e) (hr : e.route = some r) (hlt : e.attempts < 1 + r.retries) (hm : y.finalMark = false) :
    (s.setBranch b y).attemptFails b c =
      (s.updateEntry slot fun e => { e with lastCause := some c }).setBranch b (y.retrying c (s.branchSettings b)) := by
  have hnoted : (s.noteCause c y.bound).table.find? slot = some { e with lastCause := some c } := by
    rw [hb, State.noteCause_find? c s he, if_pos rfl]
  have hmark : (y.windowClosed c y.rx).finalMark = false := hm
  rw [State.attemptFails_retried (by
    rw [State.retryAllowed_station (x := y.windowClosed c y.rx) hb hnoted hr, hmark]; simpa using hlt), hb]
  rfl

theorem State.fails_failsafe_retried {i : FailsafeItem} (hb : y.bound = some (.failsafe i)) (hlt : i.attempts < 1 + i.retries)
    (hm : y.finalMark = false) : (s.setBranch b y).attemptFails b c = s.setBranch b (y.retrying c (s.branchSettings b)) := by
  have hmark : (y.windowClosed c y.rx).finalMark = false := hm
  rw [State.attemptFails_retried (by
    rw [State.retryAllowed_failsafe (x := y.windowClosed c y.rx) hb, hmark]; simpa using hlt), hb]
  rfl

/-- Final failure of a STATION entry (R83). -/
theorem State.fails_station_ended {slot : Nat} {e : Entry} {a : Octet} {r : Route} (hs : SendingHasItems s)
    (hfs : y.failsafe = (s.branch b).failsafe) (hbd : y.bound = (s.branch b).bound) (hb : y.bound = some (.station slot))
    (he : s.table.find? slot = some e) (ho : e.state.isOpen = true) (ha : e.station = some a) (hr : e.route = some r)
    (hlast : y.finalMark = true ∨ 1 + r.retries ≤ e.attempts) :
    ∃ u, (s.setBranch b y).attemptFails b c = (u.setBranch b (y.failed c (s.branchSettings b).enabled)).settle
      ∧ u = { s with table := u.table, up := u.up }
      ∧ Completes s u slot { e with lastCause := some c }
          { dest := e.ctrl, src := a, tag := e.tag, kind := 0x31#8, payload := [c.octet, oct e.attempts] }
          (.entry slot) (fun n => { n with noAnswer := bump n.noAnswer }) := by
  have hfind := State.noteCause_find? c s he
  have hself : (s.noteCause c (some (.station slot))).table.find? slot = some { e with lastCause := some c } := by
    rw [hfind, if_pos rfl]
  have hnoted : (s.noteCause c y.bound).table.find? slot = some { e with lastCause := some c } := by rw [hb, hself]
  have hstop : (s.noteCause c y.bound).retryAllowed (y.windowClosed c y.rx) = false := by
    rw [State.retryAllowed_station (x := y.windowClosed c y.rx) hb hnoted hr]
    have hmark : (y.windowClosed c y.rx).finalMark = y.finalMark := rfl
    rw [hmark]
    rcases hlast with hm | hge
    · rw [hm]
      rfl
    · simp [hge]
  refine ⟨(s.noteCause c (some (.station slot))).complete slot .noAnswer, ?_, ?_, ?_⟩
  · rw [State.attemptFails_ended hstop]
    simp only [hb, State.failureOutcome]
    refine congrArg State.settle (State.heldIfDone_setBranch hs ?_ ?_ ?_)
    · rw [State.complete_frame]
      rfl
    · rw [State.complete_branches]
      rfl
    · rw [Branch.itemEnded_failsafeCount, Branch.failsafeCount, ← hbd, hb]
      exact congrArg List.length hfs
  · rw [State.complete_frame]
    rfl
  · have hnote : releaseNote { e with lastCause := some c } { dest := e.ctrl, src := a, tag := e.tag, kind := 0x31#8
                                                              payload := [c.octet, oct e.attempts] } = .entry slot := by
      have hslot : e.slot = slot := Table.find?_slot he
      rw [← hslot]
      cases e.origin <;> cases c <;> simp [releaseNote, Cause.octet, Op.octet]
    have hanswer : answerFrame (s.noteCause c (some (.station slot))).own .noAnswer { e with lastCause := some c } =
        { dest := e.ctrl, src := a, tag := e.tag, kind := 0x31#8, payload := [c.octet, oct e.attempts] } := by
      simp only [answerFrame, ha]
      rfl
    have hdone := State.complete_open (s.noteCause c (some (.station slot))) slot .noAnswer _ hself ho
    rw [hanswer, hnote] at hdone
    obtain ⟨hseq, hcount, hother, hplace⟩ := hdone
    exact ⟨hseq, hcount, fun k hk => by rw [hother k hk, hfind, if_neg hk], hplace⟩

/-- Final failure of a poll: a miss, unless a commit has discarded its slot (R83, R107). -/
theorem State.fails_poll {p : PollItem} (hs : SendingHasItems s) (hfs : y.failsafe = (s.branch b).failsafe)
    (hbd : y.bound = (s.branch b).bound) (hb : y.bound = some (.poll p)) :
    (s.setBranch b y).attemptFails b c =
      ((s.pollEnded p none).setBranch b (y.failed c (s.branchSettings b).enabled)).settle := by
  have hstop : (s.noteCause c y.bound).retryAllowed (y.windowClosed c y.rx) = false :=
    State.retryAllowed_poll (x := y.windowClosed c y.rx) hb
  rw [State.attemptFails_ended hstop]
  simp only [hb, State.failureOutcome, State.noteCause]
  refine congrArg State.settle (State.heldIfDone_setBranch hs ?_ (s.recordPoll_branches' p none) ?_)
  · unfold State.pollEnded
    split <;> rfl
  · rw [Branch.itemEnded_failsafeCount, Branch.failsafeCount, ← hbd, hb]
    exact congrArg List.length hfs

theorem State.pollEnded_live {p : PollItem} {sent : Millis} (hl : p.live = true) (hsent : p.sentAt = some sent)
    (w : Option Word16) : s.pollEnded p w = s.recordPoll p.station w sent := by
  rw [State.pollEnded, if_pos hl, hsent]
  rfl

theorem State.pollEnded_dead {p : PollItem} (hl : p.live = false) (w : Option Word16) : s.pollEnded p w = s := by
  rw [State.pollEnded, hl]
  rfl

/-- Final failure of a failsafe item (R83, R119). -/
theorem State.fails_failsafe_ended {i : FailsafeItem} (hfs : y.failsafe = (s.branch b).failsafe)
    (hbd : y.bound = (s.branch b).bound) (hb : y.bound = some (.failsafe i))
    (hlast : y.finalMark = true ∨ 1 + i.retries ≤ i.attempts) :
    ∃ v : State, (s.setBranch b y).attemptFails b c = v.settle
      ∧ v.sup.lines = s.sup.lines.map (fun l =>
          if l.station = i.station ∧ l.outcome = .pending then { l with outcome := .noAnswer, attempts := i.attempts } else l)
      ∧ v.sup.state = (if s.sup.state = .failsafeSending ∧ s.failsafeLeft = 1 then .failsafeHeld else s.sup.state)
      ∧ v = { s.setBranch b (y.failed c (s.branchSettings b).enabled) with
              sup := { s.sup with lines := v.sup.lines, state := v.sup.state } } := by
  have hstop : (s.noteCause c y.bound).retryAllowed (y.windowClosed c y.rx) = false := by
    rw [State.retryAllowed_failsafe (x := y.windowClosed c y.rx) hb]
    have hmark : (y.windowClosed c y.rx).finalMark = y.finalMark := rfl
    rw [hmark]
    rcases hlast with hm | hge
    · rw [hm]
      rfl
    · simp [hge]
  have hleft : (y.failed c (s.branchSettings b).enabled).failsafeCount + 1 = (s.branch b).failsafeCount := by
    rw [Branch.failed_failsafeCount, Branch.failsafeCount, ← hbd, hb, hfs]
  obtain ⟨v, hv, hrest⟩ := State.heldIfDone_itemOutcome i .noAnswer hleft
  refine ⟨v, ?_, hrest⟩
  rw [State.attemptFails_ended hstop, ← hv]
  simp only [hb, State.failureOutcome, State.noteCause]
  rfl

end Failing

/-! ### How an attempt fails (R77, R78) -/

/-- The commands that fail an attempt run its failure on the branch with its receiver outside a frame, or as it was. -/
theorem exec_of_attemptFailsBy {s : State} {b : BranchId} {c : Instr} {cause : Cause} {rx : Receiver}
    (h : AttemptFailsBy s b c cause rx) :
    exec c s = .next ((s.setBranch b { s.branch b with rx := rx }).attemptFails b cause) := by
  rcases h with ⟨rfl, hrun, hst, hd, hp, rfl, rfl⟩ | ⟨hst, rfl, rfl, hc⟩
  · change execReplyDeadlineExpiry b s = _
    rw [execReplyDeadlineExpiry, if_pos (s.live_iff.2 hrun), if_pos ((Branch.deadlineDue_iff _).2 ⟨.inl hst, hd, hp⟩),
      if_pos hst]
    exact congrArg (fun t => Host.Outcome.next (State.attemptFails t b .silent)) (s.setBranch_branch b).symm
  · rcases hc with ⟨f, o, rfl, hbr⟩ | ⟨o, os, quiet, straddle, begun, rfl, hrx, h5, ho⟩ | ⟨os, quiet, straddle, rfl, hrx, hq⟩
    · rw [exec_branchOctet (b := b) (o := o) (by simp), State.octetOn, Receiver.take_check hbr]
      simp only [State.branchBroken, State.setRx, State.branch_setBranch_self, if_pos hst]
    · rw [exec_branchOctet (b := b) (o := o) (by simp), State.octetOn, hrx, Receiver.take_length _ _ _ h5 ho]
      simp only [State.branchBroken, State.setRx, State.branch_setBranch_self, if_pos hst]
    · rw [exec_branchGap, if_pos ((Receiver.gapReached_iff _ _).2 ⟨os, quiet, straddle, hrx, hq⟩)]
      simp only [State.gapOn, if_pos hst]
      rfl

/-- Settles O25. -/
theorem failedAttemptIsRetried : Obligations.FailedAttemptIsRetried := by
  intro s b c cause rx x again
  refine ⟨fun h hm => ⟨fun slot e r hb he hr hlt => ?_, fun i hb hlt => ?_⟩, fun hrun hst hd hp => ?_⟩
  · rw [exec_of_attemptFailsBy h, State.fails_station_retried (y := { s.branch b with rx := rx }) cause hb he hr hlt hm]
    cases cause <;> rfl
  · rw [exec_of_attemptFailsBy h, State.fails_failsafe_retried (y := { s.branch b with rx := rx }) cause hb hlt hm]
    cases cause <;> rfl
  · change execReplyDeadlineExpiry b s = _
    have hne : (s.branch b).state ≠ .awaiting := by rw [show (s.branch b).state = .receiving from hst]; nofun
    rw [execReplyDeadlineExpiry, if_pos (s.live_iff.2 hrun), if_pos ((Branch.deadlineDue_iff _).2 ⟨.inr hst, hd, hp⟩), if_neg hne]

/-- Settles O26. -/
theorem failedAttemptEndsTheItem : Obligations.FailedAttemptEndsTheItem := by
  intro s b c cause rx h x freed
  have hfreed : ({ s.branch b with rx := rx } : Branch).failed cause (s.branchSettings b).enabled = freed := by cases cause <;> rfl
  refine ⟨fun slot e a r hs hb he ho ha hr hlast => ?_, fun p sent hs hb hl hsent => ?_, fun p hs hb hl => ?_,
    fun i hb hlast => ?_⟩
  · obtain ⟨u, hu, hframe, hdone⟩ :=
      State.fails_station_ended (y := { s.branch b with rx := rx }) cause hs rfl rfl hb he ho ha hr hlast
    refine ⟨u, by rw [exec_of_attemptFailsBy h, hu, hfreed], hframe, ?_⟩
    cases cause <;> exact hdone
  · rw [exec_of_attemptFailsBy h, State.fails_poll (y := { s.branch b with rx := rx }) cause hs rfl rfl hb, hfreed,
      State.pollEnded_live hl hsent]
  · rw [exec_of_attemptFailsBy h, State.fails_poll (y := { s.branch b with rx := rx }) cause hs rfl rfl hb, hfreed,
      State.pollEnded_dead hl]
  · obtain ⟨v, hv, hrest⟩ := State.fails_failsafe_ended (s := s) (y := { s.branch b with rx := rx }) cause rfl rfl hb hlast
    rw [hfreed] at hrest
    exact ⟨v, by rw [exec_of_attemptFailsBy h, hv], hrest⟩

end Sys2Proof.Machine
end

section
/-! PROOFS. Frames on a branch (R78 to R81), and the end of a sending (R75, R76). -/

namespace Sys2Proof.Machine

/-! ### Frames in RECEIVING (R78 to R80) -/

theorem State.replyMatches_iff {s : State} {x : Branch} {f : Frame} : s.replyMatches x f = true ↔
    ∃ i, x.bound = some i ∧ f.dest = x.addr ∧ s.boundStation i = some f.src ∧ f.tag = x.expectedTag ∧ f.kind = 0x20#8 := by
  unfold State.replyMatches
  cases x.bound with
  | none => simp
  | some i => simp [kindReply, and_assoc]

/-- A VALID frame in RECEIVING is offered to the bound item (R78). -/
theorem exec_of_arrives {s : State} {b : BranchId} {f : Frame} {o : Octet} (hst : (s.branch b).state = .receiving)
    (h : (s.branch b).Arrives f o) : exec (.branchFrameValid b o) s =
      .next ((s.setBranch b ((s.branch b).heard .outside false)).replyReceived b f) := by
  rw [exec_branchOctet (b := b) (o := o) (by simp), State.octetOn_arrives h]
  simp only [State.branchValid, State.setRx, State.branch_setBranch_self, if_pos hst]
  rfl

section Reply

variable {s : State} {b : BranchId} {y : Branch} {f : Frame}

theorem State.replyReceived_matching (hm : s.replyMatches y f = true) : (s.setBranch b y).replyReceived b f =
    if shortForPoll y.bound f then (s.setBranch b y).attemptFails b .corrupt
    else (s.setBranch b y).attemptSucceeds b f.payload := by
  simp only [State.replyReceived, State.branch_setBranch_self]
  exact if_pos hm

theorem State.replyReceived_stray (hm : s.replyMatches y f = false) : (s.setBranch b y).replyReceived b f =
    if y.deadlinePassed then (s.setBranch b y.countStray).attemptFails b .silent
    else s.setBranch b { y.countStray with state := .awaiting } := by
  simp only [State.replyReceived, State.branch_setBranch_self, State.setBranch_setBranch]
  exact if_neg (by rw [Bool.not_eq_true]; exact hm)

/-- An item other than a failsafe item that succeeds, its outcome handed on (R80). -/
theorem State.succeeds {i : BoundItem} (payload : List Octet) (hs : SendingHasItems s) (hfs : y.failsafe = (s.branch b).failsafe)
    (hbd : y.bound = (s.branch b).bound) (hb : y.bound = some i) (hi : ∀ x, i ≠ .failsafe x) :
    (s.setBranch b y).attemptSucceeds b payload = ((s.successOutcome payload (some i)).setBranch b
      (Branch.itemEnded { y with counters := { y.counters with replies := bump y.counters.replies } }
        (s.branchSettings b).enabled)).settle := by
  rw [State.attemptSucceeds_eq, hb]
  refine congrArg State.settle (State.heldIfDone_setBranch hs ?_ (State.successOutcome_branches s payload _) ?_)
  · cases i with
    | station slot =>
      simp only [State.successOutcome]
      rw [State.complete_frame]
    | share slot => rfl
    | poll p =>
      simp only [State.successOutcome, State.pollEnded]
      split
      · split <;> rfl
      · rfl
    | failsafe x => exact absurd rfl (hi x)
  · rw [Branch.itemEnded_failsafeCount, Branch.failsafeCount, ← hbd, hb]
    cases i with
    | failsafe x => exact absurd rfl (hi x)
    | _ => exact congrArg List.length hfs

end Reply

theorem pairWord_eq_append (hi lo : Octet) : pairWord hi lo = hi ++ lo := by
  apply BitVec.eq_of_toNat_eq
  have h8 : hi.toNat <<< 8 = hi.toNat * 256 := by rw [Nat.shiftLeft_eq]
  have hh := hi.isLt
  have hl := lo.isLt
  rw [BitVec.toNat_append, ← Nat.shiftLeft_add_eq_or_of_lt hl, h8, pairWord, pairNat, BitVec.toNat_ofNat, Nat.mod_eq_of_lt (by omega)]

/-- A matching reply fails a poll for which it is too short, and else succeeds (R79, R80). -/
theorem exec_of_matching {s : State} {b : BranchId} {f : Frame} {o : Octet} {i : BoundItem}
    (hst : (s.branch b).state = .receiving) (harr : (s.branch b).Arrives f o) (hdest : f.dest = (s.branch b).addr)
    (htag : f.tag = (s.branch b).expectedTag) (hkind : f.kind = 0x20#8) (hb : (s.branch b).bound = some i)
    (hsrc : s.boundStation i = some f.src) :
    (shortForPoll (some i) f = false → exec (.branchFrameValid b o) s =
      .next ((s.setBranch b ((s.branch b).heard .outside false)).attemptSucceeds b f.payload))
    ∧ (shortForPoll (some i) f = true → exec (.branchFrameValid b o) s =
      .next ((s.setBranch b ((s.branch b).heard .outside false)).attemptFails b .corrupt)) := by
  have hb' : ((s.branch b).heard .outside false).bound = some i := hb
  have hm : s.replyMatches ((s.branch b).heard .outside false) f = true :=
    State.replyMatches_iff.2 ⟨i, hb, hdest, hsrc, htag, hkind⟩
  rw [exec_of_arrives hst harr, State.replyReceived_matching hm, hb']
  exact ⟨fun h => by rw [h]; rfl, fun h => by rw [h]; rfl⟩

/-- Settles O27. -/
theorem matchingReplySucceeds : Obligations.MatchingReplySucceeds := by
  intro s b f o hst harr x hdest htag hkind freed
  have hexec {i : BoundItem} := exec_of_matching (i := i) hst harr hdest htag hkind
  refine ⟨fun slot e hs hb he ho horig ha => ?_, fun p sent hi lo more hs hb hl hsent hp hpay => ?_,
    fun p sent hs hb hl hsent hp hlen => ?_, fun p hs hb hl hp => ?_, fun i hb hsrc => ?_⟩
  · refine ⟨s.complete slot (.relayed f.payload), ?_, s.complete_frame slot _, ?_⟩
    · rw [(hexec hb (by rw [State.boundStation, he, Option.bind_some, ha])).1 rfl,
        State.succeeds (y := (s.branch b).heard .outside false) f.payload hs rfl rfl hb nofun]
      rfl
    · have hdone := State.complete_open s slot (.relayed f.payload) e he ho
      have hnote : releaseNote e (answerFrame s.own (.relayed f.payload) e) = .entry slot := by
        have hslot : e.slot = slot := Table.find?_slot he
        simp only [releaseNote, horig, hslot]
      rw [hnote] at hdone
      simp only [answerFrame, ha, Option.getD_some] at hdone
      exact hdone
  · rw [(hexec hb (congrArg some hp)).1 (by simp [shortForPoll, hpay]),
      State.succeeds (y := (s.branch b).heard .outside false) f.payload hs rfl rfl hb nofun]
    simp only [State.successOutcome, hpay, State.pollEnded_live hl hsent, pairWord_eq_append]
    rfl
  · rw [(hexec hb (congrArg some hp)).2 (by simp [shortForPoll, hlen]),
      State.fails_poll (y := (s.branch b).heard .outside false) .corrupt hs rfl rfl hb, State.pollEnded_live hl hsent]
    rfl
  · by_cases hlen : 2 ≤ f.payload.length
    · obtain ⟨hi, lo, more, hpay⟩ : ∃ hi lo more, f.payload = hi :: lo :: more := by
        match hpay : f.payload with
        | hi :: lo :: more => exact ⟨hi, lo, more, rfl⟩
        | [_] => simp [hpay] at hlen
        | [] => simp [hpay] at hlen
      rw [(hexec hb (congrArg some hp)).1 (by simp [shortForPoll, hpay]),
        State.succeeds (y := (s.branch b).heard .outside false) f.payload hs rfl rfl hb nofun, if_pos hlen]
      simp only [State.successOutcome, hpay, State.pollEnded_dead hl]
      rfl
    · rw [(hexec hb (congrArg some hp)).2 (by simp [shortForPoll, Nat.not_le.1 hlen]),
        State.fails_poll (y := (s.branch b).heard .outside false) .corrupt hs rfl rfl hb, State.pollEnded_dead hl, if_neg hlen]
      rfl
  · have hleft : freed.failsafeCount + 1 = (s.branch b).failsafeCount := by
      rw [Branch.itemEnded_failsafeCount, Branch.failsafeCount, hb]
    obtain ⟨v, hv, hrest⟩ := State.heldIfDone_itemOutcome i .ok hleft
    have hb' : ((s.branch b).heard .outside false).bound = some (.failsafe i) := hb
    refine ⟨v, ?_, hrest⟩
    rw [(hexec hb (congrArg some hsrc)).1 rfl, State.attemptSucceeds_eq, hb', ← hv]
    rfl

/-! ### Frames that are no reply (R78, R81) -/

/-- Settles O28: the stray frame by the state, its failure in RECEIVING as for every failed attempt. -/
theorem otherFramesOnABranch : Obligations.OtherFramesOnABranch := by
  refine ⟨fun s b f o harr => ?_, fun s b c => ?_⟩
  · intro x y
    obtain ⟨hrunning, hwaiting, hfault, hidle⟩ :=
      exec_of_octetReaches_state (.inr (.inr (.inl ⟨f, o, rfl, harr, rfl, rfl⟩)) : OctetReaches s b (.branchFrameValid b o) .outside true)
    refine ⟨fun hst hno => ?_, hidle, hfault, fun n hst hph => ?_, fun n hst hph hi => ?_⟩
    · have hm : s.replyMatches (x.heard .outside false) f = false := by
        rw [Bool.eq_false_iff, ne_eq, State.replyMatches_iff]
        rintro ⟨i, hb, hdest, hsrc, htag, hkind⟩
        obtain h | h | h | h := hno
        exacts [h hdest, h htag, h hkind, h i hb hsrc]
      have hexec : exec (.branchFrameValid b o) s = .next (if x.deadlinePassed then (s.setBranch b y).attemptFails b .silent
          else s.setBranch b { y with state := .awaiting }) := by
        rw [exec_of_arrives hst harr, State.replyReceived_stray hm]
        rfl
      refine ⟨fun hp => by rw [hexec, if_neg (by simp [hp])], fun hp => ?_⟩
      rw [hexec, if_pos hp]
      intro again freed
      refine ⟨fun slot e r hb he hr hlt hmark => ?_, fun slot e a r hs hb he ho ha hr hlast => ?_, fun p sent hs hb hl hsent => ?_,
        fun p hs hb hl => ?_, fun i hb hlt hmark => ?_, fun i hb hlast => ?_⟩
      · rw [State.fails_station_retried (y := y) .silent hb he hr hlt hmark]
        rfl
      · obtain ⟨u, hu, hframe, hdone⟩ := State.fails_station_ended (y := y) .silent hs rfl rfl hb he ho ha hr hlast
        exact ⟨u, congrArg Host.Outcome.next hu, hframe, hdone⟩
      · rw [State.fails_poll (y := y) .silent hs rfl rfl hb, State.pollEnded_live hl hsent]
        rfl
      · rw [State.fails_poll (y := y) .silent hs rfl rfl hb, State.pollEnded_dead hl]
        rfl
      · rw [State.fails_failsafe_retried (y := y) .silent hb hlt hmark]
        rfl
      · obtain ⟨v, hv, hrest⟩ := State.fails_failsafe_ended (s := s) (y := y) .silent rfl rfl hb hlast
        exact ⟨v, congrArg Host.Outcome.next hv, hrest⟩
    · rw [hwaiting n hst hph, quietWait_eq]
      rfl
    · rw [hrunning n hst hph hi, Branch.interrupted, quietWait_eq]
      rfl
  · intro x z
    refine ⟨fun h => ?_, fun os quiet straddle hc hrx hq hst => ?_⟩
    · have hreach : OctetReaches s b c .outside false := by
        rcases h with ⟨f, o, hc, hbr⟩ | ⟨o, os, quiet, straddle, begun, hc, hrx, h5, ho⟩
        · exact .inr (.inr (.inr (.inl ⟨f, o, hc, hbr, rfl, rfl⟩)))
        · exact .inr (.inr (.inr (.inr ⟨o, os, quiet, straddle, begun, hc, hrx, h5, ho, rfl, rfl⟩)))
      obtain ⟨hrunning, hwaiting, hfault, hidle⟩ := exec_of_octetReaches_state hreach
      refine ⟨hidle, hfault, fun n hst hph => ?_, fun n hst hph hi => ?_⟩
      · rw [hwaiting n hst hph, quietWait_eq]
        rfl
      · rw [hrunning n hst hph hi, Branch.interrupted, quietWait_eq]
        rfl
    · subst hc
      rw [exec_branchGap, if_pos ((Receiver.gapReached_iff _ _).2 ⟨os, quiet, straddle, hrx, hq⟩)]
      simp only [State.gapOn]
      rw [if_neg hst]
      rfl

/-! ### The end of a sending (R75, R76) -/

theorem exec_branchEndOfSending {s : State} {b : BranchId} {i : BoundItem} (hrun : s.seq.run ≠ .loading)
    (hst : (s.branch b).state = .sending) (hleft : (s.branch b).sendLeft = some 0) (hb : (s.branch b).bound = some i) :
    exec (.branchEndOfSending b) s = .next (match i with
      | .share slot => (s.setBranch b (s.branch b).stopSending).shareSent b slot
      | _ => s.setBranch b { (s.branch b).stopSending with
          state := .awaiting, deadline := some (timeoutPeriods (s.replyTimeout i)), deadlinePassed := false }) := by
  change execBranchEndOfSending b s = _
  rw [execBranchEndOfSending]
  simp only [s.live_iff.2 hrun, (Branch.sendDone_iff _).2 ⟨hst, hleft⟩, if_true, hb, State.setBranch_setBranch]
  cases i <;> rfl

/-- Several completions of one entry are one (R12). -/
theorem State.completeEach_same {s : State} {k : Nat} {f : Form} {e : Entry} (he : s.table.find? k = some e)
    (ho : e.state.isOpen = true) {jobs : List Job} (hjobs : ∀ j ∈ jobs, j = { slot := k, form := f }) (hne : jobs ≠ []) :
    s.completeEach jobs = s.complete k f := by
  have hclosed : ∃ x, (s.complete k f).table.find? k = some x ∧ x.state.isOpen = false := by
    obtain ⟨-, -, -, hplace⟩ := State.complete_open s k f e he ho
    split at hplace
    · exact ⟨_, hplace.1, rfl⟩
    · exact ⟨_, hplace.1, rfl⟩
  have hrest (more : List Job) (hmore : ∀ j ∈ more, j = { slot := k, form := f }) :
      (s.complete k f).completeEach more = s.complete k f := by
    obtain ⟨x, hx, hxo⟩ := hclosed
    induction more with
    | nil => rfl
    | cons j js ih =>
      rw [State.completeEach, List.foldl_cons, hmore j List.mem_cons_self, State.complete_closed _ k f x hx hxo]
      exact ih fun i hi => hmore i (List.mem_cons_of_mem j hi)
  cases jobs with
  | nil => exact absurd rfl hne
  | cons j js =>
    rw [State.completeEach, List.foldl_cons, hjobs j List.mem_cons_self]
    exact hrest js fun i hi => hjobs i (List.mem_cons_of_mem j hi)

theorem State.mem_doneJobs {s : State} {j : Job} :
    j ∈ s.doneJobs ↔ ∃ x ∈ s.table.entries, x.spreadOut = true ∧ j = { slot := x.slot, form := .done } := by
  simp only [State.doneJobs, List.mem_map, List.mem_filter, and_assoc, eq_comm (a := j)]

/-- An update of one entry is the entry put in its place. -/
theorem State.updateEntry_congr {s : State} {slot : Nat} {f g : Entry → Entry}
    (h : ∀ x ∈ s.table.entries, x.slot = slot → f x = g x) : s.updateEntry slot f = s.updateEntry slot g := by
  have hmap : (s.table.entries.map fun x => if x.slot = slot then f x else x) =
      s.table.entries.map fun x => if x.slot = slot then g x else x :=
    List.map_congr_left fun x hx => by
      by_cases hk : x.slot = slot
      · rw [if_pos hk, if_pos hk, h x hx hk]
      · rw [if_neg hk, if_neg hk]
  simp only [State.updateEntry, Table.update, hmap]

theorem State.replyTimeout_entry {s : State} {slot : Nat} {e : Entry} {r : Route} (he : s.table.find? slot = some e)
    (hr : e.route = some r) : s.replyTimeout (.station slot) = r.timeout := by
  rw [State.replyTimeout, he, Option.bind_some, hr]
  rfl

/-- Settles O24. -/
theorem sendingEnds : Obligations.SendingEnds := by
  refine ⟨fun s b ms hrun hst hleft h => ?_, fun s b slot e sets hrun hst hleft hb he horig hspread hsets hpend huniq hnone => ?_⟩
  · obtain ⟨slot, e, r, hb, he, hr, hms⟩ | ⟨p, hb, hms⟩ | ⟨i, hb, hms⟩ := h
    · rw [exec_branchEndOfSending hrun hst hleft hb]
      simp only [State.replyTimeout_entry he hr, hms]
      rfl
    · rw [exec_branchEndOfSending hrun hst hleft hb, ← hms]
      rfl
    · rw [exec_branchEndOfSending hrun hst hleft hb, ← hms]
      rfl
  · intro moved e' u
    have hslot : e.slot = slot := Table.find?_slot he
    have hmove : e.moveSent b = e' := by simp only [Entry.moveSent, hsets, hpend, if_true, e', moved]
    have hu : ((s.setBranch b (s.branch b).stopSending).updateEntry slot (Entry.moveSent b)).freeBranch b = u := by
      have hentry : s.updateEntry slot (Entry.moveSent b) = s.updateEntry slot fun _ => e' :=
        State.updateEntry_congr fun x hx hk => by rw [huniq x hx hk, hmove]
      change ((s.updateEntry slot (Entry.moveSent b)).setBranch b (s.branch b).stopSending).freeBranch b = u
      rw [hentry, State.freeBranch, State.branch_setBranch_self, State.setBranch_setBranch]
      rfl
    have hfind : u.table.find? slot = some e' := by
      change (s.table.entries.map fun x => if x.slot = slot then e' else x).find? (fun x => x.slot == slot) = some e'
      have hmap : (s.table.entries.map fun x => if x.slot = slot then e' else x) =
          s.table.entries.map fun x => if x.slot = slot then { e' with slot := x.slot } else x :=
        List.map_congr_left fun x _ => by
          by_cases hk : x.slot = slot
          · rw [if_pos hk, if_pos hk, hk, ← hslot]
          · rw [if_neg hk, if_neg hk]
      have hsome : s.table.entries.find? (fun x => x.slot == slot) = some e := he
      rw [hmap, find?_update s.table.entries slot slot (fun x => { e' with slot := x.slot }) (fun _ => rfl), if_pos rfl, hsome]
      rfl
    have hexec : exec (.branchEndOfSending b) s = .next (u.completeAll u.doneJobs).settle := by
      rw [exec_branchEndOfSending hrun hst hleft hb]
      simp only [State.shareSent]
      rw [hu, ← hu]
      rfl
    have hout : e'.spreadOut = emptySet moved.pending := by
      simp only [Entry.spreadOut, e', hspread, beq_self_eq_true, Bool.true_and]
    have hjobs : ∀ j ∈ u.doneJobs, j = { slot := slot, form := .done } ∧ emptySet moved.pending = true := by
      intro j hj
      obtain ⟨x, hx, hxs, rfl⟩ := State.mem_doneJobs.1 hj
      change x ∈ s.table.entries.map fun x => if x.slot = slot then e' else x at hx
      obtain ⟨y, hy, rfl⟩ := List.mem_map.1 hx
      by_cases hk : y.slot = slot
      · rw [if_pos hk] at hxs ⊢
        exact ⟨by rw [← hslot], hout ▸ hxs⟩
      · rw [if_neg hk, hnone y hy] at hxs
        cases hxs
    refine ⟨fun hempty => ?_, fun hempty => ?_⟩
    · have hno : u.doneJobs = [] := List.eq_nil_iff_forall_not_mem.2 fun j hj => by
        rw [(hjobs j hj).2] at hempty
        cases hempty
      rw [hexec, hno, State.completeAll_nil]
    · have hopen : e'.state.isOpen = true := by
        change e.state.isOpen = true
        rw [hspread]
        rfl
      have hne : u.doneJobs ≠ [] := List.ne_nil_of_mem (State.mem_doneJobs.2
        ⟨e', List.mem_of_find?_eq_some hfind, hout.trans hempty, rfl⟩)
      have hall : u.completeAll u.doneJobs = u.complete slot .done :=
        State.completeEach_same hfind hopen (fun j hj => (hjobs j ((u.sortJobs_perm _).mem_iff.1 hj)).1)
          fun hnil => hne (by simpa [hnil] using (u.sortJobs_perm u.doneJobs))
      have hdone := State.complete_open u slot .done e' hfind hopen
      have hnote : releaseNote e' (answerFrame u.own .done e') = .entry slot := by
        have horig' : e'.origin = .broadcast := horig
        have hslot' : e'.slot = slot := hslot
        simp only [releaseNote, horig', hslot']
      rw [hnote] at hdone
      exact ⟨u.complete slot .done, by rw [hexec, hall], u.complete_frame slot .done, hdone⟩

end Sys2Proof.Machine
end

section
/-! PROOFS. The agent's early checks (R140 to R145), RESTART (R165), and the timers of slots and tokens (R60, R96). -/

namespace Sys2Proof.Machine

/-! ### A take (R139, R140) -/

section Take

variable {s : State} {slot : Nat} {e : Entry} {args : List Octet}

/-- The agent goes on after a completion in its take, and the rest of the part stands as it did. -/
theorem State.serveNext_taken {w : State} (h : w = { s.headTaken with table := w.table, up := w.up }) :
    w.serveNext = { s with table := w.serveNext.table, up := w.serveNext.up, agent := w.serveNext.agent, free := w.serveNext.free } := by
  generalize w.table = table, w.up = up at h
  subst h
  rw [State.serveNext_frame]
  rfl

/-- A take whose action has no effect but its answer. -/
theorem answers_of_takeHead {named : List Octet → Bool} {act : TakeAction} {p : List Octet} (h : Takes s slot e p)
    (hn : named p = true) {op : Octet} {r : Result} {d : List Octet}
    (hact : act slot p.tail s.headTaken = (s.headTaken, [managedJob s.headTaken slot op r d])) :
    ∃ t, takeHead named act s = .next t ∧ Answers s t slot e s.active.settings.ownAddr op r.octet d
      (releaseNote e { dest := e.ctrl, src := s.active.settings.ownAddr, tag := e.tag, kind := 0x3F#8
                       payload := op :: r.octet :: d }) := by
  have hfind : s.headTaken.table.find? slot = some e := h.2.2.2.1
  have hopen : e.state.isOpen = true := by rw [h.2.2.2.2.1]; rfl
  obtain ⟨hseq, hcount, hother, hplace⟩ := State.complete_open s.headTaken slot (.managed s.own op r d) e hfind hopen
  have hframe := State.complete_frame s.headTaken slot (.managed s.own op r d)
  have hserve := State.serveNext_frame (s.headTaken.complete slot (.managed s.own op r d))
  have hexec := takeHead_of_takes named act h hn
  rw [hact, State.completeAll_single] at hexec
  refine ⟨_, hexec, ?_, ?_, ?_, ?_⟩
  · change Completes s (s.headTaken.complete slot (.managed s.own op r d)).serveNext _ _ _ _ _
    rw [hserve]
    exact ⟨hseq, hcount, hother, hplace⟩
  · change AgentGoesOn s (s.headTaken.complete slot (.managed s.own op r d)).serveNext
    rw [hframe]
    exact State.serveNext_goesOn _ _ rfl rfl
  · change (s.headTaken.complete slot (.managed s.own op r d)).serveNext.agent.working = _
    rw [hframe]
    unfold State.serveNext
    split <;> rfl
  · exact State.serveNext_taken hframe

/-- Past the early checks the operation itself is carried out (R140). -/
theorem guardedAction_passed {op : Op} (act : TakeAction) (hl : op.locked = true → Unlocked s)
    (hb : op.barredByRestart = true → s.seq.run ≠ .restartPending) (slot : Nat) (args : List Octet) :
    guardedAction op act slot args s.headTaken = act slot args s.headTaken := by
  have hrun : ¬ (op.barredByRestart && s.headTaken.seq.run == .restartPending) = true := by
    rw [Bool.and_eq_true, beq_iff_eq]
    exact fun h => hb h.1 h.2
  rw [guardedAction, if_neg hrun]
  by_cases hlock : op.locked = true
  · obtain ⟨hlevel, hage⟩ := hl hlock
    have hsample : s.headTaken.sampleCfgen = (s.pins.cfgen, s.headTaken) := if_pos hage
    simp only [if_pos hlock, hsample, hlevel, if_true]
  · rw [if_neg hlock]

/-- The take of an operation past the early checks. -/
theorem takeOp_of_takes {op : Op} (act : TakeAction) (h : Takes s slot e (op.octet :: args)) (hl : op.locked = true → Unlocked s)
    (hb : op.barredByRestart = true → s.seq.run ≠ .restartPending) : takeOp op act s =
      .next (((act slot args s.headTaken).1.completeAll (act slot args s.headTaken).2).serveNext) := by
  have hexec := takeHead_of_takes (fun p => p.head? == some op.octet) (guardedAction op act) h (by simp)
  rw [List.tail_cons, guardedAction_passed act hl hb] at hexec
  exact hexec

/-- An operation that refuses by its own conditions changes nothing but the answer (R175). -/
theorem answers_of_refusal {op : Op} {act : TakeAction} (h : Takes s slot e (op.octet :: args))
    (hl : op.locked = true → Unlocked s) (hb : op.barredByRestart = true → s.seq.run ≠ .restartPending) {r : Result}
    {d : List Octet} (hact : act slot args s.headTaken = (s.headTaken, [managedJob s.headTaken slot op.octet r d])) :
    ∃ t, takeOp op act s = .next t ∧ Answers s t slot e s.active.settings.ownAddr op.octet r.octet d
      (releaseNote e { dest := e.ctrl, src := s.active.settings.ownAddr, tag := e.tag, kind := 0x3F#8
                       payload := op.octet :: r.octet :: d }) :=
  answers_of_takeHead h (by simp) (by rw [List.tail_cons, guardedAction_passed act hl hb, hact])

end Take

/-! ### The early checks (R140, R142, R143, R145) -/

theorem Op.octet_range (op : Op) : 1 ≤ op.octet.toNat ∧ op.octet.toNat ≤ 0x18 := by
  cases op <;> simp [Op.octet]

theorem Op.ofOctet?_eq_none {o : Octet} (h : o = 0x00#8 ∨ 0x18 < o.toNat) : Op.ofOctet? o = none := by
  refine List.find?_eq_none.2 fun op _ hop => ?_
  obtain ⟨hlow, hhigh⟩ := op.octet_range
  rw [beq_iff_eq] at hop
  rw [hop] at hlow hhigh
  obtain rfl | h := h
  · exact absurd hlow (by decide)
  · omega

theorem State.headPayload_of_takes {s : State} {slot : Nat} {e : Entry} {p : List Octet} (h : Takes s slot e p) :
    s.headPayload = p := by
  obtain ⟨-, -, hq, hfind, -, -, hp⟩ := h
  obtain ⟨rest, hqueue⟩ : ∃ rest, s.agent.queue = slot :: rest := by
    cases hqueue : s.agent.queue with
    | nil => simp [hqueue] at hq
    | cons k rest =>
      rw [hqueue, List.head?_cons, Option.some_inj] at hq
      exact ⟨rest, by rw [hq]⟩
  rw [State.headPayload, hqueue]
  simp only [hfind, hp, Option.map_some, Option.getD_some]

/-- NOT_READY in RESTART_PENDING, before the lock (R145). -/
theorem answers_notReady {s : State} {slot : Nat} {e : Entry} {args : List Octet} {op : Op} (act : TakeAction)
    (h : Takes s slot e (op.octet :: args)) (hb : op.barredByRestart = true) (hrun : s.seq.run = .restartPending) :
    ∃ t, takeOp op act s = .next t ∧ Answers s t slot e s.active.settings.ownAddr op.octet 0x0C#8 [] (.entry slot) := by
  have hbar : (op.barredByRestart && s.headTaken.seq.run == .restartPending) = true := by
    rw [hb, Bool.true_and, beq_iff_eq]
    exact hrun
  obtain ⟨t, ht, ha⟩ := answers_of_takeHead (act := guardedAction op act) (named := fun p => p.head? == some op.octet) h
    (by simp) (r := .notReady) (d := []) (by rw [guardedAction, if_pos hbar])
  have hne : op.octet ≠ 0x0B#8 := by cases op <;> first | exact absurd hb (by decide) | decide
  rw [releaseNote_managed h.slot_eq hne (.inr (by decide))] at ha
  exact ⟨t, ht, ha⟩

/-- The answer to an operation refused before it ran carries no note beyond the slot, but that of COMMIT (R128). -/
theorem releaseNote_refused {s : State} {slot : Nat} {e : Entry} {p : List Octet} (h : Takes s slot e p) (op : Op) (own : Octet)
    {code : Octet} (hcode : code ≠ 0#8) (d : List Octet) :
    releaseNote e { dest := e.ctrl, src := own, tag := e.tag, kind := 0x3F#8, payload := op.octet :: code :: d } =
      if op = .commit then .entryRate slot else .entry slot := by
  obtain ⟨-, -, -, hfind, -, horig, -⟩ := h
  have hslot : e.slot = slot := Table.find?_slot hfind
  by_cases hop : op = .commit
  · subst hop
    simp only [releaseNote, horig, hslot, if_true]
  · have hne : op.octet ≠ 0x0B#8 := by cases op <;> first | exact absurd rfl hop | decide
    rw [if_neg hop, releaseNote_managed hslot hne (.inr hcode)]

/-- LOCKED with CFGEN low, whatever the argument (R142). -/
theorem answers_locked {s : State} {slot : Nat} {e : Entry} {args : List Octet} {op : Op} (act : TakeAction)
    (h : Takes s slot e (op.octet :: args)) (hlock : op.locked = true) (hl : LockedOut s)
    (hb : op.barredByRestart = true → s.seq.run ≠ .restartPending) :
    ∃ t, takeOp op act s = .next t ∧ Answers s t slot e s.active.settings.ownAddr op.octet 0x03#8 []
      (if op = .commit then .entryRate slot else .entry slot) := by
  have hrun : ¬ (op.barredByRestart && s.headTaken.seq.run == .restartPending) = true := by
    rw [Bool.and_eq_true, beq_iff_eq]
    exact fun h => hb h.1 h.2
  have hsample : s.headTaken.sampleCfgen = (s.pins.cfgen, s.headTaken) := if_pos hl.2
  have hact : guardedAction op act slot args s.headTaken = (s.headTaken, [managedJob s.headTaken slot op.octet .locked []]) := by
    rw [guardedAction, if_neg hrun, if_pos hlock]
    simp only [hsample, hl.1, Bool.false_eq_true, if_false]
  obtain ⟨t, ht, ha⟩ := answers_of_takeHead (named := fun p => p.head? == some op.octet) h (by simp) hact
  rw [releaseNote_refused h op _ (by decide)] at ha
  exact ⟨t, ht, ha⟩

/-- Settles O47. -/
theorem earlyChecksRefuse : Obligations.EarlyChecksRefuse := by
  intro s slot e own
  refine ⟨fun h => ?_, fun op args hop h => ?_, fun op c args hmem hrun h => ?_, fun op c note args hmem hl hrun h => ?_⟩
  · obtain ⟨t, ht, ha⟩ := answers_of_takeHead (named := namesNoOperation) (act := badOperationAction s.headPayload) h rfl
      (op := 0x00#8) (r := .badArgument) (d := []) (by rw [State.headPayload_of_takes h]; rfl)
    rw [releaseNote_managed h.slot_eq (by decide) (.inl (by decide))] at ha
    exact ⟨t, ht, ha⟩
  · have hnone := Op.ofOctet?_eq_none hop
    obtain ⟨t, ht, ha⟩ := answers_of_takeHead (named := namesNoOperation) (act := badOperationAction s.headPayload) h
      (by rw [namesNoOperation, hnone]; rfl) (op := op) (r := .badOperation) (d := []) (by rw [State.headPayload_of_takes h]; rfl)
    have hne : op ≠ 0x0B#8 := by
      rintro rfl
      exact absurd hop (by decide)
    rw [releaseNote_managed h.slot_eq hne (.inr (by decide))] at ha
    exact ⟨t, ht, ha⟩
  · simp only [List.mem_cons, List.not_mem_nil, or_false, Prod.mk.injEq] at hmem
    obtain ⟨rfl, rfl⟩ | ⟨rfl, rfl⟩ | ⟨rfl, rfl⟩ := hmem
    · exact answers_notReady (op := .saveImage) saveImageAction h rfl hrun
    · exact answers_notReady (op := .retireImage) retireImageAction h rfl hrun
    · exact answers_notReady (op := .restart) (oneStep .restart restart) h rfl hrun
  · simp only [List.mem_cons, List.not_mem_nil, or_false, Prod.mk.injEq] at hmem
    obtain ⟨rfl, rfl, rfl⟩ | ⟨rfl, rfl, rfl⟩ | ⟨rfl, rfl, rfl⟩ | ⟨rfl, rfl, rfl⟩ | ⟨rfl, rfl, rfl⟩ | ⟨rfl, rfl, rfl⟩ |
      ⟨rfl, rfl, rfl⟩ | ⟨rfl, rfl, rfl⟩ := hmem
    · exact answers_locked (op := .putSettings) (oneStep .putSettings putSettings) h rfl hl nofun
    · exact answers_locked (op := .putStation) (oneStep .putStation putStation) h rfl hl nofun
    · exact answers_locked (op := .dropStation) (oneStep .dropStation dropStation) h rfl hl nofun
    · exact answers_locked (op := .revertShadow) (oneStep .revertShadow revertShadow) h rfl hl nofun
    · exact answers_locked (op := .clearShadow) (oneStep .clearShadow clearShadow) h rfl hl nofun
    · exact answers_locked (op := .commit) commitAction h rfl hl nofun
    · exact answers_locked (op := .saveImage) saveImageAction h rfl hl fun _ hp => (hrun hp).1 rfl
    · exact answers_locked (op := .retireImage) retireImageAction h rfl hl fun _ hp => (hrun hp).2 rfl

/-! ### RESTART (R165) -/

theorem restart_actsApart : ActsApart restart where
  headTaken args s := by
    match args with
    | [] => rfl
    | _ :: _ :: _ => rfl
    | [arg] =>
      simp only [restart]
      cases RestartKind.ofOctet? arg with
      | none => rfl
      | some k =>
        by_cases hidle : s.store.busy = .idle
        · simp only [State.headTaken, hidle, ne_eq, not_true, if_false]
          rfl
        · simp only [State.headTaken, hidle, ne_eq, not_false_eq_true, if_true]
          rfl
  table args s := by
    unfold restart
    split
    · split
      · rfl
      · split <;> rfl
    · rfl

/-- RESTART past the early checks answers by its meaning (R165). -/
theorem restart_answers {s : State} {slot : Nat} {e : Entry} {args : List Octet} (h : Takes s slot e (0x18#8 :: args))
    (hrun : s.seq.run = .running) : ∃ t, exec .restart s = .next t ∧
      Answers (restart args s).state t slot e s.active.settings.ownAddr 0x18#8 (restart args s).result.octet (restart args s).data
        (releaseNote e { dest := e.ctrl, src := s.active.settings.ownAddr, tag := e.tag, kind := 0x3F#8
                         payload := 0x18#8 :: (restart args s).result.octet :: (restart args s).data }) := by
  have happly := restart_actsApart.headTaken args s
  exact answers_of_takeOp .restart restart h (fun hl => nomatch hl) (fun _ => by rw [hrun]; nofun)
    (restart args s).state (by rw [happly]) (by rw [restart_actsApart.table]) (restart args s).result (restart args s).data
    (by rw [happly]) (by rw [happly])

theorem restart_badArgument {args : List Octet} (s : State) (h1 : args ≠ [0x01#8]) (h2 : args ≠ [0x02#8]) :
    restart args s = badArgument s := by
  match args, h1, h2 with
  | [], _, _ => rfl
  | _ :: _ :: _, _, _ => rfl
  | [arg], h1, h2 =>
    have hnone : RestartKind.ofOctet? arg = none := by
      have h1' : arg ≠ 0x01#8 := fun h => h1 (by rw [h])
      have h2' : arg ≠ 0x02#8 := fun h => h2 (by rw [h])
      simp [RestartKind.ofOctet?, h1', h2']
    simp only [restart, hnone]

theorem restart_of_kind {arg : Octet} {k : RestartKind} (s : State) (hk : RestartKind.ofOctet? arg = some k) :
    restart [arg] s = if s.store.busy = .idle then okData [arg] { s with seq := { s.seq with run := .restartPending } }
      else storeBusy s := by
  simp only [restart, hk, ne_eq, ite_not]

/-- The answer OK to RESTART carries the note of its kind (R128). -/
theorem releaseNote_restart {s : State} {slot : Nat} {e : Entry} {p : List Octet} (h : Takes s slot e p) (own arg : Octet)
    {k : RestartKind} (hk : RestartKind.ofOctet? arg = some k) :
    releaseNote e { dest := e.ctrl, src := own, tag := e.tag, kind := 0x3F#8, payload := [0x18#8, 0x00#8, arg] } =
      .entryRestart slot k := by
  obtain ⟨-, -, -, hfind, -, horig, -⟩ := h
  have hslot : e.slot = slot := Table.find?_slot hfind
  simp [releaseNote, horig, Op.octet, Result.octet, hk, hslot]

/-- Settles O46. -/
theorem restartIsAccepted : Obligations.RestartIsAccepted := by
  intro s slot e args h hrun own
  obtain ⟨t, ht, ha⟩ := restart_answers h hrun
  refine ⟨t, ht, fun h1 h2 => ?_, fun hargs hbusy => ?_, fun hidle => ⟨fun hargs => ?_, fun hargs => ?_⟩⟩
  · rw [restart_badArgument s h1 h2] at ha
    rw [← releaseNote_managed (own := own) (op := 0x18#8) (code := 0x02#8) (d := []) h.slot_eq (by decide) (.inr (by decide))]
    exact ha
  · obtain ⟨arg, k, rfl, hk⟩ : ∃ arg k, args = [arg] ∧ RestartKind.ofOctet? arg = some k := by
      obtain rfl | rfl := hargs
      exacts [⟨_, .warm, rfl, rfl⟩, ⟨_, .cold, rfl, rfl⟩]
    rw [restart_of_kind s hk, if_neg hbusy] at ha
    rw [← releaseNote_managed (own := own) (op := 0x18#8) (code := 0x07#8) (d := s.store.busy.octets) h.slot_eq (by decide)
      (.inr (by decide))]
    exact ha
  · subst hargs
    rw [restart_of_kind (k := .warm) s rfl, if_pos hidle] at ha
    rw [← releaseNote_restart (k := .warm) h own 0x01#8 rfl]
    exact ha
  · subst hargs
    rw [restart_of_kind (k := .cold) s rfl, if_pos hidle] at ha
    rw [← releaseNote_restart (k := .cold) h own 0x02#8 rfl]
    exact ha

end Sys2Proof.Machine
end

section
/-! PROOFS. Slots and refills that come due (R60, R96), and the views of the part (R93, R105, R123, R152). -/

namespace Sys2Proof.Machine

/-! ### Slots and refills (R60, R96) -/

/-- Within 60 s of the count a due time has been reached, or lies ahead (R95). -/
theorem Millis.reached_near {now due : Millis}
    (h : (now - due).toNat ≤ 60000 ∨ (0 < (due - now).toNat ∧ (due - now).toNat ≤ 60000)) :
    Millis.reached now due = decide ((now - due).toNat ≤ 60000) := by
  rw [Bool.eq_iff_iff, Millis.reached_iff, decide_eq_true_iff]
  rcases h with h | ⟨hpos, hle⟩
  · exact ⟨fun _ => h, fun _ => by omega⟩
  · have hback : (now - due).toNat = 2 ^ 32 - (due - now).toNat := by
      rw [BitVec.toNat_sub] at hpos hle ⊢
      rw [BitVec.toNat_sub]
      have hn := now.isLt
      have hd := due.isLt
      omega
    omega

theorem State.atCount_near {s : State} (h : DueTimesNear s) :
    s.scan.slots.map (ScanSlot.atCount s.clock.ms) = s.scan.slots.map fun (y : ScanSlot) =>
      match y.schedule with
      | .waiting d => if (s.clock.ms - d).toNat ≤ 60000 then { y with schedule := .overdue d } else y
      | .overdue _ => y := by
  refine List.map_congr_left fun y hy => ?_
  cases hs : y.schedule with
  | waiting d => simp only [ScanSlot.atCount, hs, Millis.reached_near (h y hy d hs), decide_eq_true_eq]
  | overdue d => simp only [ScanSlot.atCount, hs]

/-- Settles O32. -/
theorem slotsAndRefillsComeDue : Obligations.SlotsAndRefillsComeDue := by
  refine ⟨fun s x due hrun hfind hsched hle hnear => ?_, fun s x r b hrun hfind huniq ht hr hb hlt => ?_⟩
  · change execSlotDue x.addr s = _
    have hdue : x.dueReached s.clock.ms = true := ScanSlot.dueReached_iff.2 ⟨due, hsched, by omega⟩
    simp only [execSlotDue, s.live_iff.2 hrun, if_true, hfind, hdue]
    exact congrArg (fun slots => Host.Outcome.next (State.settle { s with scan := { s.scan with slots := slots } }))
      (State.atCount_near hnear)
  · change execRefillExpiry x.addr s = _
    have hmap : (s.tokens.map fun y => if y.addr = x.addr then y.refilled b else y) = s.tokens.map fun y =>
        if y.addr = x.addr then
          { x with count := x.count + 1, timer := if x.count + 1 < b.depth then some (b.refill * 10 * 18432) else none }
        else y := by
      refine List.map_congr_left fun y hy => ?_
      by_cases ha : y.addr = x.addr
      · have hmin : min b.depth (x.count + 1) = x.count + 1 := by omega
        rw [if_pos ha, if_pos ha, huniq y hy ha, TokenState.refilled, hmin]
        rfl
      · rw [if_neg ha, if_neg ha]
    simp only [execRefillExpiry, s.live_iff.2 hrun, if_true, hfind, hr, Option.bind_some, hb, ht, State.updateTokens, hmap]

/-! ### PEEK STATUS (R105) -/

theorem peekStatus_actsApart : ActsApart peekStatus where
  headTaken args s := by
    unfold peekStatus
    simp only [State.headTaken_scan, State.headTaken_active]
    split
    · split
      · split <;> rfl
      · rfl
    · rfl
  table args s := by rw [peekStatus_same]

theorem peekStatus_found {s : State} {a : Octet} {x : ScanSlot} {r : StationRecord} (ha : stationAddress a = true)
    (hx : s.scan.find? a = some x) (hr : s.active.record? a = some r) :
    peekStatus [a] s = okData (peekOctets x r.branch s.clock.ms) s := by
  simp only [peekStatus, ha, hx, hr, if_true]

theorem peekStatus_absent {s : State} {a : Octet} (ha : stationAddress a = true) (hx : s.scan.find? a = none) :
    peekStatus [a] s = refusedBy .noSuchStation [] s := by
  simp only [peekStatus, ha, hx, if_true]

theorem peekStatus_badAddress {a : Octet} (s : State) (ha : a = 0#8 ∨ a = 0xFF#8) : peekStatus [a] s = badArgument s := by
  simp only [peekStatus, stationAddress_eq_false ha, Bool.false_eq_true, if_false]

/-- The data of PEEK STATUS as R176 lays them out. -/
theorem peekOctets_eq (x : ScanSlot) (b : BranchId) (now : Millis) : peekOctets x b now =
    [x.addr, oct b.toNat, x.state.octet] ++ wordField x.word ++ [x.collState.octet] ++ wordField x.collWord
      ++ [oct ((if x.word.isNone then 1 else 0) + (if x.collWord.isNone then 2 else 0) + (if x.mark then 4 else 0)
            + (if x.pollBound then 8 else 0)), oct x.misses]
      ++ twoOct (x.timeToPoll now) := rfl

/-! ### GET BRANCH, GET TRANSACTIONS and GET FAILSAFE REPORT (R93, R123, R151, R152) -/

theorem getBranch_actsApart : ActsApart getBranch where
  headTaken args s := by
    unfold getBranch
    split
    · split <;> rfl
    · rfl
  table args s := by rw [getBranch_same]

theorem getTransactions_actsApart : ActsApart getTransactions where
  headTaken args s := by
    unfold getTransactions
    split
    · split <;> rfl
    · rfl
  table args s := by rw [getTransactions_same]

theorem getFailsafeReport_actsApart : ActsApart getFailsafeReport where
  headTaken args s := by
    unfold getFailsafeReport
    split <;> rfl
  table args s := by rw [getFailsafeReport_same]

theorem BranchId.ofNat?_eq {b : BranchId} {n : Nat} (h : b.toNat = n) : BranchId.ofNat? n = some b := by
  subst h
  cases b <;> rfl

theorem BranchId.ofNat?_eq_none {n : Nat} (h : 3 < n) : BranchId.ofNat? n = none := by
  match n, h with
  | _ + 4, _ => rfl

theorem getBranch_of_branch {n : Octet} {b : BranchId} (s : State) (h : b.toNat = n.toNat) :
    getBranch [n] s = okData (s.branchOctets b) s := by
  simp only [getBranch, BranchId.ofNat?_eq h]

theorem getBranch_above {n : Octet} (s : State) (h : 3 < n.toNat) : getBranch [n] s = badArgument s := by
  simp only [getBranch, BranchId.ofNat?_eq_none h]

/-- The bound item in GET BRANCH as R93 and R174 spell it. -/
theorem State.boundOctets_station (s : State) (k : Nat) : s.boundOctets (some (.station k)) =
    [0x01#8, (match s.table.find? k with
        | some x => (match x.station with | some a => a | none => 0xFF#8)
        | none => 0xFF#8),
     (match s.table.find? k with | some x => oct x.attempts | none => 0x00#8)] := by
  rw [State.boundOctets]
  cases s.table.find? k with
  | none => rfl
  | some x => cases hx : x.station <;> simp [hx, absentOct]

/-- An operation given other than one argument octet is refused (R144). -/
theorem views_badLength {args : List Octet} (s : State) (h : args.length ≠ 1) :
    peekStatus args s = badArgument s ∧ getBranch args s = badArgument s ∧ getTransactions args s = badArgument s
      ∧ getFailsafeReport args s = badArgument s := by
  match args, h with
  | [], _ => exact ⟨rfl, rfl, rfl, rfl⟩
  | [_], h => exact absurd rfl h
  | _ :: _ :: _, _ => exact ⟨rfl, rfl, rfl, rfl⟩

section Views

variable {s : State} {slot : Nat} {e : Entry} {args : List Octet}

theorem peekStatus_answers (h : Takes s slot e (0x0D#8 :: args)) :
    ∃ t, exec .peekStatus s = .next t ∧ AnswersBy s t slot e .peekStatus (peekStatus args s) :=
  answersBy_of_takes .peekStatus peekStatus_actsApart h (fun hl => nomatch hl) rfl

theorem getBranch_answers (h : Takes s slot e (0x10#8 :: args)) :
    ∃ t, exec .getBranch s = .next t ∧ AnswersBy s t slot e .getBranch (getBranch args s) :=
  answersBy_of_takes .getBranch getBranch_actsApart h (fun hl => nomatch hl) rfl

theorem getTransactions_answers (h : Takes s slot e (0x11#8 :: args)) :
    ∃ t, exec .getTransactions s = .next t ∧ AnswersBy s t slot e .getTransactions (getTransactions args s) :=
  answersBy_of_takes .getTransactions getTransactions_actsApart h (fun hl => nomatch hl) rfl

theorem getFailsafeReport_answers (h : Takes s slot e (0x17#8 :: args)) :
    ∃ t, exec .getFailsafeReport s = .next t ∧ AnswersBy s t slot e .getFailsafeReport (getFailsafeReport args s) :=
  answersBy_of_takes .getFailsafeReport getFailsafeReport_actsApart h (fun hl => nomatch hl) rfl

end Views

/-- The octets of an entry in GET TRANSACTIONS (R176). -/
theorem Entry.view_eq (x : Entry) : x.view =
    [oct x.slot, x.tag, x.origin.octet, x.state.octet, (match x.station with | some a => a | none => 0xFF#8), oct x.attempts] := by
  cases hx : x.station <;> simp [Entry.view, hx, absentOct]

/-- Settles O41: each view answers by its meaning on the state before the take. -/
theorem viewsAnswer : Obligations.ViewsAnswer := by
  intro s slot e own
  refine ⟨fun a h => ?_, fun n h => ?_, fun n h => ?_, fun start h => ?_, fun op c args hmem hlen h => ?_⟩
  · obtain ⟨t, ht, ha⟩ := peekStatus_answers h
    refine ⟨t, ht, fun hbad => ?_, fun h0 hF hnone => ?_, fun h0 hF x r hx hr => ?_⟩
    · rw [peekStatus_badAddress s hbad] at ha
      exact ha
    · rw [peekStatus_absent (stationAddress_eq_true h0 hF) hnone] at ha
      exact ha
    · rw [peekStatus_found (stationAddress_eq_true h0 hF) hx hr, peekOctets_eq] at ha
      have htime : x.timeToPoll s.clock.ms = (match x.schedule with
          | .overdue _ => 0
          | .waiting due => if (s.clock.ms - due).toNat < 2 ^ 31 then 0 else (due - s.clock.ms).toNat) := by
        cases hs : x.schedule with
        | overdue _ => simp only [ScanSlot.timeToPoll, hs]
        | waiting due => simp only [ScanSlot.timeToPoll, hs, Millis.reached_iff]
      rw [htime] at ha
      exact ha
  · obtain ⟨t, ht, ha⟩ := getBranch_answers h
    refine ⟨t, ht, fun habove => ?_, fun b hb => ?_⟩
    · rw [getBranch_above s habove] at ha
      exact ha
    · have hn : oct b.toNat = n := by rw [hb, oct, BitVec.ofNat_toNat, BitVec.setWidth_eq]
      rw [getBranch_of_branch s hb, State.branchOctets, hn] at ha
      cases hbound : (s.branch b).bound with
      | none =>
        rw [hbound] at ha
        exact ha
      | some i =>
        rw [hbound] at ha
        cases i with
        | station k =>
          rw [State.boundOctets_station] at ha
          exact ha
        | _ => exact ha
  · obtain ⟨t, ht, ha⟩ := getTransactions_answers h
    refine ⟨t, ht, fun habove => ?_, fun hlt => ?_⟩
    · have hnot : ¬ n.toNat < tableSize := Nat.not_lt.2 habove
      have hbad : getTransactions [n] s = badArgument s := if_neg hnot
      rw [hbad] at ha
      exact ha
    · have hok : getTransactions [n] s =
          okData ([oct s.table.entries.length, oct ((s.table.entries.filter fun x => n.toNat ≤ x.slot).take 10).length]
            ++ ((s.table.entries.filter fun x => n.toNat ≤ x.slot).take 10).flatMap Entry.view) s := if_pos hlt
      rw [hok, funext Entry.view_eq] at ha
      exact ha
  · obtain ⟨t, ht, ha⟩ := getFailsafeReport_answers h
    exact ⟨t, ht, ha⟩
  · obtain ⟨hpeek, hbranch, htxn, hreport⟩ := views_badLength s hlen
    simp only [List.mem_cons, List.not_mem_nil, or_false, Prod.mk.injEq] at hmem
    obtain ⟨rfl, rfl⟩ | ⟨rfl, rfl⟩ | ⟨rfl, rfl⟩ | ⟨rfl, rfl⟩ := hmem
    · obtain ⟨t, ht, ha⟩ := peekStatus_answers h
      rw [hpeek] at ha
      exact ⟨t, ht, ha⟩
    · obtain ⟨t, ht, ha⟩ := getBranch_answers h
      rw [hbranch] at ha
      exact ⟨t, ht, ha⟩
    · obtain ⟨t, ht, ha⟩ := getTransactions_answers h
      rw [htxn] at ha
      exact ⟨t, ht, ha⟩
    · obtain ⟨t, ht, ha⟩ := getFailsafeReport_answers h
      rw [hreport] at ha
      exact ⟨t, ht, ha⟩

end Sys2Proof.Machine
end

section
/-! PROOFS. PUT SETTINGS and PUT STATION (R29 to R31): what octets spell a group or a record, and the record put in its place. -/

namespace Sys2Proof.Machine

/-! ### Octets that spell a value -/

theorem oct_toNat (o : Octet) : oct o.toNat = o := by
  rw [oct, BitVec.ofNat_toNat, BitVec.setWidth_eq]

theorem twoOct_pairNat (hi lo : Octet) : twoOct (pairNat hi lo) = [hi, lo] := by
  have hl := lo.isLt
  have hdiv : pairNat hi lo / 256 = hi.toNat := by
    unfold pairNat
    omega
  have hmod : oct (pairNat hi lo) = lo := by
    apply BitVec.eq_of_toNat_eq
    simp only [oct, pairNat, BitVec.toNat_ofNat]
    omega
  rw [twoOct, hdiv, oct_toNat, hmod]

theorem pairNat_lt (hi lo : Octet) : pairNat hi lo < 65536 := by
  have hh := hi.isLt
  have hl := lo.isLt
  unfold pairNat
  omega

theorem UpRate.octet_of_ofOctet? {o : Octet} {r : UpRate} (h : UpRate.ofOctet? o = some r) : r.octet = o := by
  simpa using List.find?_some h

theorem BranchRate.octet_of_ofOctet? {o : Octet} {r : BranchRate} (h : BranchRate.ofOctet? o = some r) : r.octet = o := by
  simpa using List.find?_some h

theorem StartMode.octet_of_ofOctet? {o : Octet} {m : StartMode} (h : StartMode.ofOctet? o = some m) : m.octet = o := by
  unfold StartMode.ofOctet? at h
  split at h
  · cases h
    exact Eq.symm ‹_›
  · split at h
    · cases h
      exact Eq.symm ‹_›
    · cases h

theorem ActionKind.octet_of_ofOctet? {o : Octet} {k : ActionKind} (h : ActionKind.ofOctet? o = some k) : k.octet = o := by
  unfold ActionKind.ofOctet? at h
  split at h
  · cases h
    exact Eq.symm ‹_›
  · split at h
    · cases h
      exact Eq.symm ‹_›
    · cases h

theorem BranchId.toNat_of_ofNat? {n : Nat} {b : BranchId} (h : BranchId.ofNat? n = some b) : b.toNat = n := by
  match n, h with
  | 0, h => cases h; rfl
  | 1, h => cases h; rfl
  | 2, h => cases h; rfl
  | 3, h => cases h; rfl

/-- Marks below the top ones spell an octet by its low bits. -/
theorem bits_two {o : Octet} (h : o.toNat < 4) : oct (bitAt (o.getLsbD 0) 0 + bitAt (o.getLsbD 1) 1) = o := by
  obtain ⟨n, hn, rfl⟩ : ∃ n, n < 4 ∧ o = oct n := ⟨o.toNat, h, (oct_toNat o).symm⟩
  interval_cases n <;> rfl

theorem bits_four {o : Octet} (h : o.toNat < 16) :
    oct (bitAt (o.getLsbD 0) 0 + bitAt (o.getLsbD 1) 1 + bitAt (o.getLsbD 2) 2 + bitAt (o.getLsbD 3) 3) = o := by
  obtain ⟨n, hn, rfl⟩ : ∃ n, n < 16 ∧ o = oct n := ⟨o.toNat, h, (oct_toNat o).symm⟩
  interval_cases n <;> rfl

/-! ### The settings layout read (R31, R177) -/

theorem branchSettings?_eq_some {f r g u : Octet} {b : BranchSettings} (h : branchSettings? f r g u = some b) :
    b.octets = [f, r, g, u] ∧ b.inRange = true := by
  unfold branchSettings? at h
  split at h
  · cases h
  · rename_i rate hrate
    split at h
    · rename_i hrange
      cases h
      obtain ⟨hf, hg⟩ := hrange
      refine ⟨?_, by simpa [BranchSettings.inRange] using hg⟩
      rw [BranchSettings.octets, bits_two hf, BranchRate.octet_of_ofOctet? hrate, oct_toNat, oct_toNat]
    · cases h

theorem settings?_eq_some {args : List Octet} {c : Settings} (h : settings? args = some c) :
    c.inRange = true ∧ args = c.octets := by
  unfold settings? at h
  split at h
  · split at h
    · rename_i rate s0 s1 s2 s3 m hup h0 h1 h2 h3 hm
      split at h
      · rename_i hrange
        cases h
        obtain ⟨h0, h0r⟩ := branchSettings?_eq_some h0
        obtain ⟨h1, h1r⟩ := branchSettings?_eq_some h1
        obtain ⟨h2, h2r⟩ := branchSettings?_eq_some h2
        obtain ⟨h3, h3r⟩ := branchSettings?_eq_some h3
        refine ⟨by simp [Settings.inRange, hrange, h0r, h1r, h2r, h3r], ?_⟩
        simp only [Settings.octets, h0, h1, h2, h3, twoOct_pairNat, UpRate.octet_of_ofOctet? hup,
          StartMode.octet_of_ofOctet? hm, List.cons_append, List.nil_append]
      · cases h
    · cases h
  · cases h

/-! ### The record layout read (R30, R178) -/

theorem budget?_eq_some {p : Bool} {xs rest : List Octet} {b : Option Budget} (h : budget? p xs = some (b, rest)) :
    b.all Budget.inRange = true ∧ b.isSome = p ∧ xs = budgetOctets b ++ rest := by
  match p, xs, h with
  | false, xs, h =>
    cases h
    exact ⟨rfl, rfl, rfl⟩
  | true, d :: r :: xs, h =>
    simp only [budget?] at h
    split at h
    · rename_i hrange
      cases h
      have hr := r.isLt
      refine ⟨by simp [Budget.inRange, hrange]; omega, rfl, ?_⟩
      simp only [budgetOctets, oct_toNat, List.cons_append, List.nil_append]
    · cases h

theorem windowRun?_eq_some {n : Nat} : ∀ {xs rest : List Octet} {ws : List Window}, windowRun? n xs = some (ws, rest) →
    ws.length = n ∧ ws.all Window.inRange = true ∧ xs = (ws.flatMap fun w => twoOct w.first ++ twoOct w.last) ++ rest := by
  induction n with
  | zero =>
    intro xs rest ws h
    cases h
    exact ⟨rfl, rfl, rfl⟩
  | succ n ih =>
    intro xs rest ws h
    match xs, h with
    | fh :: fl :: lh :: ll :: xs, h =>
      simp only [windowRun?] at h
      split at h
      · rename_i ws' rest' hrun
        cases h
        obtain ⟨hlen, hall, hxs⟩ := ih hrun
        have hf := pairNat_lt fh fl
        have hl := pairNat_lt lh ll
        refine ⟨by rw [List.length_cons, hlen], ?_, ?_⟩
        · rw [List.all_cons, hall, Bool.and_true, Window.inRange, decide_eq_true_iff]
          exact ⟨Nat.le_of_lt_succ hf, Nat.le_of_lt_succ hl⟩
        · rw [List.flatMap_cons, twoOct_pairNat, twoOct_pairNat, hxs]
          rfl
      · cases h

theorem windows?_eq_some {p : Bool} {xs rest : List Octet} {ws : Option (List Window)} (h : windows? p xs = some (ws, rest)) :
    ws.all (fun ws => decide (ws.length ≤ 4) && ws.all Window.inRange) = true ∧ ws.isSome = p ∧ xs = windowOctets ws ++ rest := by
  match p, xs, h with
  | false, xs, h =>
    cases h
    exact ⟨rfl, rfl, rfl⟩
  | true, n :: xs, h =>
    simp only [windows?] at h
    split at h
    · rename_i hn
      split at h
      · rename_i ws' rest' hrun
        cases h
        obtain ⟨hlen, hall, hxs⟩ := windowRun?_eq_some hrun
        refine ⟨by rw [Option.all_some, hall, hlen, Bool.and_true, decide_eq_true_iff]; exact hn, rfl, ?_⟩
        rw [windowOctets, hlen, oct_toNat, hxs]
        rfl
      · cases h
    · cases h

theorem scan?_eq_some {p : Bool} {xs rest : List Octet} {n : Option Nat} (h : scan? p xs = some (n, rest)) :
    n.all (fun n => decide (1 ≤ n ∧ n ≤ 600)) = true ∧ n.isSome = p ∧ xs = scanOctets n ++ rest := by
  match p, xs, h with
  | false, xs, h =>
    cases h
    exact ⟨rfl, rfl, rfl⟩
  | true, hi :: lo :: xs, h =>
    simp only [scan?] at h
    split at h
    · rename_i hrange
      cases h
      refine ⟨by rw [Option.all_some, decide_eq_true_iff]; exact hrange, rfl, ?_⟩
      rw [scanOctets, twoOct_pairNat]
      rfl
    · cases h

theorem action?_eq_some {p : Bool} {xs : List Octet} {a : Option FailsafeAction} (h : action? p xs = some a) :
    a.all (fun a => decide (1 ≤ a.payload.length ∧ a.payload.length ≤ 32)) = true ∧ a.isSome = p ∧ xs = actionOctets a := by
  match p, xs, h with
  | false, [], h =>
    cases h
    exact ⟨rfl, rfl, rfl⟩
  | true, k :: n :: payload, h =>
    simp only [action?] at h
    split at h
    · rename_i kind hk
      split at h
      · rename_i hrange
        cases h
        obtain ⟨h1, h32, hlen⟩ := hrange
        refine ⟨by rw [Option.all_some, decide_eq_true_iff, hlen]; exact ⟨h1, h32⟩, rfl, ?_⟩
        simp only [actionOctets, ActionKind.octet_of_ofOctet? hk, hlen, oct_toNat, List.cons_append, List.nil_append]
      · cases h
    · cases h

theorem stationRecord?_eq_some {args : List Octet} {r : StationRecord} (h : stationRecord? args = some r) :
    r.inRange = true ∧ args = r.octets := by
  unfold stationRecord? at h
  split at h
  · rename_i addr br cls th tl ret pres rest
    split at h
    · rename_i branch budget rest1 hbr hbudget
      split at h
      · rename_i windows rest2 hwindows
        split at h
        · rename_i scan rest3 hscan
          split at h
          · rename_i failsafe haction
            split at h
            · rename_i hrange
              cases h
              obtain ⟨haddr, hcls, ht5, ht, hret, hpres⟩ := hrange
              obtain ⟨hb, hbp, rfl⟩ := budget?_eq_some hbudget
              obtain ⟨hw, hwp, rfl⟩ := windows?_eq_some hwindows
              obtain ⟨hs, hsp, rfl⟩ := scan?_eq_some hscan
              obtain ⟨ha, hap, rfl⟩ := action?_eq_some haction
              refine ⟨?_, ?_⟩
              · simp only [StationRecord.inRange, haddr, ht5, ht, hret, hb, hw, hs, ha, and_self, decide_true, Bool.and_true]
              · simp only [StationRecord.octets, StationRecord.presence, ClassSet.octet, hbp, hwp, hsp, hap, bits_four hcls,
                  bits_four hpres, BranchId.toNat_of_ofNat? hbr, oct_toNat, twoOct_pairNat, List.cons_append, List.nil_append,
                  List.append_assoc]
            · cases h
          · cases h
        · cases h
      · cases h
    · cases h
  · cases h

/-! ### The record in its place (R29, R30) -/

theorem ConfigSet.record?_put (c : ConfigSet) (r : StationRecord) (a : Octet) :
    (c.put r).record? a = if a = r.addr then some r else c.record? a := by
  change (insertRecord r c.stations).find? _ = if a = r.addr then some r else c.stations.find? _
  induction c.stations with
  | nil =>
    by_cases ha : a = r.addr
    · simp [insertRecord, ha]
    · simp [insertRecord, ha, Ne.symm ha]
  | cons x xs ih =>
    by_cases ha : a = r.addr
    · rw [if_pos ha] at ih ⊢
      unfold insertRecord
      split
      · simp [ha]
      · rename_i hne
        split
        · simp [ha]
        · rw [List.find?_cons_of_neg (by simpa [ha] using Ne.symm hne)]
          exact ih
    · rw [if_neg ha] at ih ⊢
      unfold insertRecord
      split
      · rename_i heq
        rw [List.find?_cons_of_neg (by simpa using Ne.symm ha), List.find?_cons_of_neg (by simpa [← heq] using Ne.symm ha)]
      · split
        · rw [List.find?_cons_of_neg (by simpa using Ne.symm ha)]
        · rw [List.find?_cons, List.find?_cons, ih]

/-! ### PUT SETTINGS and PUT STATION -/

theorem putSettings_actsApart : ActsApart putSettings where
  headTaken args s := by
    unfold putSettings
    split <;> rfl
  table args s := by
    unfold putSettings
    split <;> rfl

theorem putStation_actsApart : ActsApart putStation where
  headTaken args s := by
    unfold putStation
    simp only [State.headTaken_shadow]
    split
    · rfl
    · rename_i r _
      by_cases hsome : (s.shadow.record? r.addr).isSome = true
      · simp only [hsome, if_true]
        rfl
      · by_cases hroom : s.shadow.stations.length < mapSize
        · simp only [hsome, hroom, Bool.false_eq_true, if_false, if_true]
          rfl
        · simp only [hsome, hroom, Bool.false_eq_true, if_false]
          rfl
  table args s := by
    unfold putStation
    split
    · rfl
    · split
      · rfl
      · split <;> rfl

theorem putStation_of_record {args : List Octet} {r : StationRecord} (s : State) (h : stationRecord? args = some r) :
    putStation args s =
      if (s.shadow.record? r.addr).isSome then okData [r.addr, replacedOct] { s with shadow := s.shadow.put r }
      else if s.shadow.stations.length < mapSize then okData [r.addr, addedOct] { s with shadow := s.shadow.put r }
      else refusedBy .mapFull [] s := by
  simp only [putStation, h]

/-- Settles O35. -/
theorem shadowIsEditedByPut : Obligations.ShadowIsEditedByPut := by
  refine ⟨fun s slot e args h hunlocked => ?_, fun s slot e r hr hmap h hunlocked => ?_, fun s slot e args h hunlocked hno => ?_⟩
  · obtain ⟨t, ht, ha⟩ := answersBy_of_takes .putSettings putSettings_actsApart h (fun _ => hunlocked) rfl
    refine ⟨t, ht, fun c hc hargs => ?_, fun hno => ?_⟩
    · have hok : putSettings args s = okData [] { s with shadow := { s.shadow with settings := c } } := by
        simp only [putSettings, hargs, (settings?_octets hc).1]
      rw [hok] at ha
      exact ha
    · have hbad : putSettings args s = badArgument s := by
        cases hs : settings? args with
        | none => simp only [putSettings, hs]
        | some c =>
          obtain ⟨hc, hargs⟩ := settings?_eq_some hs
          exact absurd hargs (hno c hc)
      rw [hbad] at ha
      exact ha
  · obtain ⟨t, ht, ha⟩ := answersBy_of_takes .putStation putStation_actsApart h (fun _ => hunlocked) rfl
    rw [putStation_of_record s (stationRecord?_octets hr)] at ha
    refine ⟨t, ht, fun hnone hfull => ?_, fun hroom => ?_⟩
    · rw [hnone, Option.isSome_none, if_neg Bool.false_ne_true,
        if_neg (show ¬ s.shadow.stations.length < mapSize from Nat.not_lt.2 hfull)] at ha
      exact ha
    · have hfound : (s.shadow.put r).record? r.addr = some r := by rw [ConfigSet.record?_put, if_pos rfl]
      have hother : ∀ a, a ≠ r.addr → (s.shadow.put r).record? a = s.shadow.record? a := fun a hne => by
        rw [ConfigSet.record?_put, if_neg hne]
      by_cases hsome : (s.shadow.record? r.addr).isSome = true
      · rw [if_pos hsome] at ha
        rw [if_pos hsome]
        exact ⟨s.shadow.put r, ha, rfl, ConfigSet.put_ordered r hmap (.inl hsome), hfound, hother⟩
      · have hlt : s.shadow.stations.length < 64 := by
          rw [ne_eq, ← Option.not_isSome_iff_eq_none, not_not] at hroom
          exact hroom.resolve_left hsome
        rw [if_neg hsome, if_pos (show s.shadow.stations.length < mapSize from hlt)] at ha
        rw [if_neg hsome]
        exact ⟨s.shadow.put r, ha, rfl, ConfigSet.put_ordered r hmap (.inr hlt), hfound, hother⟩
  · obtain ⟨t, ht, ha⟩ := answersBy_of_takes .putStation putStation_actsApart h (fun _ => hunlocked) rfl
    have hbad : putStation args s = badArgument s := by
      cases hs : stationRecord? args with
      | none => simp only [putStation, hs]
      | some r =>
        obtain ⟨hr, hargs⟩ := stationRecord?_eq_some hs
        exact absurd hargs (hno r hr)
    rw [hbad] at ha
    exact ⟨t, ht, ha⟩

end Sys2Proof.Machine
end

section
/-! PROOFS. Store operations (R157 to R159), and the refusals of COMMIT (R35, R36). -/

namespace Sys2Proof.Machine

/-! ### The end of a store operation (R141, R158, R159) -/

theorem State.workingDone_eq {s : State} {w : Working} (h : s.agent.working = some w) (r : Result) (k : Nat) :
    s.workingDone r k = { s with agent := { s.agent with working := none } }.complete w.slot
      (.managed s.own w.op.octet r [oct k]) := by
  simp only [State.workingDone, h, State.completeAll_single, managedJob]

/-- The WORKING entry completes in the name of OWN_ADDR as it now stands (R17, R141). -/
theorem State.workingDone_completes {s : State} {st : Store} {k slot : Nat} {e : Entry} {op : StoreOp} {r : Result}
    (hw : s.agent.working = some { slot := slot, op := op, image := k }) (he : s.table.find? slot = some e)
    (hst : e.state = .working) :
    let t := ({ s with store := st } : State).workingDone r k
    Completes s t slot e { dest := e.ctrl, src := s.active.settings.ownAddr, tag := e.tag, kind := 0x3F#8
                           payload := [op.octet, r.octet, oct k] } (.entry slot) (fun n => { n with managed := bump n.managed })
      ∧ t.agent = { s.agent with working := none } ∧ t.store = st
      ∧ t = { s with table := t.table, up := t.up, agent := t.agent, store := t.store } := by
  intro t
  have hopen : e.state.isOpen = true := by rw [hst]; rfl
  have ht : t = { s with agent := { s.agent with working := none }, store := st }.complete slot
      (.managed s.own op.octet r [oct k]) := State.workingDone_eq (s := { s with store := st }) hw r k
  have hdone := State.complete_open { s with agent := { s.agent with working := none }, store := st } slot
    (.managed s.own op.octet r [oct k]) e he hopen
  have hne : op.octet ≠ 0x0B#8 ∧ op.octet ≠ 0x18#8 := by cases op <;> decide
  have hnote := releaseNote_managed (own := s.own) (code := r.octet) (d := [oct k]) (Table.find?_slot he) hne.1 (.inl hne.2)
  rw [ht]
  refine ⟨?_, by rw [State.complete_frame], by rw [State.complete_frame], by rw [State.complete_frame]⟩
  rw [← hnote]
  exact hdone

theorem Store.slot?_update_other {st : Store} {k j : Nat} (f : ImageSlot → ImageSlot) (h : j ≠ k) :
    (st.update k f).slot? j = st.slot? j := by
  simp [Store.slot?, Store.update, h.symm]

theorem exec_endOfSave {s : State} {k : Nat} (hrun : s.seq.run ≠ .loading) (hb : s.store.busy = .saving k) (v : Bool) :
    exec (.endOfSave v) s = .next (({ s with store := { s.store.update k (fun c => c.saveEnded v) with busy := .idle } } :
      State).workingDone (if v then .ok else .saveFailed) k) := by
  change execEndOfSave v s = _
  simp only [execEndOfSave, s.live_iff.2 hrun, if_true, hb]

theorem exec_endOfRetire {s : State} {k : Nat} (hrun : s.seq.run ≠ .loading) (hb : s.store.busy = .retiring k) :
    exec .endOfRetire s = .next (({ s with store := { s.store.update k ImageSlot.retireEnded with busy := .idle } } :
      State).workingDone .ok k) := by
  change execEndOfRetire s = _
  simp only [execEndOfRetire, s.live_iff.2 hrun, if_true, hb]

/-- Settles O45. -/
theorem storeOperationsEnd : Obligations.StoreOperationsEnd := by
  intro s k slot e c op hrun hw he hst horig hc done
  have hself (f : ImageSlot → ImageSlot) : (s.store.update k f).slot? k = some (f c) := Store.slot?_update_self hc
  have hother (f : ImageSlot → ImageSlot) (j : Nat) (hj : j ≠ k) := Store.slot?_update_other (st := s.store) f hj
  refine ⟨fun hb hop => ⟨⟨_, exec_endOfSave hrun hb true, ?_, ?_⟩, ⟨_, exec_endOfSave hrun hb false, ?_, ?_⟩⟩,
    fun hb hop => ⟨_, exec_endOfRetire hrun hb, ?_, ?_⟩⟩
  all_goals subst hop
  · obtain ⟨hdone, hagent, hstore, hframe⟩ := State.workingDone_completes (r := .ok)
      (st := { s.store.update k (fun c => c.saveEnded true) with busy := .idle }) hw he hst
    exact ⟨hdone, hagent, congrArg Store.busy hstore, fun j hj => (congrArg (Store.slot? · j) hstore).trans (hother _ j hj), hframe⟩
  · obtain ⟨-, -, hstore, -⟩ := State.workingDone_completes (r := .ok)
      (st := { s.store.update k (fun c => c.saveEnded true) with busy := .idle }) hw he hst
    exact (congrArg (Store.slot? · k) hstore).trans (hself _)
  · obtain ⟨hdone, hagent, hstore, hframe⟩ := State.workingDone_completes (r := .saveFailed)
      (st := { s.store.update k (fun c => c.saveEnded false) with busy := .idle }) hw he hst
    exact ⟨hdone, hagent, congrArg Store.busy hstore, fun j hj => (congrArg (Store.slot? · j) hstore).trans (hother _ j hj), hframe⟩
  · obtain ⟨-, -, hstore, -⟩ := State.workingDone_completes (r := .saveFailed)
      (st := { s.store.update k (fun c => c.saveEnded false) with busy := .idle }) hw he hst
    exact (congrArg (Store.slot? · k) hstore).trans (hself _)
  · obtain ⟨hdone, hagent, hstore, hframe⟩ := State.workingDone_completes (r := .ok)
      (st := { s.store.update k ImageSlot.retireEnded with busy := .idle }) hw he hst
    exact ⟨hdone, hagent, congrArg Store.busy hstore, fun j hj => (congrArg (Store.slot? · j) hstore).trans (hother _ j hj), hframe⟩
  · obtain ⟨-, -, hstore, -⟩ := State.workingDone_completes (r := .ok)
      (st := { s.store.update k ImageSlot.retireEnded with busy := .idle }) hw he hst
    exact (congrArg (Store.slot? · k) hstore).trans (hself _)

/-! ### The beginning of a store operation (R154, R157, R159) -/

theorem Store.lowestBlank_none {st : Store} (h : ∀ c ∈ st.slots, c.state ≠ .blank) : st.lowestBlank = none :=
  List.findIdx?_eq_none_iff.2 fun c hc => by simpa using h c hc

theorem Store.lowestBlank_first {st : Store} {before after : List ImageSlot} {c : ImageSlot}
    (hslots : st.slots = before ++ c :: after) (hc : c.state = .blank) (hbefore : ∀ x ∈ before, x.state ≠ .blank) :
    st.lowestBlank = some before.length := by
  have hnone : before.findIdx? (fun c => c.state == .blank) = none :=
    List.findIdx?_eq_none_iff.2 fun c hc => by simpa using hbefore c hc
  simp [Store.lowestBlank, hslots, List.findIdx?_append, hnone, List.findIdx?_cons, hc]

theorem Store.update_first {st : Store} {before after : List ImageSlot} {c : ImageSlot}
    (hslots : st.slots = before ++ c :: after) (f : ImageSlot → ImageSlot) :
    st.update before.length f = { st with slots := before ++ f c :: after } := by
  have hmodify : (before ++ c :: after).modify before.length f = before ++ f c :: after := by
    clear hslots
    induction before with
    | nil => rfl
    | cons x xs ih => exact congrArg (x :: ·) ih
  rw [Store.update, hslots, hmodify]

section Begin

variable {s : State} {slot : Nat} {e : Entry}

/-- An accepted store operation leaves its entry WORKING, and the agent goes on (R141). -/
theorem leftWorking_goesOn (st : Store) (w : Working) :
    let t := ((({ s.headTaken with store := st } : State).leftWorking w).completeAll []).serveNext
    t.table = s.table.update w.slot (fun x => { x with state := .working }) ∧ t.agent.working = some w ∧ AgentGoesOn s t
      ∧ t = { s with table := t.table, agent := t.agent, store := t.store, free := t.free } ∧ t.store = st := by
  intro t
  have hframe : t = { ({ s.headTaken with store := st } : State).leftWorking w with agent := t.agent, free := t.free } :=
    State.serveNext_frame _
  refine ⟨by rw [hframe]; rfl, ?_, State.serveNext_goesOn s _ rfl rfl, by rw [hframe]; rfl, by rw [hframe]; rfl⟩
  change (State.serveNext _).agent.working = some w
  unfold State.serveNext
  split <;> rfl

/-- SAVE IMAGE and RETIRE IMAGE refused by their own conditions. -/
theorem storeRefusal {op : Op} {act : TakeAction} {args : List Octet} (h : Takes s slot e (op.octet :: args))
    (hl : Unlocked s) (hrun : s.seq.run = .running) {r : Result} {d : List Octet} (hop : op ≠ .commit) (hr : r.octet ≠ 0#8)
    (hact : act slot args s.headTaken = (s.headTaken, [managedJob s.headTaken slot op.octet r d])) :
    ∃ t, takeOp op act s = .next t ∧ Answers s t slot e s.active.settings.ownAddr op.octet r.octet d (.entry slot) := by
  obtain ⟨t, ht, ha⟩ := answers_of_refusal h (fun _ => hl) (fun _ => by rw [hrun]; nofun) hact
  rw [releaseNote_refused h op _ hr, if_neg hop] at ha
  exact ⟨t, ht, ha⟩

theorem saveImage_takes {args : List Octet} (h : Takes s slot e (0x12#8 :: args)) (hl : Unlocked s) (hrun : s.seq.run = .running) :
    exec .saveImage s = .next (((saveImageAction slot args s.headTaken).1.completeAll
      (saveImageAction slot args s.headTaken).2).serveNext) :=
  takeOp_of_takes (op := .saveImage) saveImageAction h (fun _ => hl) (fun _ => by rw [hrun]; nofun)

theorem retireImage_takes {args : List Octet} (h : Takes s slot e (0x13#8 :: args)) (hl : Unlocked s)
    (hrun : s.seq.run = .running) : exec .retireImage s = .next (((retireImageAction slot args s.headTaken).1.completeAll
      (retireImageAction slot args s.headTaken).2).serveNext) :=
  takeOp_of_takes (op := .retireImage) retireImageAction h (fun _ => hl) (fun _ => by rw [hrun]; nofun)

end Begin

/-- What one outcome of a command says holds of its only outcome. -/
theorem of_exec {c : Instr} {s t : State} {P : State → Prop} (ht : exec c s = .next t) (h : ∃ u, exec c s = .next u ∧ P u) : P t := by
  obtain ⟨u, hu, hp⟩ := h
  rw [ht] at hu
  cases hu
  exact hp

/-- Settles O44. -/
theorem storeOperationsBegin : Obligations.StoreOperationsBegin := by
  intro s slot e hl hrun hlen own working
  refine ⟨fun args h => ?_, fun args h => ?_⟩
  · have hexec := saveImage_takes h hl hrun
    refine ⟨_, hexec, fun hargs => of_exec (P := fun t => Answers s t slot e own 0x12#8 0x02#8 [] (.entry slot)) hexec ?_,
      fun hargs hbusy =>
        of_exec (P := fun t => Answers s t slot e own 0x12#8 0x07#8 s.store.busy.octets (.entry slot)) hexec ?_,
      fun hargs hidle hfull =>
        of_exec (P := fun t => Answers s t slot e own 0x12#8 0x08#8 [] (.entry slot)) hexec ?_,
      fun hargs hidle before c after hslots hc hbefore => ?_⟩
    · refine storeRefusal (op := .saveImage) (r := .badArgument) (act := saveImageAction) h hl hrun nofun (by decide) ?_
      cases args with
      | nil => exact absurd rfl hargs
      | cons o os => rfl
    · subst hargs
      exact storeRefusal (op := .saveImage) (r := .storeBusy) (act := saveImageAction) h hl hrun nofun (by decide) (if_pos hbusy)
    · subst hargs
      refine storeRefusal (op := .saveImage) (r := .storeFull) (act := saveImageAction) h hl hrun nofun (by decide) ?_
      simp only [saveImageAction, State.headTaken_store, hidle, ne_eq, not_true, if_false, Store.lowestBlank_none hfull]
    · subst hargs
      have hact : saveImageAction slot [] s.headTaken = (({ s.headTaken with
          store := { busy := .saving before.length, slots := before ++ c.saveBegun s.active :: after } } : State).leftWorking
            { slot := slot, op := .save, image := before.length }, []) := by
        simp only [saveImageAction, State.headTaken_store, hidle, ne_eq, not_true, if_false,
          Store.lowestBlank_first hslots hc hbefore, Store.update_first hslots]
        rfl
      rw [hact]
      obtain ⟨htable, hworking, hgoes, hframe, hstore⟩ := leftWorking_goesOn (s := s)
        { busy := .saving before.length, slots := before ++ c.saveBegun s.active :: after }
        { slot := slot, op := .save, image := before.length }
      exact ⟨⟨htable, hworking, hgoes, hframe⟩, hstore⟩
  · have hexec := retireImage_takes h hl hrun
    refine ⟨_, hexec, fun hargs => of_exec (P := fun t => Answers s t slot e own 0x13#8 0x02#8 [] (.entry slot)) hexec ?_,
      fun n hargs hn => ⟨fun hbusy =>
        of_exec (P := fun t => Answers s t slot e own 0x13#8 0x07#8 s.store.busy.octets (.entry slot)) hexec ?_, fun hidle c hc =>
      ⟨fun hst => of_exec (P := fun t => Answers s t slot e own 0x13#8 0x0A#8 [n, c.state.octet] (.entry slot)) hexec ?_, fun hst => ?_⟩⟩⟩
    · refine storeRefusal (op := .retireImage) (r := .badArgument) (act := retireImageAction) h hl hrun nofun (by decide) ?_
      match args, hargs with
      | [], _ => rfl
      | _ :: _ :: _, _ => rfl
      | [n], hargs => exact if_neg (Nat.not_lt.2 (hargs n rfl))
    · subst hargs
      exact storeRefusal (op := .retireImage) (r := .storeBusy) (act := retireImageAction) h hl hrun nofun (by decide)
        ((if_pos hn).trans (if_pos hbusy))
    · subst hargs
      refine storeRefusal (op := .retireImage) (r := .slotState) (act := retireImageAction) h hl hrun nofun (by decide) ?_
      simp only [retireImageAction, State.headTaken_store, hidle, ne_eq, not_true, if_false, hc, hst]
      exact if_pos hn
    · subst hargs
      have hact : retireImageAction slot [n] s.headTaken = (({ s.headTaken with
          store := { s.store with busy := .retiring n.toNat } } : State).leftWorking
            { slot := slot, op := .retire, image := n.toNat }, []) := by
        simp only [retireImageAction, State.headTaken_store, hidle, ne_eq, not_true, if_false, hc, hst, if_true]
        exact if_pos hn
      rw [hact]
      obtain ⟨htable, hworking, hgoes, hframe, hstore⟩ := leftWorking_goesOn (s := s)
        { s.store with busy := .retiring n.toNat } { slot := slot, op := .retire, image := n.toNat }
      exact ⟨⟨htable, hworking, hgoes, hframe⟩, hstore⟩

/-! ### The refusals of COMMIT (R35, R36) -/

/-- Windows that run upward and follow one another strictly have no index in common (R35). -/
theorem windowOrderOk_iff {ws : List Window} (h : ∀ w ∈ ws, w.first ≤ w.last) :
    windowOrderOk ws = true ↔ ws.Pairwise fun w x => w.last < x.first := by
  induction ws with
  | nil => simp [windowOrderOk]
  | cons w ws ih =>
    cases ws with
    | nil => simp [windowOrderOk]
    | cons x ws =>
      have ih := ih fun y hy => h y (List.mem_cons_of_mem w hy)
      have hx : x.first ≤ x.last := h x (by simp)
      rw [windowOrderOk, Bool.and_eq_true, decide_eq_true_iff, ih, List.pairwise_cons (a := w)]
      refine and_congr_left fun hrest => ⟨fun hlt y hy => ?_, fun hall => hall x List.mem_cons_self⟩
      obtain rfl | hy := List.mem_cons.1 hy
      · exact hlt
      · exact (hlt.trans_le hx).trans ((List.pairwise_cons.1 hrest).1 y hy)

theorem windowBoundsOk_iff {ws : List Window} : windowBoundsOk ws = true ↔ ∀ w ∈ ws, w.first ≤ w.last := by
  simp [windowBoundsOk]

theorem FailsafeAction.shaped_eq (a : FailsafeAction) :
    a.shaped = shapeOk (match a.kind with | .write => .write | .command => .command) a.payload := by
  unfold FailsafeAction.shaped
  cases a.kind <;> rfl

/-- The first record that breaks a condition gives the offence (R35). -/
theorem ConfigSet.offence_first {c : ConfigSet} {before after : List StationRecord} {r : StationRecord} {reason : Octet}
    (hs : c.stations = before ++ r :: after) (hbefore : ∀ x ∈ before, brokenCondition c.settings x = none)
    (hr : brokenCondition c.settings r = some reason) : c.offence = some (r.addr, reason) := by
  have hnone : before.findSome? (fun r => (brokenCondition c.settings r).map fun reason => (r.addr, reason)) = none :=
    List.findSome?_eq_none_iff.2 fun x hx => by rw [hbefore x hx]; rfl
  rw [ConfigSet.offence, hs, List.findSome?_append, hnone, Option.none_or, List.findSome?_cons, hr]
  rfl

/-- COMMIT refused by its own conditions, its answer with the note RATE (R36, R128). -/
theorem commitRefusal {s : State} {slot : Nat} {e : Entry} {args : List Octet} (h : Takes s slot e (0x0B#8 :: args))
    (hl : Unlocked s) {r : Result} {d : List Octet} (hr : r.octet ≠ 0#8)
    (hact : commitAction slot args s.headTaken = (s.headTaken, [managedJob s.headTaken slot Op.commit.octet r d])) :
    ∃ t, exec .commit s = .next t ∧ Answers s t slot e s.active.settings.ownAddr 0x0B#8 r.octet d (.entryRate slot) := by
  obtain ⟨t, ht, ha⟩ := answers_of_refusal (op := .commit) h (fun _ => hl) (fun hb => nomatch hb) hact
  rw [releaseNote_refused h .commit _ hr, if_pos rfl] at ha
  exact ⟨t, ht, ha⟩

/-- Settles O38. -/
theorem commitRefusals : Obligations.CommitRefusals := by
  intro s slot e args h hl refused
  refine ⟨fun hargs => ?_, fun hargs => ?_⟩
  · refine commitRefusal (r := .badArgument) h hl (by decide) ?_
    cases args with
    | nil => exact absurd rfl hargs
    | cons o os => rfl
  · subst hargs
    have hbusy {d : List Octet} (hb : s.store.busy ≠ .idle) (hd : s.store.busy.octets = d) : refused 0x07#8 d := by
      subst hd
      exact commitRefusal (r := .storeBusy) h hl (by decide) (if_pos hb)
    refine ⟨fun k hk => hbusy (by rw [hk]; nofun) (by rw [hk]; rfl), fun k hk => hbusy (by rw [hk]; nofun) (by rw [hk]; rfl),
      fun hidle before r after hs hbefore => ?_⟩
    have hinvalid {reason : Octet} (hr : brokenCondition s.shadow.settings r = some reason) :
        refused 0x06#8 [r.addr, reason] := by
      refine commitRefusal (r := .invalidShadow) h hl (by decide) ?_
      simp only [commitAction, State.headTaken_store, State.headTaken_shadow, hidle, ne_eq, not_true, if_false,
        ConfigSet.offence_first hs hbefore hr]
    intro set
    refine ⟨fun hen => hinvalid ?_, fun hen => ⟨fun hown => hinvalid ?_, fun hown hws a ha hshape => hinvalid ?_,
      fun hown ws hws => ⟨fun hbound => hinvalid ?_, fun hbound => ⟨fun horder => hinvalid ?_,
        fun horder a ha hshape => hinvalid ?_⟩⟩⟩⟩
    · have hen' : (s.shadow.settings.branch.get r.branch).enabled = false := hen
      simp [brokenCondition, hen']
    · have hen' : (s.shadow.settings.branch.get r.branch).enabled = true := hen
      have hown' : r.addr = s.shadow.settings.ownAddr := hown
      simp [brokenCondition, hen', hown']
    · have hen' : (s.shadow.settings.branch.get r.branch).enabled = true := hen
      have hown' : r.addr ≠ s.shadow.settings.ownAddr := hown
      have hshaped : a.shaped = false := a.shaped_eq.trans hshape
      simp [brokenCondition, hen', hown', hws, ha, hshaped]
    · have hen' : (s.shadow.settings.branch.get r.branch).enabled = true := hen
      have hown' : r.addr ≠ s.shadow.settings.ownAddr := hown
      have hbad : windowBoundsOk ws = false := by
        rw [Bool.eq_false_iff, ne_eq, windowBoundsOk_iff]
        obtain ⟨w, hw, hlt⟩ := hbound
        exact fun hall => absurd (hall w hw) (Nat.not_le.2 hlt)
      simp [brokenCondition, hen', hown', hws, hbad]
    · have hen' : (s.shadow.settings.branch.get r.branch).enabled = true := hen
      have hown' : r.addr ≠ s.shadow.settings.ownAddr := hown
      have hbad : windowOrderOk ws = false := by
        rw [Bool.eq_false_iff, ne_eq, windowOrderOk_iff hbound]
        exact horder
      simp [brokenCondition, hen', hown', hws, windowBoundsOk_iff.2 hbound, hbad]
    · have hen' : (s.shadow.settings.branch.get r.branch).enabled = true := hen
      have hown' : r.addr ≠ s.shadow.settings.ownAddr := hown
      have hshaped : a.shaped = false := a.shaped_eq.trans hshape
      simp [brokenCondition, hen', hown', hws, windowBoundsOk_iff.2 hbound, (windowOrderOk_iff hbound).2 horder, ha, hshaped]

end Sys2Proof.Machine
end

section
/-! PROOFS. The completions of one event (R12 to R14, R20): each entry once, in the order made, with consecutive numbers. -/

namespace Sys2Proof.Machine

/-- How many completions find room in the outbound queue (R14). -/
def State.room (s : State) : Nat := if s.table.returning = [] then 8 - s.up.queue.length else 0

/-- The entry that the completion in place `i` by form `f` leaves. -/
def Entry.completedAs (e : Entry) (u : State) (i : Nat) (f : Form) : Entry :=
  { e with state := if i < u.room then .outbound else .returning, seq := some (u.table.nextSeq + BitVec.ofNat 16 i)
           reply := some (answerFrame u.own f e) }

/-- From `u` to `t` the completions `jobs` are made in turn: of each slot the first one counts, and the slots that complete are
`order`. -/
structure Completed (u t : State) (jobs : List Job) (order : List Nat) : Prop where
  frame     : t = { u with table := t.table, up := t.up }
  nodup     : order.Nodup
  complete  : ∀ k e, u.table.find? k = some e → e.state.isOpen = true → (∃ j ∈ jobs, j.slot = k) → k ∈ order
  other     : ∀ k, k ∉ order → t.table.find? k = u.table.find? k
  done      : ∀ i k, order[i]? = some k → ∃ e j, u.table.find? k = some e ∧ e.state.isOpen = true
    ∧ jobs.find? (fun j => j.slot == k) = some j ∧ t.table.find? k = some (e.completedAs u i j.form)
  seq       : t.table.nextSeq = u.table.nextSeq + BitVec.ofNat 16 order.length
  counters  : t.table.counters = (order.filterMap t.replyOf).foldl TxnCounters.countAnswer u.table.counters
  returning : t.table.returning = u.table.returning ++ order.drop u.room
  items     : ∃ items : List OutItem,
    items.map (fun i => (i.note.slot?, some i.frame)) = (order.take u.room).map (fun k => (some k, t.replyOf k))
    ∧ t.up = items.foldl Upstream.append u.up
  noted     : ∀ k e j, u.table.find? k = some e → e.state.isOpen = true → jobs.find? (fun j => j.slot == k) = some j →
    { frame := answerFrame u.own j.form e, note := releaseNote e (answerFrame u.own j.form e) } ∈ t.up.queue
      ∨ k ∈ t.table.returning

theorem Completed.nothing (u : State) : Completed u u [] [] where
  frame := rfl
  nodup := .nil
  complete := fun _ _ _ _ ⟨_, hj, _⟩ => nomatch hj
  other := fun _ _ => rfl
  done := fun _ _ h => nomatch h
  seq := by simp
  counters := rfl
  returning := by simp
  items := ⟨[], by simp, rfl⟩
  noted := fun _ _ _ _ _ h => nomatch h

/-- A completion that makes nothing leaves the others as they are. -/
theorem Completed.skip {u t : State} {jobs : List Job} {order : List Nat} {j : Job} (h : Completed u t jobs order)
    (hj : ∀ e, u.table.find? j.slot = some e → e.state.isOpen = false) : Completed u t (j :: jobs) order where
  frame := h.frame
  nodup := h.nodup
  complete := fun k e he ho ⟨i, hi, hik⟩ => by
    obtain rfl | hi := List.mem_cons.1 hi
    · rw [hik] at hj
      rw [hj e he] at ho
      cases ho
    · exact h.complete k e he ho ⟨i, hi, hik⟩
  other := h.other
  done := fun i k hk => by
    obtain ⟨e, i', he, ho, hi', hdone⟩ := h.done i k hk
    refine ⟨e, i', he, ho, ?_, hdone⟩
    have hne : j.slot ≠ k := fun heq => by
      rw [hj e (heq ▸ he)] at ho
      cases ho
    rw [List.find?_cons_of_neg (by simpa using hne)]
    exact hi'
  seq := h.seq
  counters := h.counters
  returning := h.returning
  items := h.items
  noted := fun k e i he ho hi => by
    have hne : j.slot ≠ k := fun heq => by
      rw [hj e (heq ▸ he)] at ho
      cases ho
    rw [List.find?_cons_of_neg (by simpa using hne)] at hi
    exact h.noted k e i he ho hi

/-- An answer counts under its kind as its form does (R20). -/
theorem TxnCounters.countAnswer_answerFrame (c : TxnCounters) (own : Octet) (f : Form) (e : Entry) :
    c.countAnswer (answerFrame own f e) = c.countForm f := by
  cases f <;> simp [TxnCounters.countAnswer, TxnCounters.countForm, answerFrame, kindReply, kindNoAnswer, kindAborted, kindDone,
    kindManageReply]

theorem releaseNote_slot? (e : Entry) (f : Frame) : (releaseNote e f).slot? = some e.slot := by
  unfold releaseNote
  split
  · split
    · rfl
    · split
      · split
        · split <;> rfl
        · rfl
      · rfl
  · rfl

/-- What the first completion leaves of the room (R14). -/
theorem State.room_of_completes {u v : State} {k : Nat} {e : Entry} {answer : Frame} {note : ReleaseNote}
    {count : TxnCounters → TxnCounters} (h : Completes u v k e answer note count) : v.room = u.room - 1 := by
  obtain ⟨-, -, -, hplace⟩ := h
  split at hplace
  · rename_i hroom
    obtain ⟨-, hret, hup⟩ := hplace
    rw [State.room, State.room, if_pos hret, if_pos hroom.2, hup, Upstream.append_queue, List.length_append,
      List.length_singleton, Nat.sub_add_eq]
  · rename_i hfull
    obtain ⟨-, hret, hup⟩ := hplace
    have hnone : u.room = 0 := by
      unfold State.room
      split
      · rename_i hnil
        have hge : ¬ u.up.queue.length < 8 := fun hlt => hfull ⟨hlt, hnil⟩
        omega
      · rfl
    rw [hnone, State.room, if_neg (by rw [hret]; simp)]

theorem State.room_pos_iff {u : State} : 0 < u.room ↔ u.up.queue.length < 8 ∧ u.table.returning = [] := by
  unfold State.room
  split
  · rename_i h
    simp only [h, and_true]
    omega
  · rename_i h
    simp [h]

theorem Upstream.appends_queue (items : List OutItem) (u : Upstream) :
    (items.foldl Upstream.append u).queue = u.queue ++ items := by
  induction items generalizing u with
  | nil => exact (List.append_nil _).symm
  | cons i is ih => rw [List.foldl_cons, ih, Upstream.append_queue, List.append_assoc, List.singleton_append]

/-- The first completion, and then the others from the state it leaves. -/
theorem Completed.next {u t : State} {jobs : List Job} {order : List Nat} {j : Job} {e : Entry}
    (he : u.table.find? j.slot = some e) (ho : e.state.isOpen = true) (h : Completed (u.complete j.slot j.form) t jobs order) :
    Completed u t (j :: jobs) (j.slot :: order) := by
  have hcomp := State.complete_open u j.slot j.form e he ho
  have hroom := State.room_of_completes hcomp
  have hframe := u.complete_frame j.slot j.form
  obtain ⟨hseq, hcount, hother, hplace⟩ := hcomp
  have hself : (u.complete j.slot j.form).table.find? j.slot = some (e.completedAs u 0 j.form) := by
    unfold Entry.completedAs
    by_cases hpos : u.up.queue.length < 8 ∧ u.table.returning = []
    · rw [if_pos hpos] at hplace
      rw [hplace.1, if_pos (State.room_pos_iff.2 hpos), BitVec.add_zero]
    · rw [if_neg hpos] at hplace
      rw [hplace.1, if_neg (fun h => hpos (State.room_pos_iff.1 h)), BitVec.add_zero]
  have hclosed : (e.completedAs u 0 j.form).state.isOpen = false := by
    unfold Entry.completedAs
    dsimp only
    split <;> rfl
  have hnew : j.slot ∉ order := fun hmem => by
    obtain ⟨i, hi⟩ := List.getElem?_of_mem hmem
    obtain ⟨x, _, hx, hxo, -⟩ := h.done i _ hi
    rw [hself] at hx
    cases hx
    rw [hclosed] at hxo
    cases hxo
  have hfinal : t.table.find? j.slot = some (e.completedAs u 0 j.form) := (h.other _ hnew).trans hself
  have hreply : t.replyOf j.slot = some (answerFrame u.own j.form e) := by
    rw [State.replyOf, hfinal]
    rfl
  have hown : (u.complete j.slot j.form).own = u.own := by rw [hframe]; rfl
  refine ⟨?_, ?_, ?_, ?_, ?_, ?_, ?_, ?_, ?_, ?_⟩
  · rw [h.frame, hframe]
  · exact List.nodup_cons.2 ⟨hnew, h.nodup⟩
  · rintro k x hx hxo ⟨i, hi, rfl⟩
    by_cases hk : i.slot = j.slot
    · rw [hk]
      exact List.mem_cons_self
    · obtain rfl | hi := List.mem_cons.1 hi
      · exact absurd rfl hk
      · exact List.mem_cons_of_mem _ (h.complete _ x ((hother _ hk).trans hx) hxo ⟨i, hi, rfl⟩)
  · intro k hk
    rw [List.mem_cons, not_or] at hk
    exact (h.other k hk.2).trans (hother k hk.1)
  · intro i k hk
    cases i with
    | zero =>
      rw [List.getElem?_cons_zero, Option.some_inj] at hk
      subst hk
      exact ⟨e, j, he, ho, by rw [List.find?_cons_of_pos (by simp)], hfinal⟩
    | succ i =>
      rw [List.getElem?_cons_succ] at hk
      obtain ⟨x, i', hx, hxo, hi', hdone⟩ := h.done i k hk
      have hne : k ≠ j.slot := fun heq => hnew (heq ▸ List.mem_of_getElem? hk)
      refine ⟨x, i', (hother k hne).symm.trans hx, hxo, ?_, ?_⟩
      · rw [List.find?_cons_of_neg (by simpa using Ne.symm hne)]
        exact hi'
      · have hlt : (i < u.room - 1) = (i + 1 < u.room) := propext (by omega)
        have hnum : u.table.nextSeq + 1#16 + BitVec.ofNat 16 i = u.table.nextSeq + BitVec.ofNat 16 (i + 1) := by
          rw [BitVec.add_assoc, Nat.add_comm i 1, BitVec.ofNat_add]
        rw [hdone, Entry.completedAs, Entry.completedAs, hroom, hseq, hown, hnum]
        simp only [hlt]
  · rw [h.seq, hseq, List.length_cons, BitVec.add_assoc, Nat.add_comm, BitVec.ofNat_add]
  · rw [h.counters, hcount, List.filterMap_cons, hreply]
    dsimp only
    rw [List.foldl_cons, TxnCounters.countAnswer_answerFrame]
  · rw [h.returning, hroom]
    by_cases hpos : u.up.queue.length < 8 ∧ u.table.returning = []
    · rw [if_pos hpos] at hplace
      obtain ⟨n, hn⟩ := Nat.exists_eq_succ_of_ne_zero (State.room_pos_iff.2 hpos).ne'
      rw [hplace.2.1, hpos.2, hn]
      rfl
    · rw [if_neg hpos] at hplace
      have hzero : u.room = 0 := Nat.eq_zero_of_not_pos fun h => hpos (State.room_pos_iff.1 h)
      rw [hplace.2.1, hzero]
      simp
  · obtain ⟨items, hitems, hup⟩ := h.items
    by_cases hpos : u.up.queue.length < 8 ∧ u.table.returning = []
    · rw [if_pos hpos] at hplace
      obtain ⟨n, hn⟩ := Nat.exists_eq_succ_of_ne_zero (State.room_pos_iff.2 hpos).ne'
      rw [hroom, hn, Nat.succ_sub_one] at hitems
      refine ⟨{ frame := answerFrame u.own j.form e, note := releaseNote e (answerFrame u.own j.form e) } :: items, ?_, ?_⟩
      · rw [hn, List.map_cons, hitems, List.take_succ_cons, List.map_cons, releaseNote_slot?, Table.find?_slot he, hreply]
      · rw [hup, hplace.2.2, List.foldl_cons]
    · rw [if_neg hpos] at hplace
      have hzero : u.room = 0 := Nat.eq_zero_of_not_pos fun h => hpos (State.room_pos_iff.1 h)
      rw [hroom, hzero] at hitems
      rw [hzero]
      exact ⟨items, hitems, by rw [hup, hplace.2.2]⟩
  · intro k x i hx hxo hi
    by_cases hk : j.slot = k
    · rw [List.find?_cons_of_pos (by simpa using hk), Option.some_inj] at hi
      subst hk hi
      rw [he, Option.some_inj] at hx
      subst hx
      by_cases hpos : u.up.queue.length < 8 ∧ u.table.returning = []
      · rw [if_pos hpos] at hplace
        obtain ⟨items, -, hup⟩ := h.items
        refine .inl ?_
        rw [hup, Upstream.appends_queue, hplace.2.2, Upstream.append_queue]
        simp
      · rw [if_neg hpos] at hplace
        refine .inr ?_
        rw [h.returning, hplace.2.1]
        simp
    · rw [List.find?_cons_of_neg (by simpa using hk)] at hi
      have hnoted := h.noted k x i ((hother k (Ne.symm hk)).trans hx) hxo hi
      rwa [hown] at hnoted

/-- Completions made one after another. -/
theorem State.completeEach_completed (jobs : List Job) (u : State) :
    ∃ order, Completed u (u.completeEach jobs) jobs order ∧ order.Sublist (jobs.map fun j => j.slot) := by
  induction jobs generalizing u with
  | nil => exact ⟨[], .nothing u, .refl _⟩
  | cons j js ih =>
    change ∃ order, Completed u ((u.complete j.slot j.form).completeEach js) (j :: js) order ∧ _
    obtain ⟨order, h, hsub⟩ := ih (u.complete j.slot j.form)
    cases he : u.table.find? j.slot with
    | none =>
      rw [u.complete_free j.slot j.form he] at h ⊢
      exact ⟨order, h.skip (fun _ hx => nomatch he.symm.trans hx), hsub.cons j.slot⟩
    | some e =>
      cases ho : e.state.isOpen with
      | false =>
        rw [u.complete_closed j.slot j.form e he ho] at h ⊢
        exact ⟨order, h.skip fun _ hx => (Option.some.inj (he.symm.trans hx)) ▸ ho, hsub.cons j.slot⟩
      | true => exact ⟨j.slot :: order, .next he ho h, hsub.cons_cons j.slot⟩

/-- Only the first completion of each slot matters. -/
theorem Completed.congr {u t : State} {jobs jobs' : List Job} {order : List Nat} (h : Completed u t jobs order)
    (hj : ∀ k, jobs'.find? (fun j => j.slot == k) = jobs.find? fun j => j.slot == k) : Completed u t jobs' order :=
  { h with
    complete := fun k e he ho ⟨j, hmem, hk⟩ => h.complete k e he ho <| by
      have hsome : (jobs'.find? fun j => j.slot == k).isSome := List.find?_isSome.2 ⟨j, hmem, by simpa using hk⟩
      rw [hj, List.find?_isSome] at hsome
      simpa using hsome
    done := fun i k hk => by
      obtain ⟨e, j, he, ho, hfirst, hdone⟩ := h.done i k hk
      exact ⟨e, j, he, ho, (hj k).trans hfirst, hdone⟩
    noted := fun k e j he ho hfirst => h.noted k e j he ho ((hj k).symm.trans hfirst) }

/-! ### The order of the completions (R13) -/

/-- Of the entries in two slots the first was admitted earlier, or at the same time in a slot that is not higher (R13). -/
def State.slotFirst (s : State) (a b : Nat) : Prop :=
  s.admissionAge b < s.admissionAge a ∨ (s.admissionAge a = s.admissionAge b ∧ a ≤ b)

/-- The order of the completions is an insertion sort by the slots. -/
theorem State.sortJobs_eq (s : State) (jobs : List Job) : s.sortJobs jobs = jobs.insertionSort fun a b => s.jobFirst a b = true := by
  have insert_eq (j : Job) (ks : List Job) : s.insertJob j ks = ks.orderedInsert (fun a b => s.jobFirst a b = true) j := by
    induction ks with
    | nil => rfl
    | cons k ks ih => rw [State.insertJob, List.orderedInsert, ih]
  induction jobs with
  | nil => rfl
  | cons j js ih => rw [List.insertionSort_cons, ← ih, ← insert_eq]; rfl

theorem State.jobFirst_iff {s : State} {a b : Job} : s.jobFirst a b = true ↔ s.slotFirst a.slot b.slot := by
  simp [State.jobFirst, State.slotFirst]

theorem State.jobFirst_total (s : State) : Std.Total fun a b => s.jobFirst a b = true :=
  ⟨fun a b => by rw [State.jobFirst_iff, State.jobFirst_iff, State.slotFirst, State.slotFirst]; omega⟩

theorem State.jobFirst_trans (s : State) : IsTrans Job fun a b => s.jobFirst a b = true :=
  ⟨fun a b c => by rw [State.jobFirst_iff, State.jobFirst_iff, State.jobFirst_iff, State.slotFirst, State.slotFirst, State.slotFirst]; omega⟩

theorem State.sortJobs_sorted (s : State) (jobs : List Job) :
    ((s.sortJobs jobs).map fun j => j.slot).Pairwise s.slotFirst := by
  have := s.jobFirst_total
  have := s.jobFirst_trans
  rw [List.pairwise_map, s.sortJobs_eq]
  exact (List.pairwise_insertionSort _ jobs).imp fun h => State.jobFirst_iff.1 h

/-- Completions of one slot stay in the order in which they were listed. -/
theorem State.sortJobs_find? (s : State) (jobs : List Job) (k : Nat) :
    (s.sortJobs jobs).find? (fun j => j.slot == k) = jobs.find? fun j => j.slot == k := by
  have := s.jobFirst_total
  have := s.jobFirst_trans
  have hsame : (jobs.filter fun j => j.slot == k).Pairwise fun a b => s.jobFirst a b = true :=
    List.pairwise_of_forall_mem_list fun a ha b hb => State.jobFirst_iff.2 <| by
      rw [eq_of_beq (List.mem_filter.1 ha).2, eq_of_beq (List.mem_filter.1 hb).2]
      exact .inr ⟨rfl, le_rfl⟩
  have hsub : (jobs.filter fun j => j.slot == k).Sublist ((s.sortJobs jobs).filter fun j => j.slot == k) := by
    have := (List.sublist_insertionSort hsame List.filter_sublist).filter fun j => j.slot == k
    simpa only [List.filter_filter, ← s.sortJobs_eq, Bool.and_self] using this
  have heq := hsub.eq_of_length ((s.sortJobs_perm jobs).filter _).length_eq.symm
  rw [← List.head?_filter, ← List.head?_filter, heq]

/-- All completions of one event (R12 to R14, R20). -/
theorem State.completeAll_completed (u : State) (jobs : List Job) :
    ∃ order, Completed u (u.completeAll jobs) jobs order ∧ order.Pairwise u.slotFirst := by
  obtain ⟨order, h, hsub⟩ := u.completeEach_completed (u.sortJobs jobs)
  exact ⟨order, h.congr fun k => (u.sortJobs_find? jobs k).symm, (u.sortJobs_sorted jobs).sublist hsub⟩

/-! ### From the start of the event to its end -/

/-- The table holds the same slots, with the same admissions, open and completed alike (R2, R12). -/
def Table.SameOpen (x y : Table) : Prop :=
  ∀ k, (y.find? k).map (fun e => (e.admitted, e.state.isOpen)) = (x.find? k).map fun e => (e.admitted, e.state.isOpen)

theorem Table.SameOpen.refl (x : Table) : x.SameOpen x := fun _ => rfl

theorem Table.SameOpen.trans {x y z : Table} (h : x.SameOpen y) (h' : y.SameOpen z) : x.SameOpen z :=
  fun k => (h' k).trans (h k)

theorem Table.SameOpen.forth {x y : Table} (h : x.SameOpen y) {k : Nat} {e : Entry} (he : x.find? k = some e) :
    ∃ e', y.find? k = some e' ∧ e'.admitted = e.admitted ∧ e'.state.isOpen = e.state.isOpen := by
  have hk := h k
  rw [he, Option.map_some, Option.map_eq_some_iff] at hk
  obtain ⟨e', he', heq⟩ := hk
  exact ⟨e', he', congrArg Prod.fst heq, congrArg Prod.snd heq⟩

theorem Table.SameOpen.back {x y : Table} (h : x.SameOpen y) {k : Nat} {e : Entry} (he : y.find? k = some e) :
    ∃ e', x.find? k = some e' ∧ e'.admitted = e.admitted ∧ e'.state.isOpen = e.state.isOpen :=
  Table.SameOpen.forth (fun k => (h k).symm) he

theorem Table.SameOpen.admissionAge {s u : State} (h : s.table.SameOpen u.table) (hc : u.clock = s.clock) (k : Nat) :
    u.admissionAge k = s.admissionAge k := by
  unfold State.admissionAge
  cases he : s.table.find? k with
  | none =>
    have hnone := h k
    rw [he, Option.map_none, Option.map_eq_none_iff] at hnone
    rw [hnone]
  | some e =>
    obtain ⟨e', he', hadm, -⟩ := h.forth he
    simp only [he', hadm, hc]

/-- Completions that follow an event's other work and come before its picks are those of the event (R12 to R14). -/
theorem Completed.inOrder {s u v t : State} {jobs : List Job} {order : List Nat} (h : Completed u v jobs order)
    (hsorted : order.Pairwise u.slotFirst) (hopen : s.table.SameOpen u.table) (hclock : u.clock = s.clock)
    (hseq : u.table.nextSeq = s.table.nextSeq) (hcount : u.table.counters = s.table.counters)
    (hret : u.table.returning = s.table.returning) (hup : u.up = s.up) (hafter : v.table.SameOpen t.table)
    (hkept : ∀ k e, v.table.find? k = some e → e.state.isOpen = false → t.table.find? k = some e)
    (hseq' : t.table.nextSeq = v.table.nextSeq) (hcount' : t.table.counters = v.table.counters)
    (hret' : t.table.returning = v.table.returning) (hup' : t.up = v.up) : CompletesInOrder s t := by
  have hroom : (if s.table.returning = [] then 8 - s.up.queue.length else 0) = u.room := by
    rw [State.room, hret, hup]
  have closed {i k : Nat} (hi : order[i]? = some k) : ∃ e j, u.table.find? k = some e ∧ e.state.isOpen = true
      ∧ t.table.find? k = some (e.completedAs u i j) := by
    obtain ⟨e, j, he, ho, -, hdone⟩ := h.done i k hi
    refine ⟨e, j.form, he, ho, hkept k _ hdone ?_⟩
    unfold Entry.completedAs
    dsimp only
    split <;> rfl
  have hreply : ∀ k ∈ order, t.replyOf k = v.replyOf k := fun k hk => by
    obtain ⟨i, hi⟩ := List.getElem?_of_mem hk
    obtain ⟨e, j, he, ho, -, hdone⟩ := h.done i k hi
    unfold State.replyOf
    rw [hdone, hkept k _ hdone]
    unfold Entry.completedAs
    dsimp only
    split <;> rfl
  refine ⟨order, ?_⟩
  rw [hroom]
  refine ⟨fun k => ⟨fun hk => ?_, fun ⟨e, e', he, ho, he', hclosed⟩ => ?_⟩, ?_, fun i k hk => ?_, ?_, ?_, ?_, ?_⟩
  · obtain ⟨i, hi⟩ := List.getElem?_of_mem hk
    obtain ⟨e, j, he, ho, hdone⟩ := closed hi
    obtain ⟨e', he', -, ho'⟩ := hopen.back he
    refine ⟨e', _, he', ho'.trans ho, hdone, ?_⟩
    unfold Entry.completedAs
    dsimp only
    split <;> rfl
  · by_contra hnot
    obtain ⟨x, hx, -, hxo⟩ := hopen.forth he
    obtain ⟨y, hy, -, hyo⟩ := hafter.forth ((h.other k hnot).trans hx)
    rw [he', Option.some_inj] at hy
    rw [← hy, hclosed, hxo, ho] at hyo
    cases hyo
  · refine (hsorted.and h.nodup).imp fun {a b} ⟨hfirst, hne⟩ x y hx hy => ?_
    rw [State.slotFirst, hopen.admissionAge hclock, hopen.admissionAge hclock] at hfirst
    simp only [State.admissionAge, hx, hy] at hfirst
    exact hfirst.imp id fun ⟨heq, hle⟩ => ⟨heq, lt_of_le_of_ne hle hne⟩
  · obtain ⟨e, j, he, ho, hdone⟩ := closed hk
    exact ⟨_, hdone, rfl, by rw [← hseq]; rfl, rfl⟩
  · rw [hseq', h.seq, hseq]
  · rw [hcount', h.counters, hcount, List.filterMap_congr fun k hk => hreply k hk]
  · rw [hret', h.returning, hret]
  · obtain ⟨items, hitems, hqueue⟩ := h.items
    refine ⟨items, ?_, by rw [hup', hqueue, hup]⟩
    rw [hitems]
    exact List.map_congr_left fun k hk => by rw [hreply k (List.mem_of_mem_take hk)]

end Sys2Proof.Machine
end

section
/-! PROOFS. The shares that one event aborts, and the broadcasts it finishes (R8, R9, R17). -/

namespace Sys2Proof.Machine

/-! ### Sets and entries (R8) -/

theorem BroadcastSets.ext {x y : BroadcastSets} (hp : ∀ b, x.pending.get b = y.pending.get b)
    (hs : ∀ b, x.sent.get b = y.sent.get b) (hn : ∀ b, x.notSent.get b = y.notSent.get b) : x = y := by
  have quad_ext {p q : Quad Bool} (h : ∀ b, p.get b = q.get b) : p = q := by
    obtain ⟨p0, p1, p2, p3⟩ := p
    obtain ⟨q0, q1, q2, q3⟩ := q
    obtain rfl : p0 = q0 := h .b0
    obtain rfl : p1 = q1 := h .b1
    obtain rfl : p2 = q2 := h .b2
    obtain rfl : p3 = q3 := h .b3
    rfl
  obtain ⟨xp, xs, xn⟩ := x
  obtain ⟨yp, ys, yn⟩ := y
  obtain rfl : xp = yp := quad_ext hp
  obtain rfl : xs = ys := quad_ext hs
  obtain rfl : xn = yn := quad_ext hn
  rfl

@[simp] theorem BroadcastSets.without_pending (x : BroadcastSets) (gone : BranchId → Bool) (b : BranchId) :
    (x.without gone).pending.get b = (x.pending.get b && !gone b) := by cases b <;> rfl

@[simp] theorem BroadcastSets.without_notSent (x : BroadcastSets) (gone : BranchId → Bool) (b : BranchId) :
    (x.without gone).notSent.get b = (x.notSent.get b || (x.pending.get b && gone b)) := by cases b <;> rfl

@[simp] theorem BroadcastSets.without_sent (x : BroadcastSets) (gone : BranchId → Bool) : (x.without gone).sent = x.sent := rfl

theorem BroadcastSets.without_without (x : BroadcastSets) (g h : BranchId → Bool) :
    (x.without g).without h = x.without fun b => g b || h b := by
  refine BroadcastSets.ext (fun b => ?_) (fun _ => rfl) fun b => ?_
  · simp [Bool.and_assoc]
  · simp only [BroadcastSets.without_notSent, BroadcastSets.without_pending]
    cases x.notSent.get b <;> cases x.pending.get b <;> cases g b <;> cases h b <;> rfl

/-- Branches that are not pending do not matter. -/
theorem BroadcastSets.without_of_not_pending {x : BroadcastSets} {gone : BranchId → Bool}
    (h : ∀ b, gone b = true → x.pending.get b = false) : x.without gone = x := by
  have hb (b : BranchId) : (x.pending.get b && gone b) = false := by
    cases hg : gone b with
    | false => simp
    | true => simp [h b hg]
  refine BroadcastSets.ext (fun b => ?_) (fun _ => rfl) fun b => ?_
  · have := hb b
    rw [BroadcastSets.without_pending]
    cases hp : x.pending.get b <;> cases hg : gone b <;> simp_all
  · rw [BroadcastSets.without_notSent, hb, Bool.or_false]

/-- The entry after its shares on the branches of `gone` were aborted (R8). -/
def Entry.without (e : Entry) (gone : BranchId → Bool) : Entry := { e with sets := e.sets.map fun x => x.without gone }

theorem Entry.without_without (e : Entry) (g h : BranchId → Bool) : (e.without g).without h = e.without fun b => g b || h b := by
  unfold Entry.without
  cases hs : e.sets with
  | none => rfl
  | some x => exact congrArg (fun y => { e with sets := some y }) (x.without_without g h)

theorem Entry.without_of_not_pending {e : Entry} {gone : BranchId → Bool}
    (h : ∀ x b, e.sets = some x → gone b = true → x.pending.get b = false) : e.without gone = e := by
  obtain ⟨_, _, _, _, _, _, _, sets, _, _, _, _, _, _, _⟩ := e
  cases sets with
  | none => rfl
  | some x =>
    unfold Entry.without
    simp only [Option.map_some, BroadcastSets.without_of_not_pending (h x · rfl)]

/-- The abort of one share (R8). -/
theorem Entry.moveNotSent_eq (b : BranchId) (e : Entry) : Entry.moveNotSent b e = e.without (· == b) := by
  cases hs : e.sets with
  | none =>
    rw [Entry.without_of_not_pending (fun x _ hx => nomatch hs.symm.trans hx), Entry.moveNotSent]
    simp only [hs]
  | some x =>
    unfold Entry.moveNotSent Entry.without
    simp only [hs]
    split
    · rename_i hp
      have hmoved : { x with pending := x.pending.set b false, notSent := x.notSent.set b true } = x.without (· == b) := by
        refine BroadcastSets.ext (fun a => ?_) (fun _ => rfl) fun a => ?_
        · by_cases hab : a = b
          · subst hab
            simp [Quad.get_set_self]
          · simp [Quad.get_set_other _ _ _ _ hab, hab]
        · by_cases hab : a = b
          · subst hab
            simp [Quad.get_set_self, hp]
          · simp [Quad.get_set_other _ _ _ _ hab, hab]
      rw [hmoved, Option.map_some]
    · rename_i hp
      have hkept : x.without (· == b) = x := BroadcastSets.without_of_not_pending fun a ha => by
        obtain rfl := eq_of_beq ha
        exact Bool.eq_false_iff.2 hp
      rw [Option.map_some, hkept, ← hs]

/-! ### The table after the shares were aborted -/

/-- The table with the shares aborted that `gone` names by slot and branch (R8). -/
def Table.losing (x : Table) (gone : Nat → BranchId → Bool) : Table :=
  { x with entries := x.entries.map fun e => e.without (gone e.slot) }

theorem Table.losing_losing (x : Table) (g h : Nat → BranchId → Bool) :
    (x.losing g).losing h = x.losing fun k b => g k b || h k b := by
  simp only [Table.losing, List.map_map]
  exact congrArg (fun es => { x with entries := es }) (List.map_congr_left fun e _ => Entry.without_without e _ _)

theorem Table.losing_nothing (x : Table) : x.losing (fun _ _ => false) = x := by
  simp [Table.losing, Entry.without_of_not_pending]

theorem Table.find?_losing (x : Table) (gone : Nat → BranchId → Bool) (k : Nat) :
    (x.losing gone).find? k = (x.find? k).map fun e => e.without (gone k) := by
  unfold Table.find? Table.losing
  dsimp only
  rw [List.find?_map]
  have hfound : x.entries.find? ((fun e => e.slot == k) ∘ fun e => e.without (gone e.slot)) = x.entries.find? fun e => e.slot == k := rfl
  rw [hfound]
  cases hx : x.entries.find? fun e => e.slot == k with
  | none => rfl
  | some e =>
    have hk : e.slot = k := by simpa using List.find?_some hx
    rw [Option.map_some, Option.map_some, hk]

theorem Table.sameOpen_losing (x : Table) (gone : Nat → BranchId → Bool) : x.SameOpen (x.losing gone) := fun k => by
  rw [Table.find?_losing, Option.map_map]
  rfl

theorem State.shareAborted_eq (s : State) (b : BranchId) (k : Nat) :
    s.shareAborted b k = { s with table := s.table.losing fun i a => a == b && i == k } := by
  refine congrArg (fun es => { s with table := { s.table with entries := es } }) (List.map_congr_left fun e _ => ?_)
  dsimp only
  split
  · rename_i hk
    rw [Entry.moveNotSent_eq]
    simp [hk]
  · rename_i hk
    rw [Entry.without_of_not_pending]
    simp [hk]

/-- The shares aborted on one branch (R8). -/
theorem State.sharesAborted_eq (s : State) (b : BranchId) (ks : List Nat) :
    s.sharesAborted b ks = { s with table := s.table.losing fun k a => a == b && ks.contains k } := by
  unfold State.sharesAborted
  induction ks generalizing s with
  | nil => simp [Table.losing_nothing]
  | cons k ks ih =>
    rw [List.foldl_cons, ih, State.shareAborted_eq]
    simp only [Table.losing_losing]
    refine congrArg (fun g => { s with table := s.table.losing g }) (funext fun i => funext fun a => ?_)
    rw [List.contains_cons, Bool.and_or_distrib_left]

/-! ### What the completions leave of an entry -/

/-- The completions `ABORTED`, the first for each slot. -/
theorem abortJobs_find? (r : AbortReason) (slots : List Nat) (k : Nat) :
    (abortJobs r slots).find? (fun j => j.slot == k) = if k ∈ slots then some { slot := k, form := .aborted r } else none := by
  unfold abortJobs
  induction slots with
  | nil => rfl
  | cons i is ih =>
    rw [List.map_cons]
    by_cases hk : i = k
    · rw [List.find?_cons_of_pos (by simpa using hk), hk, if_pos List.mem_cons_self]
    · rw [List.find?_cons_of_neg (by simpa using hk), ih]
      simp [Ne.symm hk]

/-- An occupied slot whose entry is the only one there. -/
def Table.Holds (x : Table) (k : Nat) (e : Entry) : Prop := x.find? k = some e ∧ ∀ y ∈ x.entries, y.slot = k → y = e

theorem TagsDistinct.holds {s : State} (h : TagsDistinct s) {k : Nat} {e : Entry} (he : s.table.find? k = some e) :
    s.table.Holds k e := by
  obtain ⟨hsorted, -, -⟩ := h
  refine ⟨he, fun y hy hk => ?_⟩
  have hnodup : (s.table.entries.map fun e => e.slot).Nodup := hsorted.imp fun hlt => Nat.ne_of_lt hlt
  exact List.inj_on_of_nodup_map hnodup hy (List.mem_of_find?_eq_some he) (hk.trans (Table.find?_slot he).symm)

theorem Table.Holds.losing {x : Table} {k : Nat} {e : Entry} (h : x.Holds k e) (gone : Nat → BranchId → Bool) :
    (x.losing gone).Holds k (e.without (gone k)) := by
  obtain ⟨he, hone⟩ := h
  refine ⟨by rw [Table.find?_losing, he]; rfl, fun y hy hk => ?_⟩
  obtain ⟨z, hz, rfl⟩ := List.mem_map.1 hy
  have hzk : z.slot = k := hk
  rw [hone z hz hzk, ← hzk, hone z hz hzk]

theorem State.doneJobs_find? {s : State} {k : Nat} {e : Entry} (h : s.table.Holds k e) :
    s.doneJobs.find? (fun j => j.slot == k) = if e.spreadOut then some { slot := k, form := .done } else none := by
  obtain ⟨he, hone⟩ := h
  split
  · rename_i hout
    have hjob : ({ slot := k, form := .done } : Job) ∈ s.doneJobs :=
      State.mem_doneJobs.2 ⟨e, List.mem_of_find?_eq_some he, hout, by rw [Table.find?_slot he]⟩
    obtain ⟨j, hj⟩ := Option.isSome_iff_exists.1 ((List.find?_isSome (p := fun j : Job => j.slot == k)).2 ⟨_, hjob, beq_self_eq_true k⟩)
    obtain ⟨y, -, -, rfl⟩ := State.mem_doneJobs.1 (List.mem_of_find?_eq_some hj)
    have hk : y.slot = k := by simpa using List.find?_some hj
    rw [hj, hk]
  · rename_i hout
    rw [List.find?_eq_none]
    rintro j hj
    obtain ⟨y, hy, hys, rfl⟩ := State.mem_doneJobs.1 hj
    rw [beq_iff_eq]
    intro hk
    rw [hone y hy hk] at hys
    exact hout hys

theorem Completed.find?_of_job {u v : State} {jobs : List Job} {order : List Nat} (h : Completed u v jobs order) {k : Nat}
    {e : Entry} {j : Job} (he : u.table.find? k = some e) (ho : e.state.isOpen = true)
    (hj : jobs.find? (fun j => j.slot == k) = some j) : ∃ i, v.table.find? k = some (e.completedAs u i j.form) := by
  obtain ⟨i, hi⟩ := List.getElem?_of_mem (h.complete k e he ho ⟨j, List.mem_of_find?_eq_some hj, by simpa using List.find?_some hj⟩)
  obtain ⟨e', j', he', -, hj', hdone⟩ := h.done i k hi
  rw [he, Option.some_inj] at he'
  rw [hj, Option.some_inj] at hj'
  subst he' hj'
  exact ⟨i, hdone⟩

theorem Completed.answered {u v : State} {jobs : List Job} {order : List Nat} (h : Completed u v jobs order) {k : Nat}
    {e : Entry} {j : Job} (he : u.table.find? k = some e) (ho : e.state.isOpen = true)
    (hj : jobs.find? (fun j => j.slot == k) = some j) : Answered v k (answerFrame u.own j.form e) := by
  obtain ⟨i, hdone⟩ := h.find?_of_job he ho hj
  refine ⟨_, hdone, ?_, rfl⟩
  unfold Entry.completedAs
  dsimp only
  split
  · exact .inl rfl
  · exact .inr rfl

/-- A slot that no completion names, or whose entry has completed already, keeps its entry. -/
theorem Completed.find?_of_none {u v : State} {jobs : List Job} {order : List Nat} (h : Completed u v jobs order) {k : Nat}
    (hk : (∃ e, u.table.find? k = some e ∧ e.state.isOpen = false) ∨ jobs.find? (fun j => j.slot == k) = none) :
    v.table.find? k = u.table.find? k := by
  refine h.other k fun hmem => ?_
  obtain ⟨i, hi⟩ := List.getElem?_of_mem hmem
  obtain ⟨e, j, he, ho, hj, -⟩ := h.done i k hi
  obtain ⟨x, hx, hxo⟩ | hnone := hk
  · rw [he, Option.some_inj] at hx
    rw [hx, hxo] at ho
    cases ho
  · rw [hnone] at hj
    cases hj

theorem Entry.spreadOut_iff {e : Entry} {x : BroadcastSets} (hx : e.sets = some x) :
    e.spreadOut = true ↔ e.state = .spreading ∧ emptySet x.pending = true := by
  simp [Entry.spreadOut, hx]

theorem Entry.without_spreadOut {e : Entry} {x : BroadcastSets} (hx : e.sets = some x) (hs : e.state = .spreading)
    (gone : BranchId → Bool) : (e.without gone).spreadOut = emptySet (x.without gone).pending := by
  have hsets : (e.without gone).sets = some (x.without gone) := by rw [Entry.without, hx]; rfl
  have hstate : (e.without gone).state = .spreading := hs
  rw [Bool.eq_iff_iff, Entry.spreadOut_iff hsets]
  simp [hstate]

/-- A broadcast some of whose shares were aborted, where no completion but DONE names its slot (R8, R9, R17). -/
theorem sharesMoved_of {s u v : State} {jobs : List Job} {gone : Nat → BranchId → Bool} {k : Nat} {e : Entry} {x : BroadcastSets}
    (hanswered : ∀ e j, u.table.find? k = some e → e.state.isOpen = true → jobs.find? (fun j => j.slot == k) = some j →
      Answered v k (answerFrame u.own j.form e))
    (hkept : jobs.find? (fun j => j.slot == k) = none → v.table.find? k = u.table.find? k)
    (ht : u.table.entries = (s.table.losing gone).entries) (he : s.table.Holds k e) (hs : e.state = .spreading) (hx : e.sets = some x)
    (hjobs : jobs.find? (fun j => j.slot == k) = u.doneJobs.find? fun j => j.slot == k) : SharesMoved v k e x u.own (gone k) := by
  have hu : u.table.Holds k (e.without (gone k)) := by
    obtain ⟨hfind, hone⟩ := he.losing gone
    exact ⟨(Table.find?_congr ht k).trans hfind, by rw [ht]; exact hone⟩
  rw [State.doneJobs_find? hu, Entry.without_spreadOut hx hs] at hjobs
  unfold SharesMoved
  dsimp only
  split <;> rename_i hempty
  · rw [if_pos hempty] at hjobs
    have hans := hanswered _ _ hu.1 (by rw [show (e.without (gone k)).state = .spreading from hs]; rfl) hjobs
    rw [answerFrame, Entry.without, hx] at hans
    exact hans
  · rw [if_neg hempty] at hjobs
    rw [hkept hjobs, hu.1, Entry.without, hx]
    rfl

end Sys2Proof.Machine
end

section
/-! PROOFS. What several events share: report lines made SKIPPED (R118), the upstream line under completions, and picks of polls
alone at the end of an event (R68). -/

namespace Sys2Proof.Machine

/-! ### Report lines (R118, R119) -/

/-- The report line after the failsafe items were made SKIPPED: a PENDING line of the first item of its station (R118). -/
def ReportLine.skippedFor (items : List FailsafeItem) (l : ReportLine) : ReportLine :=
  match items.find? fun f => f.station == l.station with
  | some f => if l.outcome = .pending then { l with outcome := .skipped, attempts := f.attempts } else l
  | none => l

theorem State.itemsSkipped_sup (fs : List FailsafeItem) (s : State) :
    (s.itemsSkipped fs).sup = { s.sup with lines := s.sup.lines.map (ReportLine.skippedFor fs) } := by
  unfold State.itemsSkipped
  induction fs generalizing s with
  | nil => exact (congrArg (fun ls => { s.sup with lines := ls }) (List.map_id s.sup.lines)).symm
  | cons f fs ih =>
    rw [List.foldl_cons, ih]
    change ({ s.sup with lines := (s.sup.setLine f.station .skipped f.attempts).lines.map (ReportLine.skippedFor fs) } : Supervision) = _
    rw [Supervision.setLine, List.map_map]
    refine congrArg (fun ls => { s.sup with lines := ls }) (List.map_congr_left fun l _ => ?_)
    dsimp only [Function.comp]
    unfold ReportLine.skippedFor
    by_cases hf : f.station = l.station
    · rw [List.find?_cons_of_pos (by simpa using hf)]
      by_cases hp : l.outcome = .pending
      · rw [if_pos ⟨hf.symm, hp⟩]
        dsimp only
        rw [if_pos hp]
        split <;> rfl
      · rw [if_neg fun h => hp h.2]
        dsimp only
        rw [if_neg hp]
        split
        · rw [if_neg hp]
        · rfl
    · rw [List.find?_cons_of_neg (by simpa using hf), if_neg fun h => hf h.1.symm]

theorem State.itemsSkipped_append (s : State) (fs gs : List FailsafeItem) :
    s.itemsSkipped (fs ++ gs) = (s.itemsSkipped fs).itemsSkipped gs := List.foldl_append

/-- The failsafe item that is bound. -/
def boundFailsafeItems : Option BoundItem → List FailsafeItem
  | some (.failsafe f) => [f]
  | _ => []

/-- The failsafe items of a branch, the bound one first. -/
def Branch.failsafeItems (x : Branch) : List FailsafeItem := boundFailsafeItems x.bound ++ x.failsafe

theorem Branch.failsafeItems_length (x : Branch) : x.failsafeItems.length = x.failsafeCount := by
  unfold Branch.failsafeItems Branch.failsafeCount
  rw [List.length_append, Nat.add_comm]
  match x.bound with
  | none | some (.station _) | some (.share _) | some (.poll _) | some (.failsafe _) => rfl

theorem State.failsafeLeft_setBranch_add (s : State) (b : BranchId) (z : Branch) :
    (s.setBranch b z).failsafeLeft + (s.branch b).failsafeCount = s.failsafeLeft + z.failsafeCount := by
  cases b <;>
    · simp only [State.failsafeLeft, State.setBranch, Quad.set, State.branch, Quad.get]
      omega

/-! ### The upstream line -/

theorem Upstream.append_frame (u : Upstream) (i : OutItem) :
    u.append i = { u with queue := (u.append i).queue, tx := (u.append i).tx } := by
  unfold Upstream.append
  dsimp only
  split
  · unfold Upstream.beginHead
    split <;> rfl
  · rfl

theorem Upstream.appends_frame (items : List OutItem) (u : Upstream) :
    items.foldl Upstream.append u
      = { u with queue := (items.foldl Upstream.append u).queue, tx := (items.foldl Upstream.append u).tx } := by
  induction items generalizing u with
  | nil => rfl
  | cons i is ih => rw [List.foldl_cons, ih, u.append_frame i]

theorem Completed.up_frame {u v : State} {jobs : List Job} {order : List Nat} (h : Completed u v jobs order) :
    v.up = { u.up with queue := v.up.queue, tx := v.up.tx } := by
  obtain ⟨items, -, hup⟩ := h.items
  rw [hup]
  exact Upstream.appends_frame items u.up

/-! ### The arbiters at the end of an event -/

theorem State.settle_of_held {s : State} (h : s.live = false) : s.settle = s := by
  unfold State.settle
  rw [State.arbitrate_of_held h, State.arbitrate_of_held h, State.arbitrate_of_held h, State.arbitrate_of_held h]

/-- Where no IDLE branch of a live part has anything listed or queued, the arbiters pick polls alone. -/
theorem State.settle_pollsPicked_of_live {s : State}
    (h : s.live = true → ∀ b, (s.branch b).state = .idle → (s.branch b).failsafe = [] ∧ (s.branch b).queue = []) :
    PollsPicked s s.settle := by
  by_cases hl : s.live = true
  · exact State.settle_pollsPicked (h hl)
  · rw [State.settle_of_held (Bool.eq_false_iff.2 hl)]
    exact .refl s

theorem Scan.find?_update_other (c : Scan) {a k : Octet} {f : ScanSlot → ScanSlot} (hf : ∀ x, (f x).addr = x.addr) (h : a ≠ k) :
    (c.update k f).find? a = c.find? a := by
  have haddr (x : ScanSlot) : (if x.addr = k then f x else x).addr = x.addr := by
    split
    · exact hf x
    · rfl
  unfold Scan.find? Scan.update
  dsimp only
  induction c.slots with
  | nil => rfl
  | cons x xs ih =>
    rw [List.map_cons]
    by_cases hx : x.addr = a
    · rw [if_neg (hx ▸ h), List.find?_cons_of_pos (by simpa using hx), List.find?_cons_of_pos (by simpa using hx)]
    · rw [List.find?_cons_of_neg (by simpa [haddr] using hx), List.find?_cons_of_neg (by simpa using hx), ih]

/-- The slot of a station whose branch is not IDLE is not picked for (R68, R70). -/
theorem State.arbitrate_scan_find? {s : State} {a : Octet}
    (h : ∀ r, s.active.record? a = some r → (s.branch r.branch).state ≠ .idle) (b : BranchId) :
    (s.arbitrate b).scan.find? a = s.scan.find? a := by
  by_cases hl : s.live = true
  · by_cases hi : (s.branch b).state = .idle
    · cases hclaim : chooseClaim (s.branch b) (s.branchSettings b).burst (s.firstClaim b) with
      | none => rw [State.arbitrate_of_noClaim hclaim]
      | some c =>
        rw [State.arbitrate_of_claim hl hi hclaim]
        cases c with
        | failsafe f rest => rfl
        | queued q rest => cases q <;> rfl
        | poll p =>
          obtain ⟨-, hp⟩ := chooseClaim_heads hclaim
          obtain ⟨-, -, -, r, hr, hb⟩ := State.mem_overdueClaims.1 (State.firstClaim_mem hp)
          have hne : a ≠ p.addr := fun heq => h r (heq ▸ hr) (hb ▸ hi)
          change (s.scan.update p.addr _).find? a = _
          exact Scan.find?_update_other s.scan (fun _ => rfl) hne
    · rw [State.arbitrate_of_busy hi]
  · rw [State.arbitrate_of_held (Bool.eq_false_iff.2 hl)]

theorem State.settle_scan_find? {s : State} {a : Octet}
    (h : ∀ r, s.active.record? a = some r → (s.branch r.branch).state ≠ .idle) : s.settle.scan.find? a = s.scan.find? a := by
  have hkeeps {t : State} (b : BranchId) (ht : ∀ r, t.active.record? a = some r → (t.branch r.branch).state ≠ .idle) :
      ∀ r, (t.arbitrate b).active.record? a = some r → ((t.arbitrate b).branch r.branch).state ≠ .idle := fun r hr => by
    have hr' : t.active.record? a = some r := by rwa [State.arbitrate_frame] at hr
    by_cases hb : r.branch = b
    · rw [State.arbitrate_of_busy (hb ▸ ht r hr')]
      exact ht r hr'
    · rw [State.arbitrate_branch_other _ _ _ hb]
      exact ht r hr'
  have h0 := hkeeps .b0 h
  have h1 := hkeeps .b1 h0
  have h2 := hkeeps .b2 h1
  unfold State.settle
  rw [State.arbitrate_scan_find? h2, State.arbitrate_scan_find? h1, State.arbitrate_scan_find? h0, State.arbitrate_scan_find? h]

theorem contains_shareSlots (qs : List QueueItem) (k : Nat) : (shareSlots qs).contains k = qs.contains (.share k) := by
  rw [Bool.eq_iff_iff, List.contains_iff_mem, List.contains_iff_mem, shareSlots, List.mem_filterMap]
  refine ⟨fun ⟨q, hq, hk⟩ => ?_, fun h => ⟨_, h, rfl⟩⟩
  cases q with
  | station i => cases hk
  | share i => cases hk; exact hq

theorem mem_stationSlots {qs : List QueueItem} {k : Nat} : k ∈ stationSlots qs ↔ .station k ∈ qs := by
  rw [stationSlots, List.mem_filterMap]
  refine ⟨fun ⟨q, hq, hk⟩ => ?_, fun h => ⟨_, h, rfl⟩⟩
  cases q with
  | share i => cases hk
  | station i => cases hk; exact hq

theorem mem_boundStationSlots {i : Option BoundItem} {k : Nat} : k ∈ boundStationSlots i ↔ i = some (.station k) := by
  unfold boundStationSlots
  split
  · simp [eq_comm]
  · rename_i h
    exact ⟨nofun, fun hk => absurd hk (h k)⟩

theorem mem_boundShareSlots {i : Option BoundItem} {k : Nat} : k ∈ boundShareSlots i ↔ i = some (.share k) := by
  unfold boundShareSlots
  split
  · simp [eq_comm]
  · rename_i h
    exact ⟨nofun, fun hk => absurd hk (h k)⟩

end Sys2Proof.Machine
end

section
/-! PROOFS. The eighth interruption in a row: FAULT (R85, R86). -/

namespace Sys2Proof.Machine

theorem State.lineActivity_eighth {s : State} {b : BranchId} {x : Branch} {n : Nat} (hst : x.state = .guard)
    (hph : x.phase = .running n) (hi : x.interrupts = 7) :
    (s.setBranch b x).lineActivity b = (s.setBranch b x.interrupted).enterFault b := by
  simp only [State.lineActivity, State.branch_setBranch_self, hst, hph, hi, faultThreshold, State.setBranch_setBranch]
  exact if_pos (by decide)

/-! ### What the fault event clears -/

/-- The branch has the share of the entry in a slot, bound or queued. -/
def Branch.hasShare (x : Branch) (k : Nat) : Bool := x.bound == some (.share k) || x.queue.contains (.share k)

theorem State.faultDisposal_table (s : State) (b : BranchId) (i : Option BoundItem) :
    (s.faultDisposal b i).table = s.table.losing fun k a => a == b && i == some (.share k) := by
  have hnone (h : ∀ k, i ≠ some (.share k)) : s.table = s.table.losing fun k a => a == b && i == some (.share k) := by
    have hfalse (k : Nat) : (i == some (.share k)) = false := by simpa using h k
    simp only [hfalse, Bool.and_false, Table.losing_nothing]
  match i with
  | some (.share k) =>
    change (s.shareAborted b k).table = _
    rw [State.shareAborted_eq]
    dsimp only
    refine congrArg s.table.losing (funext fun j => funext fun a => ?_)
    have hshare : (j == k) = (some (BoundItem.share k) == some (.share j)) := by
      rw [Bool.eq_iff_iff, beq_iff_eq, beq_iff_eq]
      exact ⟨fun h => by rw [h], fun h => by cases h; rfl⟩
    rw [hshare]
  | some (.poll p) =>
    change (s.pollReleased p).table = _
    rw [State.pollReleased_frame]
    exact hnone nofun
  | none | some (.station _) | some (.failsafe _) => exact hnone nofun

theorem State.faultCleared_table (s : State) (b : BranchId) (x : Branch) :
    (s.faultCleared b x).table = s.table.losing fun k a => a == b && x.hasShare k := by
  rw [State.faultCleared, State.itemsSkipped_frame, State.sharesAborted_eq]
  dsimp only
  rw [State.faultDisposal_table, Table.losing_losing]
  refine congrArg s.table.losing (funext fun k => funext fun a => ?_)
  rw [contains_shareSlots, ← Bool.and_or_distrib_left]
  rfl

theorem State.faultDisposal_sup (s : State) (b : BranchId) (i : Option BoundItem) :
    (s.faultDisposal b i).sup = (s.itemsSkipped (boundFailsafeItems i)).sup := by
  match i with
  | some (.poll p) =>
    change (s.pollReleased p).sup = _
    rw [State.pollReleased_frame]
    rfl
  | none | some (.station _) | some (.share _) | some (.failsafe _) => rfl

theorem State.faultCleared_sup (s : State) (b : BranchId) (x : Branch) :
    (s.faultCleared b x).sup = { s.sup with lines := s.sup.lines.map (ReportLine.skippedFor x.failsafeItems) } := by
  rw [Branch.failsafeItems, ← State.itemsSkipped_sup, State.itemsSkipped_append, State.faultCleared, State.itemsSkipped_sup,
    State.itemsSkipped_sup, State.sharesAborted_frame]
  dsimp only
  rw [State.faultDisposal_sup]

theorem State.faultCleared_scan (s : State) (b : BranchId) (x : Branch) :
    (∀ p, x.bound = some (.poll p) → p.live = true →
      (s.faultCleared b x).scan = s.scan.update p.station fun y => { y with pollBound := false })
    ∧ ((∀ p, x.bound = some (.poll p) → p.live = false) → (s.faultCleared b x).scan = s.scan) := by
  have hscan : (s.faultCleared b x).scan = (s.faultDisposal b x.bound).scan := by
    rw [State.faultCleared, State.itemsSkipped_frame, State.sharesAborted_frame]
  rw [hscan]
  match hx : x.bound with
  | some (.poll p) =>
    refine ⟨fun q hq hl => ?_, fun h => ?_⟩
    · cases hq
      change (s.pollReleased p).scan = _
      rw [State.pollReleased, if_pos hl]
    · change (s.pollReleased p).scan = _
      rw [State.pollReleased, if_neg (by simp [h p rfl])]
  | none | some (.station _) | some (.share _) | some (.failsafe _) => exact ⟨nofun, fun _ => rfl⟩

theorem State.faultCleared_changes (s : State) (b : BranchId) (x : Branch) : (s.faultCleared b x).scan.changes = s.scan.changes := by
  obtain ⟨hpoll, hnone⟩ := s.faultCleared_scan b x
  by_cases h : ∃ p, x.bound = some (.poll p) ∧ p.live = true
  · obtain ⟨p, hp, hl⟩ := h
    rw [hpoll p hp hl]
    rfl
  · rw [hnone fun p hp => Bool.eq_false_iff.2 fun hl => h ⟨p, hp, hl⟩]

/-! ### The fault event -/

/-- The state in which the entries of a faulted branch complete (R85). -/
def State.faultBegun (s : State) (b : BranchId) (x : Branch) : State :=
  ((s.faultCleared b x).setBranch b (x.faulted (s.branchSettings b).enabled)).heldIfDone

/-- The entries that the fault of a branch aborts, and the broadcasts that it finishes. -/
def State.faultJobs (s : State) (b : BranchId) (x : Branch) : List Job :=
  abortJobs .lineFault (boundStationSlots x.bound ++ stationSlots x.queue) ++ (s.faultBegun b x).doneJobs

theorem State.faultBegun_frame (s : State) (b : BranchId) (x : Branch) : s.faultBegun b x =
    { s with table := (s.faultBegun b x).table, scan := (s.faultBegun b x).scan, sup := (s.faultBegun b x).sup
             branches := (s.faultBegun b x).branches } := by
  unfold State.faultBegun
  rw [State.heldIfDone_frame, State.faultCleared_frame]
  rfl

theorem State.faultBegun_table (s : State) (b : BranchId) (x : Branch) :
    (s.faultBegun b x).table = s.table.losing fun k a => a == b && x.hasShare k := by
  rw [← State.faultCleared_table, State.faultBegun, State.heldIfDone_frame]
  rfl

theorem State.faultBegun_scan (s : State) (b : BranchId) (x : Branch) : (s.faultBegun b x).scan = (s.faultCleared b x).scan := by
  rw [State.faultBegun, State.heldIfDone_frame]
  rfl

theorem State.faultBegun_branch (s : State) (b c : BranchId) (x : Branch) :
    (s.faultBegun b x).branch c = if c = b then x.faulted (s.branchSettings b).enabled else s.branch c := by
  have hbranches : (s.faultBegun b x).branches = s.branches.set b (x.faulted (s.branchSettings b).enabled) := by
    rw [State.faultBegun, State.heldIfDone_frame, State.faultCleared_frame]
    rfl
  rw [State.branch, hbranches]
  split
  · rename_i h
    rw [h, Quad.get_set_self]
  · rename_i h
    rw [Quad.get_set_other _ _ _ _ h]
    rfl

theorem State.faultBegun_sup {s : State} {b : BranchId} {x : Branch} (hx : x.failsafeItems = (s.branch b).failsafeItems) :
    (s.faultBegun b x).sup = { s.sup with
      lines := s.sup.lines.map (ReportLine.skippedFor x.failsafeItems)
      state := if s.sup.state = .failsafeSending ∧ s.failsafeLeft = x.failsafeItems.length then .failsafeHeld else s.sup.state } := by
  have hcleared : (s.faultCleared b x).failsafeLeft = s.failsafeLeft := State.failsafeLeft_branches (by rw [State.faultCleared_frame])
  have hbranch : (s.faultCleared b x).branch b = s.branch b := State.branch_congr (by rw [State.faultCleared_frame]) b
  have hleft := State.failsafeLeft_setBranch_add (s.faultCleared b x) b (x.faulted (s.branchSettings b).enabled)
  have hnone : (x.faulted (s.branchSettings b).enabled).failsafeCount = 0 := rfl
  rw [hcleared, hbranch, ← Branch.failsafeItems_length, ← hx, hnone, Nat.add_zero] at hleft
  have hiff : ((s.faultCleared b x).setBranch b (x.faulted (s.branchSettings b).enabled)).failsafeLeft = 0
      ↔ s.failsafeLeft = x.failsafeItems.length := by omega
  have hsup := s.faultCleared_sup b x
  unfold State.faultBegun State.heldIfDone
  rw [State.setBranch_sup, hsup]
  dsimp only
  by_cases h : s.sup.state = .failsafeSending ∧ s.failsafeLeft = x.failsafeItems.length
  · rw [if_pos ⟨h.1, hiff.2 h.2⟩, if_pos h]
  · rw [if_neg fun h' => h ⟨h'.1, hiff.1 h'.2⟩, if_neg h, State.setBranch_sup, hsup]

theorem State.enterFault_setBranch (s : State) (b : BranchId) (x : Branch) :
    (s.setBranch b x).enterFault b = ((s.faultBegun b x).completeAll (s.faultJobs b x)).settle := by
  have hjobs : ((s.setBranch b x).faultCleared b x).doneJobs = (s.faultBegun b x).doneJobs := by
    rw [State.faultCleared_setBranch, State.doneJobs, State.doneJobs, State.faultBegun_table, ← State.faultCleared_table]
    rfl
  rw [State.enterFault_eq, State.branch_setBranch_self, hjobs, State.faultCleared_setBranch, State.setBranch_setBranch]
  rfl

/-! ### Settling O23 -/

/-- What the fault event leaves of a branch (R85). -/
theorem Branch.faulted_interrupted (x : Branch) (r : Receiver) (stray on : Bool) (h : x.interrupts = 7) :
    (x.heard r stray).interrupted.faulted on = { x with
      state := if on then .fault else .disabled, queue := [], failsafe := [], bound := none, phase := .stopped
      finalMark := false, interrupts := 8, probeTimer := if on then some (1000 * 18432) else none, probeQuiet := none
      rx := if on then r else .off
      counters := { x.counters with
        stray := if stray then bump x.counters.stray else x.counters.stray
        guardInterrupts := bump x.counters.guardInterrupts, faults := bump x.counters.faults } } := by
  have h8 : x.interrupts + 1 = 8 := by rw [h]
  unfold Branch.faulted Branch.interrupted Branch.heard
  simp only [h8]
  rfl

/-- Settles O23: the items are cleared, the entries complete, and IDLE branches may pick a poll released here. -/
theorem eighthInterruptionFaults : Obligations.EighthInterruptionFaults := by
  intro s b c r stray n hidle hreach hst hph hi x on items
  let z : Branch := (x.heard r stray).interrupted
  have hz : z.failsafeItems = x.failsafeItems := rfl
  have hitems : items = x.failsafeItems := by
    match hb : x.bound with
    | none | some (.station _) | some (.share _) | some (.poll _) | some (.failsafe _) =>
      simp only [items, hb, Branch.failsafeItems, boundFailsafeItems]
  let u := s.faultBegun b z
  obtain ⟨order, hdone, hsorted⟩ := u.completeAll_completed (s.faultJobs b z)
  let v := u.completeAll (s.faultJobs b z)
  have hexec : exec c s = .next v.settle := by
    rw [exec_of_octetReaches hreach (by rw [hst]; nofun) (by rw [hst]; nofun),
      State.lineActivity_eighth (x := x.heard r stray) (n := n) hst hph hi]
    exact congrArg Host.Outcome.next (s.enterFault_setBranch b z)
  have hu : u = { s with table := u.table, scan := u.scan, sup := u.sup, branches := u.branches } := s.faultBegun_frame b z
  have hv : v = { u with table := v.table, up := v.up } := hdone.frame
  have hvbranch (a : BranchId) : v.branch a = if a = b then z.faulted on else s.branch a := by
    rw [State.branch_congr (s := u) (t := v) (by rw [hv])]
    exact s.faultBegun_branch b a z
  have hvlive : v.live = s.live := by rw [hv, hu]; rfl
  have hnotIdle : (z.faulted on).state ≠ .idle := by
    change (if on then BranchState.fault else .disabled) ≠ .idle
    split <;> nofun
  have hpicks : PollsPicked v v.settle := State.settle_pollsPicked_of_live fun hl a hai => by
    rw [hvbranch] at hai ⊢
    split at hai
    · exact absurd hai hnotIdle
    · rename_i hab
      rw [if_neg hab]
      obtain ⟨hf, hq, -⟩ := hidle (s.live_iff.1 (hvlive ▸ hl)) a hai
      exact ⟨hf, hq⟩
  have htable : v.settle.table = v.table := by rw [hpicks.frame]
  have hup : v.settle.up = v.up := by rw [hpicks.frame]
  have hutable : u.table = s.table.losing fun k a => a == b && z.hasShare k := s.faultBegun_table b z
  have huown : u.own = s.own := by rw [hu]; rfl
  have hfind (k : Nat) : u.table.find? k = (s.table.find? k).map fun e => e.without fun a => a == b && x.hasShare k := by
    rw [hutable]
    exact s.table.find?_losing _ k
  have haborted {k : Nat} : k ∈ boundStationSlots z.bound ++ stationSlots z.queue
      ↔ x.bound = some (.station k) ∨ .station k ∈ x.queue := by
    rw [List.mem_append, mem_boundStationSlots, mem_stationSlots]
    rfl
  have hanswered {k : Nat} {answer : Frame} (h : Answered v k answer) : Answered v.settle k answer := by
    unfold Answered at h ⊢
    rwa [htable]
  refine ⟨v.settle, hexec, ?_, fun k e a hk he ho ha hsets => ?_, fun _ => ?_, fun hdist hrun hplaced k e sets he hs hsets => ?_,
    fun k e he hone hout hbs hbsh hqs hqsh => ?_, fun p hp hl => ?_, fun hp => ?_, ?_, fun a hab hai => ?_, ?_, ?_, ?_⟩
  · obtain hsame | ⟨hi', -⟩ := hpicks.branch b
    · rw [hsame, hvbranch, if_pos rfl]
      exact Branch.faulted_interrupted x r stray on hi
    · rw [hvbranch, if_pos rfl] at hi'
      exact absurd hi' hnotIdle
  · have hue : u.table.find? k = some e := by
      rw [hfind, he, Option.map_some, Entry.without_of_not_pending]
      intro y c hy
      rw [hsets] at hy
      cases hy
    have hjob : (s.faultJobs b z).find? (fun j => j.slot == k) = some { slot := k, form := .aborted .lineFault } := by
      rw [State.faultJobs, List.find?_append, abortJobs_find?, if_pos (haborted.2 hk), Option.some_or]
    have hans := hdone.answered hue ho hjob
    rw [answerFrame, ha] at hans
    exact hanswered hans
  · refine hdone.inOrder hsorted ?_ ?_ ?_ ?_ ?_ ?_ ?_ (fun k e he _ => by rw [htable]; exact he) (by rw [htable]) (by rw [htable])
      (by rw [htable]) hup
    · rw [hutable]
      exact s.table.sameOpen_losing _
    · rw [hu]
    · rw [hutable]; rfl
    · rw [hutable]; rfl
    · rw [hutable]; rfl
    · rw [hu]
    · rw [htable]
      exact .refl _
  · have hno : (abortJobs .lineFault (boundStationSlots z.bound ++ stationSlots z.queue)).find? (fun j => j.slot == k) = none := by
      rw [abortJobs_find?, if_neg fun hmem => ?_]
      obtain ⟨-, hbranches, -⟩ := hplaced hrun
      obtain ⟨-, hqueue, hbound, -⟩ := hbranches b
      obtain hb | hq := haborted.1 hmem
      · obtain ⟨e', -, he', -, hst', -⟩ := (hbound k).1 hb
        rw [he, Option.some_inj] at he'
        rw [← he', hs] at hst'
        cases hst'
      · obtain ⟨e', -, he', -, hst', -⟩ := (hqueue k).1 hq
        rw [he, Option.some_inj] at he'
        rw [← he', hs] at hst'
        cases hst'
    have hmoved := sharesMoved_of (s := s) (v := v) (jobs := s.faultJobs b z) (fun _ _ => hdone.answered) (fun hn => hdone.find?_of_none (.inr hn))
      (congrArg Table.entries hutable) (hdist.holds he) hs hsets (by rw [State.faultJobs, List.find?_append, hno, Option.none_or])
    rw [huown] at hmoved
    unfold SharesMoved Answered at hmoved ⊢
    rw [htable]
    exact hmoved
  · have hkept : e.without (fun a => a == b && x.hasShare k) = e := Entry.without_of_not_pending fun y c _ hc => by
      have hshare : x.hasShare k = false := by simpa [Branch.hasShare] using ⟨hbsh, hqsh⟩
      simp [hshare] at hc
    have hholds : u.table.Holds k e := by
      have hlose := (show s.table.Holds k e from ⟨he, hone⟩).losing fun k a => a == b && x.hasShare k
      rw [hkept] at hlose
      rw [hutable]
      exact hlose
    rw [htable, hdone.find?_of_none (.inr ?_)]
    · exact hholds.1
    · rw [State.faultJobs, List.find?_append, abortJobs_find?, if_neg fun hmem => (haborted.1 hmem).elim hbs hqs, Option.none_or,
        State.doneJobs_find? hholds, hout, if_neg Bool.false_ne_true]
  · have hscan : v.scan = s.scan.update p.station fun y => { y with pollBound := false } := by
      rw [hv]
      exact (s.faultBegun_scan b z).trans ((s.faultCleared_scan b z).1 p hp hl)
    refine ⟨?_, fun y hy hrec => ?_⟩
    · refine hpicks.slots.trans ?_
      rw [hscan]
      simp only [Scan.update, List.map_map]
      refine List.map_congr_left fun y _ => ?_
      simp only [Function.comp_apply]
      split <;> rfl
    · rw [State.settle_scan_find? fun rec hrec' => ?_, hscan, Scan.find?_update (fun y => { y with pollBound := false }) (fun _ => rfl) hy]
      have hactive : v.active = s.active := by rw [hv, hu]
      rw [hactive] at hrec'
      rw [hvbranch]
      split
      · exact hnotIdle
      · exact (hrec rec hrec').resolve_left ‹_›
  · have hscan : v.scan = s.scan := by
      rw [hv]
      exact (s.faultBegun_scan b z).trans ((s.faultCleared_scan b z).2 hp)
    have hquiet : NoIdleClaim v := (noIdleClaim_iff v).2 fun a hl hai => by
      rw [hvbranch] at hai ⊢
      split at hai
      · exact absurd hai hnotIdle
      · rename_i hab
        rw [if_neg hab]
        obtain ⟨hf, hq, hclaims⟩ := hidle (s.live_iff.1 (hvlive ▸ hl)) a hai
        refine ⟨hf, hq, ?_⟩
        rw [State.overdueClaims_congr (s := s) (by rw [hv, hu]) (by rw [hscan])]
        exact hclaims
    rw [State.settle_of_noIdleClaim v hquiet, hscan]
  · have hsup : v.settle.sup = u.sup := by rw [hpicks.frame, hv]
    rw [hsup, State.faultBegun_sup (x := z) hz, hz, ← hitems]
    rfl
  · obtain hsame | ⟨hi', -⟩ := hpicks.branch a
    · rw [hsame, hvbranch, if_neg hab]
    · rw [hvbranch, if_neg hab] at hi'
      exact absurd hi' hai
  · rw [hup]
    have hframe := hdone.up_frame
    rwa [show u.up = s.up by rw [hu]] at hframe
  · refine hpicks.changes.trans ?_
    rw [hv]
    exact (congrArg Scan.changes (s.faultBegun_scan b z)).trans (s.faultCleared_changes b z)
  · rw [hpicks.frame, hv, hu]

end Sys2Proof.Machine
end

section
/-! PROOFS. The picks of one event, whatever they take up, and the completions before or after them (R12 to R14, R68). -/

namespace Sys2Proof.Machine

/-! ### The arbiters, each by its own branch -/

/-- What the arbiter makes of a branch depends on the branch and its claims alone. -/
theorem State.arbitrate_branch_congr {s t : State} {b : BranchId} (hl : t.live = s.live) (ha : t.active = s.active)
    (hclock : t.clock = s.clock) (hb : t.branch b = s.branch b) (hc : t.overdueClaims b = s.overdueClaims b) :
    (t.arbitrate b).branch b = (s.arbitrate b).branch b := by
  have hcfg : t.branchSettings b = s.branchSettings b := by rw [State.branchSettings, ha]; rfl
  have hown : t.own = s.own := by rw [State.own, ha]; rfl
  have hclaim : t.firstClaim b = s.firstClaim b := by rw [State.firstClaim, hc, hclock]; rfl
  by_cases hpick : s.live = true ∧ (s.branch b).state = .idle
  · obtain ⟨hlive, hidle⟩ := hpick
    cases hchoice : chooseClaim (s.branch b) (s.branchSettings b).burst (s.firstClaim b) with
    | none => rw [State.arbitrate_of_noClaim hchoice, State.arbitrate_of_noClaim (by rw [hb, hcfg, hclaim]; exact hchoice), hb]
    | some c =>
      have htimeout : t.pollTimeout c = s.pollTimeout c := by unfold State.pollTimeout; rw [ha]
      rw [State.arbitrate_of_claim hlive hidle hchoice, State.arbitrate_of_claim (hl.trans hlive) (hb ▸ hidle)
        (by rw [hb, hcfg, hclaim]; exact hchoice), State.pick_branch_self, State.pick_branch_self, hb, hcfg, hown, htimeout]
  · have hsame {u : State} (h : ¬ (u.live = true ∧ (u.branch b).state = .idle)) : u.arbitrate b = u := by
      by_cases hlive : u.live = true
      · exact State.arbitrate_of_busy fun hi => h ⟨hlive, hi⟩
      · exact State.arbitrate_of_held (Bool.eq_false_iff.2 hlive) b
    rw [hsame hpick, hsame (by rw [hl, hb]; exact hpick), hb]

/-- The pick of one branch leaves the claims of the others (R70). -/
theorem State.arbitrate_overdueClaims_other (s : State) {b c : BranchId} (h : b ≠ c) :
    (s.arbitrate c).overdueClaims b = s.overdueClaims b := by
  by_cases hpick : s.live = true ∧ (s.branch c).state = .idle
  · obtain ⟨hlive, hidle⟩ := hpick
    cases hchoice : chooseClaim (s.branch c) (s.branchSettings c).burst (s.firstClaim c) with
    | none => rw [State.arbitrate_of_noClaim hchoice]
    | some claim =>
      rw [State.arbitrate_of_claim hlive hidle hchoice]
      cases claim with
      | failsafe f rest => rfl
      | queued q rest => cases q <;> rfl
      | poll p =>
        obtain ⟨-, hp⟩ := chooseClaim_heads hchoice
        obtain ⟨-, -, -, r, hr, hb⟩ := State.mem_overdueClaims.1 (State.firstClaim_mem hp)
        have hother (x : ScanSlot) (hx : x.addr = p.addr) : s.claimsBranch b x = false := by
          refine Bool.eq_false_iff.2 fun hclaims => ?_
          obtain ⟨-, -, r', hr', hb'⟩ := State.claimsBranch_iff.1 hclaims
          rw [hx, hr, Option.some_inj] at hr'
          exact h (hb'.symm.trans (hr' ▸ hb))
        change (s.scan.slots.map fun x => if x.addr = p.addr then { x with pollBound := true } else x).filter (s.claimsBranch b)
          = s.scan.slots.filter (s.claimsBranch b)
        induction s.scan.slots with
        | nil => rfl
        | cons x xs ih =>
          rw [List.map_cons]
          by_cases hx : x.addr = p.addr
          · rw [if_pos hx, List.filter_cons_of_neg (Bool.eq_false_iff.1 (hother { x with pollBound := true } hx)),
              List.filter_cons_of_neg (Bool.eq_false_iff.1 (hother x hx)), ih]
          · rw [if_neg hx, List.filter_cons, List.filter_cons, ih]
  · by_cases hlive : s.live = true
    · rw [State.arbitrate_of_busy fun hi => hpick ⟨hlive, hi⟩]
    · rw [State.arbitrate_of_held (Bool.eq_false_iff.2 hlive)]

/-! ### The picks of one event -/

def Entry.onLine (e : Entry) : Entry := { e with state := .onLine }

/-- From `s` to `t` the arbiters of the branches of `done` have run, each once. -/
structure PicksOf (s t : State) (done : List BranchId) : Prop where
  frame    : t = { s with branches := t.branches, scan := t.scan, table := { s.table with entries := t.table.entries } }
  requests : t.table.requests = s.table.requests
  changes  : t.scan.changes = s.scan.changes
  slots    : t.scan.slots.map ScanSlot.unbound = s.scan.slots.map ScanSlot.unbound
  quiet    : (∀ b ∈ done, (s.branch b).state = .idle → s.overdueClaims b = []) → t.scan = s.scan
  bound    : ∀ a x, s.scan.find? a = some x → x.pollBound = true → t.scan.find? a = some x
  branch   : ∀ b, t.branch b = if b ∈ done then (s.arbitrate b).branch b else s.branch b
  claims   : ∀ b, b ∉ done → t.overdueClaims b = s.overdueClaims b
  entry    : ∀ k, t.table.find? k = s.table.find? k ∨ ∃ b ∈ done, .station k ∈ (s.branch b).queue
    ∧ (t.branch b).bound = some (.station k) ∧ t.table.find? k = (s.table.find? k).map Entry.onLine

theorem PicksOf.nothing (s : State) : PicksOf s s [] :=
  ⟨rfl, rfl, rfl, rfl, fun _ => rfl, fun _ _ h _ => h, fun _ => rfl, fun _ _ => rfl, fun _ => .inl rfl⟩

/-- What one arbiter leaves of the table and the slots. -/
theorem State.arbitrate_picksOf (s : State) (c : BranchId) : PicksOf s (s.arbitrate c) [c] := by
  have hbranch (b : BranchId) : (s.arbitrate c).branch b = if b ∈ [c] then (s.arbitrate b).branch b else s.branch b := by
    by_cases hb : b = c
    · rw [if_pos (by simp [hb]), hb]
    · rw [if_neg (by simpa using hb), State.arbitrate_branch_other _ _ _ hb]
  have hclaims (b : BranchId) (hb : b ∉ [c]) : (s.arbitrate c).overdueClaims b = s.overdueClaims b :=
    s.arbitrate_overdueClaims_other (by simpa using hb)
  have hnone (h : s.arbitrate c = s) : PicksOf s (s.arbitrate c) [c] := by
    refine ⟨?_, ?_, ?_, ?_, fun _ => ?_, fun _ _ hx _ => ?_, hbranch, hclaims, fun _ => .inl ?_⟩ <;> rw [h]
    exact hx
  by_cases hpick : s.live = true ∧ (s.branch c).state = .idle
  · obtain ⟨hlive, hidle⟩ := hpick
    cases hchoice : chooseClaim (s.branch c) (s.branchSettings c).burst (s.firstClaim c) with
    | none => exact hnone (State.arbitrate_of_noClaim hchoice)
    | some claim =>
      have hpicked := State.arbitrate_of_claim hlive hidle hchoice
      have hheads := chooseClaim_heads hchoice
      have hrequests := s.arbitrate_requests c
      rw [hpicked] at hbranch hclaims hrequests ⊢
      cases claim with
      | failsafe f rest => exact ⟨rfl, hrequests, rfl, rfl, fun _ => rfl, fun _ _ h _ => h, hbranch, hclaims, fun _ => .inl rfl⟩
      | poll p =>
        refine ⟨rfl, hrequests, rfl, Scan.update_unbound .., fun h => ?_, fun a x hx hb => ?_, hbranch, hclaims, fun _ => .inl rfl⟩
        · have hmem := State.firstClaim_mem hheads.2
          rw [h c (List.mem_singleton_self c) hidle] at hmem
          cases hmem
        · change (s.scan.update p.addr _).find? a = _
          by_cases ha : a = p.addr
          · subst ha
            rw [Scan.find?_update (fun y => { y with pollBound := true }) (fun _ => rfl) hx, ← hb]
          · exact (Scan.find?_update_other s.scan (f := fun y => { y with pollBound := true }) (fun _ => rfl) ha).trans hx
      | queued q rest =>
        cases q with
        | share k => exact ⟨rfl, hrequests, rfl, rfl, fun _ => rfl, fun _ _ h _ => h, hbranch, hclaims, fun _ => .inl rfl⟩
        | station k =>
          refine ⟨rfl, hrequests, rfl, rfl, fun _ => rfl, fun _ _ h _ => h, hbranch, hclaims, fun j => ?_⟩
          have hfind := Table.find?_update s.table k j (fun e => { e with state := .onLine }) fun _ => rfl
          by_cases hj : j = k
          · subst hj
            refine .inr ⟨c, List.mem_singleton_self c, by rw [hheads.2]; exact List.mem_cons_self, ?_, ?_⟩
            · rw [State.pick_branch_self, Branch.afterPick_station]
              rfl
            · rw [if_pos rfl] at hfind
              exact hfind
          · rw [if_neg hj] at hfind
            exact .inl hfind
  · by_cases hlive : s.live = true
    · exact hnone (State.arbitrate_of_busy fun hi => hpick ⟨hlive, hi⟩)
    · exact hnone (State.arbitrate_of_held (Bool.eq_false_iff.2 hlive) c)

/-- The arbiter of one more branch. -/
theorem PicksOf.next {s t : State} {done : List BranchId} (h : PicksOf s t done) {c : BranchId} (hc : c ∉ done) :
    PicksOf s (t.arbitrate c) (c :: done) := by
  have h' := t.arbitrate_picksOf c
  have hlive : t.live = s.live := by rw [h.frame]; rfl
  have hactive : t.active = s.active := by rw [h.frame]
  have hclock : t.clock = s.clock := by rw [h.frame]
  have hbefore : t.branch c = s.branch c := by rw [h.branch, if_neg hc]
  have hself : (t.arbitrate c).branch c = (s.arbitrate c).branch c :=
    State.arbitrate_branch_congr hlive hactive hclock hbefore (h.claims c hc)
  have hother {b : BranchId} (hb : b ≠ c) : (t.arbitrate c).branch b = t.branch b := State.arbitrate_branch_other _ _ _ hb
  refine ⟨?_, h'.requests.trans h.requests, h'.changes.trans h.changes, h'.slots.trans h.slots, fun hquiet => ?_,
    fun a x hx hb => h'.bound a x (h.bound a x hx hb) hb, fun b => ?_,
    fun b hb => ?_, fun k => ?_⟩
  · rw [h'.frame, h.frame]
  · refine (h'.quiet fun b hb hi => ?_).trans (h.quiet fun b hb => hquiet b (List.mem_cons_of_mem _ hb))
    obtain rfl := List.mem_singleton.1 hb
    exact (h.claims b hc).trans (hquiet b List.mem_cons_self (hbefore ▸ hi))
  · by_cases hb : b = c
    · rw [if_pos (by simp [hb]), hb, hself]
    · rw [hother hb, h.branch]
      simp [hb]
  · rw [List.mem_cons, not_or] at hb
    rw [h'.claims b (by simpa using hb.1), h.claims b hb.2]
  · have hkept (j : Nat) (hj : t.table.find? j = s.table.find? j ∨ ∃ b ∈ done, .station j ∈ (s.branch b).queue
        ∧ (t.branch b).bound = some (.station j) ∧ t.table.find? j = (s.table.find? j).map Entry.onLine) :
        t.table.find? j = s.table.find? j ∨ ∃ b ∈ c :: done, .station j ∈ (s.branch b).queue
          ∧ ((t.arbitrate c).branch b).bound = some (.station j) ∧ t.table.find? j = (s.table.find? j).map Entry.onLine := by
      refine hj.imp_right fun ⟨b, hb, hq, hbound, hfind⟩ => ⟨b, List.mem_cons_of_mem _ hb, hq, ?_, hfind⟩
      rw [hother fun heq => hc (heq ▸ hb)]
      exact hbound
    obtain hsame | ⟨b, hb, hq, hbound, hfind⟩ := h'.entry k
    · rw [hsame]
      exact hkept k (h.entry k)
    · obtain rfl := List.mem_singleton.1 hb
      refine .inr ⟨b, List.mem_cons_self, hbefore ▸ hq, hbound, ?_⟩
      rw [hfind]
      obtain hsame | ⟨-, -, -, -, hbefore⟩ := h.entry k
      · rw [hsame]
      · rw [hbefore, Option.map_map]
        rfl

/-- The arbiters of branches 0 to 3, each once (R68). -/
theorem State.settle_picksOf (s : State) : PicksOf s s.settle [.b3, .b2, .b1, .b0] :=
  ((((PicksOf.nothing s).next (by decide)).next (by decide)).next (by decide)).next (by decide)

end Sys2Proof.Machine
end

section
/-! PROOFS. The end of an event that completes several entries: its completions and its picks, in either order (R13, R68). -/

namespace Sys2Proof.Machine

/-- From `u` to `t` an event ends: its completions are made, the arbiters run, and the agent may go on. -/
structure Concluded (u t : State) (jobs : List Job) : Prop where
  frame    : t = { u with table := t.table, up := t.up, branches := t.branches, scan := t.scan, agent := t.agent, free := t.free }
  requests : t.table.requests = u.table.requests
  up       : t.up = { u.up with queue := t.up.queue, tx := t.up.tx }
  changes  : t.scan.changes = u.scan.changes
  slots    : t.scan.slots.map ScanSlot.unbound = u.scan.slots.map ScanSlot.unbound
  quiet    : (∀ b, (u.branch b).state = .idle → u.overdueClaims b = []) → t.scan = u.scan
  bound    : ∀ a x, u.scan.find? a = some x → x.pollBound = true → t.scan.find? a = some x
  branch   : ∀ b, t.branch b = (u.arbitrate b).branch b
  closed   : ∀ k e, u.table.find? k = some e → e.state.isOpen = false → (∀ b, .station k ∉ (u.branch b).queue) →
    t.table.find? k = some e
  kept     : ∀ k, jobs.find? (fun j => j.slot == k) = none →
    t.table.find? k = u.table.find? k ∨ ∃ b, .station k ∈ (u.branch b).queue ∧ (t.branch b).bound = some (.station k)
      ∧ t.table.find? k = (u.table.find? k).map Entry.onLine
  answered : ∀ k e j, u.table.find? k = some e → e.state.isOpen = true → jobs.find? (fun j => j.slot == k) = some j →
    (∀ b, .station k ∉ (u.branch b).queue) → Answered t k (answerFrame u.own j.form e)
  noted    : ∀ k e j, u.table.find? k = some e → e.state.isOpen = true → jobs.find? (fun j => j.slot == k) = some j →
    (∀ b, .station k ∉ (u.branch b).queue) →
    { frame := answerFrame u.own j.form e, note := releaseNote e (answerFrame u.own j.form e) } ∈ t.up.queue
      ∨ k ∈ t.table.returning
  inOrder  : ∀ s : State, s.table.SameOpen u.table → u.clock = s.clock → u.table.nextSeq = s.table.nextSeq →
    u.table.counters = s.table.counters → u.table.returning = s.table.returning → u.up = s.up →
    (∀ b k, .station k ∈ (u.branch b).queue → jobs.find? (fun j => j.slot == k) = none
      ∧ ∃ e, u.table.find? k = some e ∧ e.state.isOpen = true) → CompletesInOrder s t

/-- A pick of an open entry leaves it open. -/
theorem PicksOf.sameOpen {s t : State} {done : List BranchId} (h : PicksOf s t done)
    (hopen : ∀ b k, .station k ∈ (s.branch b).queue → ∃ e, s.table.find? k = some e ∧ e.state.isOpen = true) :
    s.table.SameOpen t.table := fun k => by
  obtain hsame | ⟨b, -, hq, -, hfind⟩ := h.entry k
  · rw [hsame]
  · obtain ⟨e, he, ho⟩ := hopen b k hq
    rw [hfind, he, Option.map_some, Option.map_some, Option.map_some, ho]
    rfl

theorem State.completeAll_requests (u : State) (jobs : List Job) : (u.completeAll jobs).table.requests = u.table.requests :=
  foldl_frame (f := fun t (j : Job) => t.complete j.slot j.form) (v := fun t => t.table.requests)
    (fun t j => t.complete_requests j.slot j.form) (u.sortJobs jobs) u

/-- The completions first, then the picks. -/
theorem State.concluded_completeAll_settle (u : State) (jobs : List Job) : Concluded u (u.completeAll jobs).settle jobs := by
  obtain ⟨order, hdone, hsorted⟩ := u.completeAll_completed jobs
  have hp := (u.completeAll jobs).settle_picksOf
  have hrequests := u.completeAll_requests jobs
  generalize u.completeAll jobs = v at hdone hp hrequests
  generalize v.settle = t at hp
  have hv := hdone.frame
  have ht := hp.frame
  have hvbranch (b : BranchId) : v.branch b = u.branch b := State.branch_congr (by rw [hv]) b
  have hclaims (b : BranchId) : v.overdueClaims b = u.overdueClaims b := State.overdueClaims_congr (by rw [hv]) (by rw [hv]) b
  have hscan : v.scan = u.scan := by rw [hv]
  have hup : t.up = v.up := by rw [ht]
  refine ⟨?_, hp.requests.trans hrequests, ?_, ?_, ?_, fun hq => ?_, fun a x hx hb => ?_, fun b => ?_,
    fun k e he hc hq => ?_, fun k hk => ?_, fun k e j he ho hj hq => ?_, fun k e j he ho hj hq => ?_,
    fun s hsame hclock hseq hcount hret hsup hpick => ?_⟩
  · rw [ht, hv]
  · rw [hup]
    exact hdone.up_frame
  · rw [hp.changes, hscan]
  · rw [hp.slots, hscan]
  · rw [hp.quiet fun b _ hi => (hclaims b).trans (hq b (hvbranch b ▸ hi)), hscan]
  · exact hp.bound a x (by rw [hscan]; exact hx) hb
  · rw [hp.branch, if_pos (by cases b <;> decide)]
    exact State.arbitrate_branch_congr (by rw [hv]; rfl) (by rw [hv]) (by rw [hv]) (hvbranch b) (hclaims b)
  · rw [(hp.entry k).resolve_right fun ⟨b, _, hin, _⟩ => hq b (hvbranch b ▸ hin), hdone.find?_of_none (.inl ⟨e, he, hc⟩), he]
  · have hfind := hdone.find?_of_none (.inr hk)
    obtain hsame | ⟨b, -, hq, hbound, hpicked⟩ := hp.entry k
    · exact .inl (hsame.trans hfind)
    · exact .inr ⟨b, hvbranch b ▸ hq, hbound, by rw [hpicked, hfind]⟩
  · have hans := hdone.answered he ho hj
    have hsame := (hp.entry k).resolve_right fun ⟨b, _, hin, _⟩ => hq b (hvbranch b ▸ hin)
    unfold Answered at hans ⊢
    rwa [hsame]
  · rw [hup, show t.table.returning = v.table.returning by rw [ht]]
    exact hdone.noted k e j he ho hj
  · have hopen (b : BranchId) (k : Nat) (hk : .station k ∈ (v.branch b).queue) :
        ∃ e, v.table.find? k = some e ∧ e.state.isOpen = true := by
      obtain ⟨hnone, e, he, ho⟩ := hpick b k (hvbranch b ▸ hk)
      exact ⟨e, (hdone.find?_of_none (.inr hnone)).trans he, ho⟩
    refine hdone.inOrder hsorted hsame hclock hseq hcount hret hsup (hp.sameOpen hopen) (fun k e he hclosed => ?_)
      (by rw [ht]) (by rw [ht]) (by rw [ht]) hup
    obtain hsame | ⟨b, -, hq, -⟩ := hp.entry k
    · rw [hsame, he]
    · obtain ⟨e', he', ho⟩ := hopen b k hq
      rw [he, Option.some_inj] at he'
      rw [he', ho] at hclosed
      cases hclosed

theorem State.settle_completeAll_agent (u : State) (jobs : List Job) :
    (u.settle.completeAll jobs).agent = u.agent ∧ (u.settle.completeAll jobs).free = u.free := by
  obtain ⟨order, hdone, -⟩ := u.settle.completeAll_completed jobs
  have hframe := u.settle_frame
  exact ⟨(congrArg State.agent hdone.frame :).trans (congrArg State.agent hframe :),
    (congrArg State.free hdone.frame :).trans (congrArg State.free hframe :)⟩

theorem State.serveNext_working (s : State) : s.serveNext.agent.working = s.agent.working := by
  unfold State.serveNext
  split <;> rfl

/-- The picks first, then the completions; and the agent goes on (R139). -/
theorem State.concluded_settle_completeAll (u : State) (jobs : List Job) :
    Concluded u (u.settle.completeAll jobs).serveNext jobs := by
  obtain ⟨order, hdone, hsorted⟩ := u.settle.completeAll_completed jobs
  have hp := u.settle_picksOf
  have hrequests := u.settle.completeAll_requests jobs
  generalize u.settle = w at hdone hp hrequests hsorted
  generalize w.completeAll jobs = v at hdone hrequests
  have hv := hdone.frame
  have hw := hp.frame
  have ht := v.serveNext_frame
  generalize v.serveNext = t at ht
  have htable : t.table = v.table := by rw [ht]
  have hscan : t.scan = w.scan := by rw [ht, hv]
  have htbranch (b : BranchId) : t.branch b = w.branch b := State.branch_congr (by rw [ht, hv]) b
  have hup : t.up = v.up := by rw [ht]
  have huup : w.up = u.up := by rw [hw]
  have hown : w.own = u.own := by rw [hw]; rfl
  refine ⟨?_, by rw [htable]; exact hrequests.trans hp.requests, ?_, ?_, ?_, fun hq => ?_, fun a x hx hb => ?_, fun b => ?_,
    fun k e he hc hq => ?_,
    fun k hk => ?_, fun k e j he ho hj hq => ?_, fun k e j he ho hj hq => ?_, fun s hsame hclock hseq hcount hret hsup hpick => ?_⟩
  · rw [ht, hv, hw]
  · rw [hup, ← huup]
    exact hdone.up_frame
  · rw [hscan, hp.changes]
  · rw [hscan, hp.slots]
  · rw [hscan, hp.quiet fun b _ hi => hq b hi]
  · rw [hscan]
    exact hp.bound a x hx hb
  · rw [htbranch, hp.branch, if_pos (by cases b <;> decide)]
  · have hsame := (hp.entry k).resolve_right fun ⟨b, _, hin, _⟩ => hq b hin
    rw [htable, hdone.find?_of_none (.inl ⟨e, hsame.trans he, hc⟩), hsame, he]
  · have hfind : t.table.find? k = w.table.find? k := by rw [htable, hdone.find?_of_none (.inr hk)]
    exact (hp.entry k).imp hfind.trans fun ⟨b, _, hq, hbound, hpicked⟩ =>
      ⟨b, hq, by rw [htbranch]; exact hbound, hfind.trans hpicked⟩
  · have hsame := (hp.entry k).resolve_right fun ⟨b, _, hin, _⟩ => hq b hin
    have hans := hdone.answered (hsame.trans he) ho hj
    unfold Answered at hans ⊢
    rwa [htable, ← hown]
  · have hsame := (hp.entry k).resolve_right fun ⟨b, _, hin, _⟩ => hq b hin
    rw [hup, htable, ← hown]
    exact hdone.noted k e j (hsame.trans he) ho hj
  · have hopen (b : BranchId) (k : Nat) (hk : .station k ∈ (u.branch b).queue) :
        ∃ e, u.table.find? k = some e ∧ e.state.isOpen = true := (hpick b k hk).2
    exact hdone.inOrder hsorted (hsame.trans (hp.sameOpen hopen)) (by rw [hw]; exact hclock) (by rw [hw]; exact hseq)
      (by rw [hw]; exact hcount) (by rw [hw]; exact hret) (huup.trans hsup) (by rw [htable]; exact .refl _)
      (fun k e he _ => by rw [htable]; exact he) (by rw [htable]) (by rw [htable]) (by rw [htable]) hup

end Sys2Proof.Machine
end

section
/-! PROOFS. Failsafe entry, block by block, before its completions and picks (R114 to R116). -/

namespace Sys2Proof.Machine

/-! ### A walk over the branches -/

/-- What a walk over the branches gathers, where each step speaks of its own branch alone. -/
theorem State.eachBranch_gathers {f : State → BranchId → State × List Job} {P : State → Prop} {jobs : BranchId → List Job}
    {gone : BranchId → Nat → Bool} {s s' : State} (hbranches : s'.branches = s.branches) (hP : ∀ t b, P t → P (f t b).1)
    (hother : ∀ t b c, c ≠ b → (f t b).1.branch c = t.branch c)
    (hjobs : ∀ t b, P t → t.branch b = s.branch b → (f t b).2 = jobs b)
    (htable : ∀ t b, P t → t.branch b = s.branch b → (f t b).1.table = t.table.losing fun k a => a == b && gone b k) (hs : P s') :
    (s'.eachBranch f).2 = jobs .b0 ++ jobs .b1 ++ jobs .b2 ++ jobs .b3
    ∧ (s'.eachBranch f).1.table = s'.table.losing fun k a => gone a k := by
  have h0 := hP s' .b0 hs
  have h1 := hP _ .b1 h0
  have h2 := hP _ .b2 h1
  have hb0 : s'.branch .b0 = s.branch .b0 := State.branch_congr hbranches _
  have hb1 : (f s' .b0).1.branch .b1 = s.branch .b1 := by rw [hother _ _ _ (by decide)]; exact State.branch_congr hbranches _
  have hb2 : (f (f s' .b0).1 .b1).1.branch .b2 = s.branch .b2 := by
    rw [hother _ _ _ (by decide), hother _ _ _ (by decide)]; exact State.branch_congr hbranches _
  have hb3 : (f (f (f s' .b0).1 .b1).1 .b2).1.branch .b3 = s.branch .b3 := by
    rw [hother _ _ _ (by decide), hother _ _ _ (by decide), hother _ _ _ (by decide)]; exact State.branch_congr hbranches _
  unfold State.eachBranch
  dsimp only
  refine ⟨by rw [hjobs _ _ hs hb0, hjobs _ _ h0 hb1, hjobs _ _ h1 hb2, hjobs _ _ h2 hb3], ?_⟩
  rw [htable _ _ h2 hb3, htable _ _ h1 hb2, htable _ _ h0 hb1, htable _ _ hs hb0, Table.losing_losing, Table.losing_losing,
    Table.losing_losing]
  refine congrArg s'.table.losing (funext fun k => funext fun a => ?_)
  cases a <;> simp [beq_eq_decide]

theorem abortJobs_append (r : AbortReason) (ks ls : List Nat) : abortJobs r ks ++ abortJobs r ls = abortJobs r (ks ++ ls) :=
  List.map_append.symm

/-- A list for each branch, one after another. -/
def eachOf {α : Type} (f : BranchId → List α) : List α := f .b0 ++ f .b1 ++ f .b2 ++ f .b3

theorem mem_eachOf {α : Type} {f : BranchId → List α} {x : α} : x ∈ eachOf f ↔ ∃ b, x ∈ f b := by
  unfold eachOf
  simp only [List.mem_append]
  constructor
  · rintro (((h | h) | h) | h)
    · exact ⟨_, h⟩
    · exact ⟨_, h⟩
    · exact ⟨_, h⟩
    · exact ⟨_, h⟩
  · rintro ⟨b, h⟩
    cases b <;> simp [h]

theorem abortJobs_eachOf (r : AbortReason) (f : BranchId → List Nat) :
    abortJobs r (f .b0) ++ abortJobs r (f .b1) ++ abortJobs r (f .b2) ++ abortJobs r (f .b3) = abortJobs r (eachOf f) := by
  rw [abortJobs_append, abortJobs_append, abortJobs_append]
  rfl

/-! ### The claims (R115) -/

/-- The slots that hold a WRITE or COMMAND. -/
def State.writes (s : State) (k : Nat) : Bool := claimedIn s.table.requests k

theorem holdsWrite_eq (s : State) (k : Nat) : holdsWrite s k = s.writes k := s.claimedByFailsafe_eq k

theorem State.writes_iff {s : State} {k : Nat} {e : Entry} (h : s.table.find? k = some e) :
    s.writes k = true ↔ e.kind = .write ∨ e.kind = .command := by
  rw [State.writes, ← State.claimedByFailsafe_eq, State.claimedByFailsafe, h]
  simp

/-- The slots of STATION entries that failsafe entry takes off a branch (R74, R115). -/
def State.slotsClaimed (s : State) (b : BranchId) : List Nat :=
  boundStationSlots (if (s.branch b).claimOn s.writes = .takeAway then (s.branch b).bound else none)
    ++ stationSlots ((s.branch b).queue.filter (takesItem s.writes))

/-- Failsafe entry takes the share of a slot off the branch (R115). -/
def Branch.shareClaimed (x : Branch) (k : Nat) : Bool :=
  x.queue.contains (.share k) || (x.state == .guard && x.bound == some (.share k))

theorem Branch.claimOn_takeAway {x : Branch} {claimed : Nat → Bool} : x.claimOn claimed = .takeAway ↔
    x.state = .guard ∧ ((∃ k, x.bound = some (.station k) ∧ claimed k = true) ∨ ∃ k, x.bound = some (.share k)) := by
  unfold Branch.claimOn
  split
  · rename_i hb hs
    cases h : claimed _ <;> simp [hb, hs, h]
  · rename_i hb hs
    simp [hb, hs]
  · rename_i hnot
    refine ⟨fun h => ?_, fun ⟨hg, _⟩ => (hnot hg).elim⟩
    split at h <;> cases h
  · rename_i hstation _ hshare
    refine ⟨nofun, ?_⟩
    rintro ⟨hg, ⟨k, hk, -⟩ | ⟨k, hk⟩⟩
    · exact (hstation k hk).elim
    · exact (hshare k hk hg).elim

theorem State.mem_slotsClaimed {s : State} {b : BranchId} {k : Nat} : k ∈ s.slotsClaimed b ↔ s.writes k = true
    ∧ (.station k ∈ (s.branch b).queue ∨ ((s.branch b).bound = some (.station k) ∧ (s.branch b).state = .guard)) := by
  rw [State.slotsClaimed, List.mem_append, mem_boundStationSlots, mem_stationSlots, List.mem_filter]
  constructor
  · rintro (h | ⟨hq, hk⟩)
    · split at h
      · rename_i hclaim
        obtain ⟨hg, ⟨j, hj, hw⟩ | ⟨j, hj⟩⟩ := Branch.claimOn_takeAway.1 hclaim
        · rw [h] at hj
          cases hj
          exact ⟨hw, .inr ⟨h, hg⟩⟩
        · rw [h] at hj
          cases hj
      · cases h
    · exact ⟨hk, .inl hq⟩
  · rintro ⟨hw, hq | ⟨hb, hg⟩⟩
    · exact .inr ⟨hq, hw⟩
    · rw [if_pos (Branch.claimOn_takeAway.2 ⟨hg, .inl ⟨k, hb, hw⟩⟩)]
      exact .inl hb

theorem contains_sharesClaimed (s : State) (b : BranchId) (k : Nat) :
    (boundShareSlots (if (s.branch b).claimOn s.writes = .takeAway then (s.branch b).bound else none)
      ++ shareSlots ((s.branch b).queue.filter (takesItem s.writes))).contains k = (s.branch b).shareClaimed k := by
  rw [Bool.eq_iff_iff, List.contains_iff_mem, List.mem_append, mem_boundShareSlots, ← List.contains_iff_mem, contains_shareSlots,
    List.contains_iff_mem, List.mem_filter, Branch.shareClaimed, Bool.or_eq_true, Bool.and_eq_true, List.contains_iff_mem,
    beq_iff_eq, beq_iff_eq]
  constructor
  · rintro (h | ⟨hq, -⟩)
    · split at h
      · rename_i hclaim
        exact .inr ⟨(Branch.claimOn_takeAway.1 hclaim).1, h⟩
      · cases h
    · exact .inl hq
  · rintro (hq | ⟨hg, hb⟩)
    · exact .inr ⟨hq, rfl⟩
    · rw [if_pos (Branch.claimOn_takeAway.2 ⟨hg, .inr ⟨k, hb⟩⟩)]
      exact .inl hb

/-- The completions and the moved shares of the claim on one branch. -/
theorem State.failsafeClaim_eq {s t : State} {b : BranchId} (hr : t.table.requests = s.table.requests)
    (hb : t.branch b = s.branch b) : (t.failsafeClaim b).2 = abortJobs .failsafe (s.slotsClaimed b)
    ∧ (t.failsafeClaim b).1.table = t.table.losing fun k a => a == b && (s.branch b).shareClaimed k := by
  have htakes : t.failsafeTakes = takesItem s.writes := by
    funext q
    rw [State.failsafeTakes_eq, show t.claimedByFailsafe = s.writes from funext fun k => by rw [t.claimedByFailsafe_eq, hr]; rfl]
  have hclaim : t.boundClaim (s.branch b) = (s.branch b).claimOn s.writes := by
    rw [State.boundClaim_eq, hr]
    rfl
  unfold State.failsafeClaim
  dsimp only
  rw [State.setBranch_table, State.sharesAborted_eq, hb, htakes, hclaim]
  simp only [contains_sharesClaimed]
  exact ⟨rfl, trivial⟩

theorem Table.losing_requests (x : Table) (gone : Nat → BranchId → Bool) : (x.losing gone).requests = x.requests := by
  unfold Table.requests Table.losing
  rw [List.map_map]
  rfl

/-- The table at failsafe entry: the shares queued or bound in GUARD have moved (R8, R115). -/
theorem State.failsafeEntry_table (s : State) (cause : EntryCause) : (s.failsafeEntry cause).1.table
    = s.table.losing fun k a => (s.branch a).shareClaimed k := by
  have hlist (l : List StationRecord) (t : State) : (l.foldl State.listAction t).table = t.table :=
    foldl_frame (v := fun t => t.table) (fun t r => by rw [State.listAction_frame]) l t
  rw [State.failsafeEntry_fst]
  refine (hlist _ _).trans ?_
  exact (State.eachBranch_gathers (s := s) (s' := s.entryBegun cause) (P := fun t => t.table.requests = s.table.requests)
    (jobs := fun b => abortJobs .failsafe (s.slotsClaimed b)) rfl
    (fun t b ht => (t.failsafeClaim_requests b).trans ht) (fun t b c h => by rw [State.failsafeClaim_branch, if_neg h])
    (fun t b ht hb => (State.failsafeClaim_eq ht hb).1) (fun t b ht hb => (State.failsafeClaim_eq ht hb).2) rfl).2

/-- The completions of failsafe entry (R115). -/
theorem State.failsafeEntry_snd (s : State) (cause : EntryCause) : (s.failsafeEntry cause).2
    = abortJobs .failsafe (eachOf s.slotsClaimed) ++ (s.failsafeEntry cause).1.doneJobs := by
  rw [← abortJobs_eachOf]
  refine congrArg (· ++ (s.failsafeEntry cause).1.doneJobs) ?_
  exact (State.eachBranch_gathers (s := s) (s' := s.entryBegun cause) (P := fun t => t.table.requests = s.table.requests) rfl
    (fun t b ht => (t.failsafeClaim_requests b).trans ht) (fun t b c h => by rw [State.failsafeClaim_branch, if_neg h])
    (fun t b ht hb => (State.failsafeClaim_eq ht hb).1) (fun t b ht hb => (State.failsafeClaim_eq ht hb).2) rfl).1

/-! ### The report (R116) -/

/-- The report line of a record with a failsafe action. -/
def State.entryLine (s : State) (r : StationRecord) : Option ReportLine :=
  r.failsafe.map fun _ => { station := r.addr, branch := r.branch, attempts := 0
                            outcome := if (s.branch r.branch).state = .fault then .skipped else .pending }

theorem Branch.listing_state (x : Branch) (fs : List FailsafeItem) : (x.listing fs).state = x.state := by
  unfold Branch.listing
  split <;> rfl

theorem State.listAction_lines (t : State) (r : StationRecord) :
    (t.listAction r).sup = { t.sup with lines := t.sup.lines ++ (t.entryLine r).toList } := by
  cases h : r.failsafe with
  | none =>
    rw [t.listAction_of_none h, State.entryLine, h]
    simp
  | some a =>
    rw [State.entryLine, h]
    by_cases hb : (t.branch r.branch).state = .fault
    · rw [t.listAction_of_fault h hb]
      simp only [hb, if_true]
      rfl
    · rw [t.listAction_of_noFault h hb]
      simp only [hb, if_false]
      rfl

theorem State.listActions_sup (l : List StationRecord) (t : State) :
    (l.foldl State.listAction t).sup = { t.sup with lines := t.sup.lines ++ l.filterMap t.entryLine } := by
  induction l generalizing t with
  | nil => simp
  | cons r rs ih =>
    have hline : (t.listAction r).entryLine = t.entryLine := funext fun r' => by
      simp only [State.entryLine, State.listAction_branch, Branch.listing_state]
    rw [List.foldl_cons, ih, State.listAction_lines, hline]
    cases hr : t.entryLine r with
    | none => simp [hr]
    | some l => simp [hr]

theorem Branch.withdrawn_fault {claimed : Nat → Bool} {en : Bool} {x : Branch} :
    (x.withdrawn claimed en).state = .fault ↔ x.state = .fault := by
  unfold Branch.withdrawn
  cases hclaim : x.claimOn claimed with
  | leave => rfl
  | mark => rfl
  | takeAway =>
    have hg := (Branch.claimOn_takeAway.1 hclaim).1
    cases en <;> simp [Branch.afterClaim, Branch.released, hg]

theorem State.failsafeEntry_sup (s : State) (cause : EntryCause) : (s.failsafeEntry cause).1.sup =
    { state := (s.failsafeEntry cause).1.entryState, silence := none, cause := cause
      lines := s.active.stations.filterMap s.entryLine, stat := true } := by
  have heach := State.eachBranch_frame (v := State.sup) (f := State.failsafeClaim)
    (fun t b => by rw [State.failsafeClaim_frame]) (s.entryBegun cause)
  have hbranch := State.eachBranch_branch (f := State.failsafeClaim)
    (P := fun t => t.active = s.active ∧ t.table.requests = s.table.requests)
    (g := fun b x => x.withdrawn (claimedIn s.table.requests) (s.branchSettings b).enabled)
    (fun t b ht => ⟨by rw [State.failsafeClaim_frame]; exact ht.1, (t.failsafeClaim_requests b).trans ht.2⟩)
    (fun t b ht => by rw [State.failsafeClaim_branch, if_pos rfl, ht.2, State.branchSettings, ht.1]; rfl)
    (fun t b c h => by rw [State.failsafeClaim_branch, if_neg h]) (s := s.entryBegun cause) ⟨rfl, rfl⟩
  have hline : ((s.entryBegun cause).eachBranch State.failsafeClaim).1.entryLine = s.entryLine := funext fun r => by
    simp only [State.entryLine, hbranch, Branch.withdrawn_fault]
    rfl
  have hlisted : (s.entryListed cause).sup = { (s.entryBegun cause).sup with lines := s.active.stations.filterMap s.entryLine } := by
    rw [State.entryListed, State.listActions_sup, heach, hline]
    rfl
  rw [State.failsafeEntry_fst, hlisted]
  rfl

end Sys2Proof.Machine
end

section
/-! PROOFS. Failsafe entry at a branch (R74, R84, R115, R116). -/

namespace Sys2Proof.Machine

/-- A bound WRITE or COMMAND. -/
def Branch.boundWrites (writes : Nat → Bool) (x : Branch) : Bool :=
  match x.bound with
  | some (.station slot) => writes slot
  | _ => false

theorem Branch.claimOn_mark {x : Branch} {claimed : Nat → Bool} :
    x.claimOn claimed = .mark ↔ x.state ≠ .guard ∧ x.boundWrites claimed = true := by
  unfold Branch.claimOn Branch.boundWrites
  split
  · rename_i hb hs
    simp only [hs, ne_eq, not_true_eq_false, false_and, iff_false]
    split <;> nofun
  · rename_i hb hs
    simp [hs]
  · rename_i hb hg
    have hne : x.state ≠ .guard := hg
    simp only [hb]
    cases h : claimed _ <;> simp [hne]
  · rename_i hstation _ _
    split
    · exact (hstation _ ‹_›).elim
    · simp

section Entry

variable {s : State} {b : BranchId}

theorem boundTaken_iff : boundTaken s b = true ↔ (s.branch b).claimOn s.writes = .takeAway := by
  rw [Branch.claimOn_takeAway, boundTaken, Bool.and_eq_true, beq_iff_eq]
  refine and_congr_right fun _ => ?_
  split
  · rename_i hb
    rw [holdsWrite_eq, hb]
    constructor
    · exact fun h => .inl ⟨_, rfl, h⟩
    · rintro (⟨k, hk, hw⟩ | ⟨k, hk⟩)
      · cases hk
        exact hw
      · cases hk
  · rename_i hb
    exact ⟨fun _ => .inr ⟨_, hb⟩, fun _ => rfl⟩
  · rename_i hstation hshare
    refine ⟨nofun, ?_⟩
    rintro (⟨k, hk, -⟩ | ⟨k, hk⟩)
    · exact (hstation k hk).elim
    · exact (hshare k hk).elim

theorem queueKept_eq : queueKept s b = (s.branch b).queue.filter fun q => !takesItem s.writes q := by
  unfold queueKept
  refine congrArg (fun p => (s.branch b).queue.filter p) (funext fun q => ?_)
  cases q with
  | station k => exact congrArg (! ·) (holdsWrite_eq s k)
  | share k => rfl

theorem itemsListed_eq (h : (s.branch b).state ≠ .fault) : itemsListed s.active.stations b = failsafeItemsFor s b := by
  rw [failsafeItemsFor, if_neg h]
  rfl

theorem failsafeItemsFor_fault (h : (s.branch b).state = .fault) : failsafeItemsFor s b = [] := if_pos h

/-- A branch right after failsafe entry, before any pick, where it had no failsafe item (R74, R84, R115, R116). -/
theorem State.failsafeEntry_branch_of_noItems (cause : EntryCause) (hf : (s.branch b).failsafe = []) :
    (boundTaken s b = false → (s.failsafeEntry cause).1.branch b = { s.branch b with
      queue := queueKept s b, failsafe := failsafeItemsFor s b
      finalMark := (s.branch b).finalMark || ((s.branch b).state != .guard && (s.branch b).boundWrites (holdsWrite s)) })
    ∧ (boundTaken s b = true → (s.failsafeEntry cause).1.branch b = { (s.branch b).itemEnded (s.branchSettings b).enabled with
      queue := queueKept s b, failsafe := failsafeItemsFor s b }) := by
  have hlisting (y : Branch) (hy : y.failsafe = []) (hs : y.state = .fault ↔ (s.branch b).state = .fault) :
      y.listing (itemsListed s.active.stations b) = { y with failsafe := failsafeItemsFor s b } := by
    unfold Branch.listing
    by_cases h : (s.branch b).state = .fault
    · rw [if_pos (hs.2 h), failsafeItemsFor_fault h, ← hy]
    · rw [if_neg fun h' => h (hs.1 h'), itemsListed_eq h, hy, List.nil_append]
  have hqueue := queueKept_eq (s := s) (b := b)
  rw [State.failsafeEntry_branch, show holdsWrite s = s.writes from funext (holdsWrite_eq s)]
  change (_ → ((s.branch b).withdrawn s.writes _).listing _ = _) ∧ (_ → ((s.branch b).withdrawn s.writes _).listing _ = _)
  refine ⟨fun htaken => ?_, fun htaken => ?_⟩
  · cases hclaim : (s.branch b).claimOn s.writes with
    | takeAway => rw [boundTaken_iff.2 hclaim] at htaken; cases htaken
    | leave =>
      have hmark : ((s.branch b).state != .guard && (s.branch b).boundWrites s.writes) = false := by
        refine Bool.eq_false_iff.2 fun h => ?_
        rw [Bool.and_eq_true, bne_iff_ne] at h
        rw [Branch.claimOn_mark.2 h] at hclaim
        cases hclaim
      rw [hlisting _ (by rw [Branch.withdrawn, hclaim]; exact hf) Branch.withdrawn_fault, Branch.withdrawn, hclaim, hmark,
        Bool.or_false, hqueue]
      rfl
    | mark =>
      have hmark : ((s.branch b).state != .guard && (s.branch b).boundWrites s.writes) = true := by
        rw [Bool.and_eq_true, bne_iff_ne]
        exact Branch.claimOn_mark.1 hclaim
      rw [hlisting _ (by rw [Branch.withdrawn, hclaim]; exact hf) Branch.withdrawn_fault, Branch.withdrawn, hclaim, hmark,
        Bool.or_true, hqueue]
      rfl
  · have hclaim := boundTaken_iff.1 htaken
    rw [hlisting _ (by rw [Branch.withdrawn, hclaim]; exact hf) Branch.withdrawn_fault, Branch.withdrawn, hclaim, hqueue]
    rfl

/-! ### The pick of a branch -/

theorem State.arbitrate_counters (s : State) (b : BranchId) : ((s.arbitrate b).branch b).counters = (s.branch b).counters := by
  unfold State.arbitrate
  split
  · split
    · rfl
    · rename_i c _
      rw [State.pick_branch_self]
      cases c with
      | failsafe f rest => rfl
      | queued q rest => cases q <;> rfl
      | poll p => rfl
  · rfl

theorem State.failsafeEntry_overdueClaims (cause : EntryCause) (c : BranchId) :
    (s.failsafeEntry cause).1.overdueClaims c = s.overdueClaims c :=
  State.overdueClaims_congr (by rw [State.failsafeEntry_frame]) (by rw [State.failsafeEntry_frame]) c

/-- Settles the clauses on the branches in failsafe entry. -/
theorem branchAtFailsafe {t : State} (cause : EntryCause) (hl : s.live = true) (hlines : LinesFollowStates s)
    (hf : (s.branch b).failsafe = []) (ht : t.branch b = ((s.failsafeEntry cause).1.arbitrate b).branch b) :
    BranchAtFailsafe s t b := by
  obtain ⟨hkept, htaken⟩ := State.failsafeEntry_branch_of_noItems (s := s) (b := b) cause hf
  have hclaims := State.failsafeEntry_overdueClaims (s := s) cause b
  have hframe := s.failsafeEntry_frame cause
  generalize (s.failsafeEntry cause).1 = u at hkept htaken hclaims hframe ht
  have hlive : u.live = true := by rw [hframe]; exact hl
  have hcfg : u.branchSettings b = s.branchSettings b := by rw [hframe]; rfl
  have hown : u.own = s.own := by rw [hframe]; rfl
  have hbusy (h : (u.branch b).state ≠ .idle) : t.branch b = u.branch b := by rw [ht, State.arbitrate_of_busy h]
  have hnotTaken (hi : (s.branch b).state = .idle) : boundTaken s b = false := by
    refine Bool.eq_false_iff.2 fun h => ?_
    have hg := (Branch.claimOn_takeAway.1 (boundTaken_iff.1 h)).1
    rw [hi] at hg
    cases hg
  have hidle (hi : (s.branch b).state = .idle) : u.branch b = { s.branch b with
      queue := queueKept s b, failsafe := failsafeItemsFor s b } := by
    have hunbound : (s.branch b).bound = none := by
      have hnot := (hlines b).1
      rw [hi] at hnot
      simpa using hnot
    have hno : (s.branch b).boundWrites (holdsWrite s) = false := by rw [Branch.boundWrites, hunbound]
    rw [hkept (hnotTaken hi), hno, Bool.and_false, Bool.or_false]
  have hpicked {y : Branch} {i : FailsafeItem} {rest : List FailsafeItem} (hy : u.branch b = y) (hi : y.state = .idle)
      (hyf : y.failsafe = i :: rest) :
      t.branch b = { y.pickedFor (s.branchSettings b) s.active.settings.ownAddr (.failsafe i) with failsafe := rest } := by
    rw [ht, State.arbitrate_of_claim hlive (by rw [hy]; exact hi) (by rw [hy]; exact chooseClaim_failsafe _ _ hyf),
      State.pick_branch_self, Branch.afterPick_failsafe, hy, hcfg, hown]
    rfl
  refine ⟨fun hi hno => ?_, fun hyes hoff => ?_, fun i rest hitems => ⟨fun hyes hon => ?_, fun hi => ?_⟩,
    fun hitems hyes hon => ⟨fun hq hc => ?_, fun slot rest hq hc => ?_, fun hq hc => ?_⟩, fun hquiet hi hitems => ?_, ?_⟩
  · have hu := hkept hno
    exact (hbusy (by rw [hu]; exact hi)).trans hu
  · have hu := htaken hyes
    rw [hoff] at hu
    rw [hbusy (by rw [hu]; nofun), hu]
  · have hu := htaken hyes
    rw [hon, hitems] at hu
    rw [hpicked hu rfl rfl]
    rfl
  · have hu := hidle hi
    rw [hitems] at hu
    rw [hpicked hu hi rfl]
    rfl
  · have hu := htaken hyes
    rw [hon, hitems, hq] at hu
    rw [ht, State.arbitrate_of_noClaim, hu, hq]
    rw [State.firstClaim, hclaims, hc, hu]
    exact chooseClaim_empty _ rfl rfl
  · have hu := htaken hyes
    rw [hon, hitems, hq] at hu
    have hclaim : chooseClaim (u.branch b) (u.branchSettings b).burst (u.firstClaim b) = some (.queued (.station slot) rest) := by
      rw [hu, hcfg]
      refine chooseClaim_queued rfl rfl (hc.imp_right fun hc => ?_)
      rw [State.firstClaim, hclaims, hc]
      rfl
    rw [ht, State.arbitrate_of_claim hlive (by rw [hu]; rfl) hclaim, State.pick_branch_self, Branch.afterPick_station, hu, hcfg, hown]
    rfl
  · have hu := htaken hyes
    rw [hon, hitems] at hu
    cases hfirst : u.firstClaim b with
    | none => exact absurd ((hclaims.symm.trans (State.firstClaim_eq_none hfirst))) hc
    | some z =>
      have hclaim : chooseClaim (u.branch b) (u.branchSettings b).burst (u.firstClaim b) = some (.poll z) := by
        rw [hfirst, hu, hcfg]
        exact chooseClaim_poll rfl hq
      refine ⟨z, hclaims ▸ State.firstClaim_mem hfirst,
        { station := z.addr, timeout := u.pollTimeout (.poll z), attempts := 0, sentAt := none, live := true }, rfl, rfl, rfl, ?_⟩
      rw [ht, State.arbitrate_of_claim hlive (by rw [hu]; rfl) hclaim, State.pick_branch_self, Branch.afterPick_poll, hu, hcfg, hown]
      rfl
  · obtain ⟨-, hqueue, hnone⟩ := hquiet (s.live_iff.1 hl) b hi
    have hu := hidle hi
    have hq : queueKept s b = [] := by rw [queueKept_eq, hqueue]; rfl
    rw [hq, hitems, ← hqueue, ← hf] at hu
    rw [ht, State.arbitrate_of_noClaim]
    · exact hu
    · rw [State.firstClaim, hclaims, hnone, hu]
      exact chooseClaim_empty _ hf hqueue
  · have hcounters : (u.branch b).counters = (s.branch b).counters := by
      cases h : boundTaken s b with
      | false => rw [hkept h]
      | true => rw [htaken h]; rfl
    rw [ht, ← hcounters]
    exact u.arbitrate_counters b

end Entry

end Sys2Proof.Machine
end

section
/-! PROOFS. The entries in an event that takes work off the branches: some are aborted, some shares move (R7 to R9, R13). -/

namespace Sys2Proof.Machine

/-! ### The places that the branches give (R5, R8, R66) -/

/-- The part of `EntriesPlaced` that speaks of the branches. -/
structure WorkPlaced (s : State) : Prop where
  shaped : ∀ e ∈ s.table.entries, e.shaped
  queued : ∀ b k, .station k ∈ (s.branch b).queue ↔ ∃ e r, s.table.find? k = some e ∧ e.origin = .station ∧ e.state = .queued
    ∧ e.route = some r ∧ r.branch = b
  onLine : ∀ b k, (s.branch b).bound = some (.station k) ↔ ∃ e r, s.table.find? k = some e ∧ e.origin = .station
    ∧ e.state = .onLine ∧ e.route = some r ∧ r.branch = b
  shares : ∀ b k, .share k ∈ (s.branch b).queue ∨ (s.branch b).bound = some (.share k) ↔ ∃ e x, s.table.find? k = some e
    ∧ e.origin = .broadcast ∧ e.state = .spreading ∧ e.sets = some x ∧ x.pending.get b = true

theorem EntriesPlaced.work {s : State} (h : EntriesPlaced s) (hl : s.seq.run ≠ .loading) : WorkPlaced s := by
  obtain ⟨hshaped, hbranches, -⟩ := h hl
  exact ⟨hshaped, fun b => (hbranches b).2.1, fun b => (hbranches b).2.2.1, fun b => (hbranches b).2.2.2.1⟩

theorem WorkPlaced.withAgent {s : State} (h : WorkPlaced s) (agent : Agent) : WorkPlaced { s with agent := agent } :=
  ⟨h.shaped, h.queued, h.onLine, h.shares⟩

theorem WorkPlaced.shaped_of_find {s : State} (h : WorkPlaced s) {k : Nat} {e : Entry} (he : s.table.find? k = some e) : e.shaped :=
  h.shaped e (List.mem_of_find?_eq_some he)

theorem WorkPlaced.of_queued {s : State} (h : WorkPlaced s) {b : BranchId} {k : Nat} {e : Entry} (he : s.table.find? k = some e)
    (hq : .station k ∈ (s.branch b).queue) : e.origin = .station ∧ e.state = .queued := by
  obtain ⟨e', -, he', horig, hst, -⟩ := (h.queued b k).1 hq
  rw [he, Option.some_inj] at he'
  exact he' ▸ ⟨horig, hst⟩

theorem WorkPlaced.of_bound {s : State} (h : WorkPlaced s) {b : BranchId} {k : Nat} {e : Entry} (he : s.table.find? k = some e)
    (hb : (s.branch b).bound = some (.station k)) : e.origin = .station ∧ e.state = .onLine := by
  obtain ⟨e', -, he', horig, hst, -⟩ := (h.onLine b k).1 hb
  rw [he, Option.some_inj] at he'
  exact he' ▸ ⟨horig, hst⟩

/-- An entry that is not SPREADING has no share on a branch. -/
theorem WorkPlaced.noShare {s : State} (h : WorkPlaced s) {b : BranchId} {k : Nat} {e : Entry} (he : s.table.find? k = some e)
    (hs : e.state ≠ .spreading) : .share k ∉ (s.branch b).queue ∧ (s.branch b).bound ≠ some (.share k) := by
  rw [← not_or]
  intro hshare
  obtain ⟨e', -, he', -, hst, -⟩ := (h.shares b k).1 hshare
  rw [he, Option.some_inj] at he'
  exact hs (he' ▸ hst)

theorem Entry.shaped.station_sets {e : Entry} (h : e.shaped) (ho : e.origin = .station) : e.sets = none := (h.1 ho).2.2.1

/-! ### An event that takes work off the branches -/

/-- The extra completions are of the request that brings the event on, a QUEUED management request (R13). -/
def RequestJobs (s : State) (request : Option Nat) (extra : List Job) : Prop :=
  ∀ j ∈ extra, request = some j.slot ∧ ∃ e, s.table.find? j.slot = some e ∧ e.origin = .manage ∧ e.state = .queued

theorem RequestJobs.find? {s : State} {request : Option Nat} {extra : List Job} (h : RequestJobs s request extra) {k : Nat}
    (hk : ∀ e, s.table.find? k = some e → request = some k → e.origin = .manage → e.state ≠ .queued) :
    extra.find? (fun j => j.slot == k) = none := by
  rw [List.find?_eq_none]
  intro j hj hjk
  rw [beq_iff_eq] at hjk
  obtain ⟨hreq, e, he, horig, hst⟩ := h j hj
  rw [hjk] at hreq he
  exact hk e he hreq horig hst

/-- From `s` to `u` an event takes STATION entries (by `slots`) and shares (by `gone`) off the branches, all of them queued or bound
there; `jobs` are its completions. -/
structure Aborts (s u : State) (jobs : List Job) (r : AbortReason) (slots : BranchId → List Nat) (gone : BranchId → Nat → Bool)
    (extra : List Job) : Prop where
  frame  : u.table = (s.table.losing fun k a => gone a k) ∧ u.clock = s.clock ∧ u.up = s.up
  jobs   : jobs = abortJobs r (eachOf slots) ++ u.doneJobs ++ extra
  queue  : ∀ b k, .station k ∈ (u.branch b).queue → .station k ∈ (s.branch b).queue
  placed : ∀ b k, k ∈ slots b → .station k ∈ (s.branch b).queue ∨ (s.branch b).bound = some (.station k)
  shares : ∀ b k, gone b k = true → .share k ∈ (s.branch b).queue ∨ (s.branch b).bound = some (.share k)

section Aborts

variable {s u t : State} {jobs extra : List Job} {r : AbortReason} {slots : BranchId → List Nat} {gone : BranchId → Nat → Bool}
  {request : Option Nat}

theorem Aborts.find? (h : Aborts s u jobs r slots gone extra) {k : Nat} {e : Entry} (he : s.table.find? k = some e) :
    u.table.find? k = some (e.without fun a => gone a k) := by
  rw [h.frame.1, Table.find?_losing, he]
  rfl

theorem Aborts.job_of_mem (h : Aborts s u jobs r slots gone extra) {b : BranchId} {k : Nat} (hk : k ∈ slots b) :
    jobs.find? (fun j => j.slot == k) = some { slot := k, form := .aborted r } := by
  rw [h.jobs, List.find?_append, List.find?_append, abortJobs_find?, if_pos (mem_eachOf.2 ⟨b, hk⟩), Option.some_or, Option.some_or]

theorem Aborts.job_of_not_mem (h : Aborts s u jobs r slots gone extra) {k : Nat} (hk : ∀ b, k ∉ slots b)
    (hextra : extra.find? (fun j => j.slot == k) = none) :
    jobs.find? (fun j => j.slot == k) = u.doneJobs.find? fun j => j.slot == k := by
  rw [h.jobs, List.find?_append, List.find?_append, abortJobs_find?, if_neg fun hk' => (mem_eachOf.1 hk').elim hk, hextra,
    Option.none_or, Option.or_none]

/-- An entry that the event takes off a branch is aborted (R7, R16). -/
theorem Aborts.answered (h : Aborts s u jobs r slots gone extra) (hc : Concluded u t jobs) {b : BranchId} {k : Nat} {e : Entry}
    {a : Octet} (hk : k ∈ slots b) (hq : ∀ c, .station k ∉ (u.branch c).queue) (he : s.table.find? k = some e)
    (ho : e.state.isOpen = true) (ha : e.station = some a) (hs : e.sets = none) :
    Answered t k { dest := e.ctrl, src := a, tag := e.tag, kind := 0x32#8, payload := [r.octet, oct e.attempts] } := by
  have hue : u.table.find? k = some e := by
    rw [h.find? he, Entry.without_of_not_pending]
    intro x _ hx
    rw [hs] at hx
    cases hx
  have hans := hc.answered k e _ hue ho (h.job_of_mem hk) hq
  rw [answerFrame, ha] at hans
  exact hans

/-- An entry that the event does not take stays, but that a branch may pick it. -/
theorem Aborts.kept (h : Aborts s u jobs r slots gone extra) (hc : Concluded u t jobs) {k : Nat} {e : Entry}
    (he : s.table.Holds k e) (hout : e.spreadOut = false) (hk : ∀ b, k ∉ slots b) (hshare : e.without (fun a => gone a k) = e)
    (hextra : extra.find? (fun j => j.slot == k) = none) :
    t.table.find? k = some e ∨ ∃ b, .station k ∈ (u.branch b).queue ∧ (t.branch b).bound = some (.station k)
      ∧ t.table.find? k = some { e with state := .onLine } := by
  have hholds : u.table.Holds k e := by
    rw [h.frame.1]
    exact hshare ▸ he.losing fun k a => gone a k
  have hnone : jobs.find? (fun j => j.slot == k) = none := by
    rw [h.job_of_not_mem hk hextra, State.doneJobs_find? hholds, hout, if_neg Bool.false_ne_true]
  refine (hc.kept k hnone).imp (fun h => h.trans hholds.1) fun ⟨b, hq, hb, hfind⟩ => ⟨b, hq, hb, ?_⟩
  rw [hfind, hholds.1]
  rfl

/-- An entry that is not SPREADING, where the event does not take it. -/
theorem Aborts.kept_of_placed (h : Aborts s u jobs r slots gone extra) (hc : Concluded u t jobs) (hd : TagsDistinct s)
    (hw : WorkPlaced s) (hx : RequestJobs s request extra) {k : Nat} {e : Entry} (he : s.table.find? k = some e)
    (hs : e.state ≠ .spreading) (hk : ∀ b, k ∉ slots b) (hreq : request = some k → e.origin = .manage → e.state ≠ .queued) :
    t.table.find? k = some e ∨ ∃ b, .station k ∈ (u.branch b).queue ∧ (t.branch b).bound = some (.station k)
      ∧ t.table.find? k = some { e with state := .onLine } :=
  h.kept hc (hd.holds he) (by simp [Entry.spreadOut, hs]) hk
    (Entry.without_of_not_pending fun x b _ hb => by
      obtain ⟨hq, hbound⟩ := hw.noShare he hs (b := b)
      exact ((h.shares b k hb).elim hq hbound).elim)
    (hx.find? fun e' he' => by rw [he, Option.some_inj] at he'; exact he' ▸ hreq)

/-- An entry that is neither SPREADING nor QUEUED, where the event does not take it. -/
theorem Aborts.stays (h : Aborts s u jobs r slots gone extra) (hc : Concluded u t jobs) (hd : TagsDistinct s)
    (hw : WorkPlaced s) (hx : RequestJobs s request extra) {k : Nat} {e : Entry} (he : s.table.find? k = some e)
    (hs : e.state ≠ .spreading) (hq : e.state ≠ .queued) (hk : ∀ b, (s.branch b).bound = some (.station k) → k ∉ slots b) :
    t.table.find? k = some e := by
  refine (h.kept_of_placed hc hd hw hx he hs (fun b hmem => ?_) fun _ _ => hq).resolve_right fun ⟨b, hin, _⟩ =>
    hq (hw.of_queued he (h.queue b k hin)).2
  obtain hin | hb := h.placed b k hmem
  · exact hq (hw.of_queued he hin).2
  · exact hk b hb hmem

/-- A broadcast some of whose shares the event takes (R8, R9, R17). -/
theorem Aborts.sharesMoved (h : Aborts s u jobs r slots gone extra) (hc : Concluded u t jobs) (hd : TagsDistinct s)
    (hw : WorkPlaced s) (hx : RequestJobs s request extra) {k : Nat} {e : Entry} {x : BroadcastSets}
    (he : s.table.find? k = some e) (hs : e.state = .spreading) (hsets : e.sets = some x) :
    SharesMoved t k e x u.own fun a => gone a k := by
  have hnot (b : BranchId) : k ∉ slots b := fun hmem => by
    obtain hin | hb := h.placed b k hmem
    · rw [(hw.of_queued he hin).2] at hs
      cases hs
    · rw [(hw.of_bound he hb).2] at hs
      cases hs
  have hnoqueue (b : BranchId) : .station k ∉ (u.branch b).queue := fun hin => by
    rw [(hw.of_queued he (h.queue b k hin)).2] at hs
    cases hs
  have hextra : extra.find? (fun j => j.slot == k) = none := hx.find? fun e' he' _ _ hq => by
    rw [he, Option.some_inj] at he'
    rw [he', hq] at hs
    cases hs
  exact sharesMoved_of (v := t) (fun e j he ho hj => hc.answered k e j he ho hj hnoqueue)
    (fun hn => (hc.kept k hn).resolve_right fun ⟨b, hin, _⟩ => hnoqueue b hin)
    (congrArg Table.entries h.frame.1) (hd.holds he) hs hsets (h.job_of_not_mem hnot hextra)

/-- The completions of the event, in their order (R13, R14, R20). -/
theorem Aborts.inOrder (h : Aborts s u jobs r slots gone extra) (hc : Concluded u t jobs) (hd : TagsDistinct s)
    (hw : WorkPlaced s) (hx : RequestJobs s request extra)
    (hkept : ∀ b k, .station k ∈ (u.branch b).queue → ∀ c, k ∉ slots c) : CompletesInOrder s t := by
  obtain ⟨htable, hclock, hup⟩ := h.frame
  refine hc.inOrder s ?_ hclock (by rw [htable]; rfl) (by rw [htable]; rfl) (by rw [htable]; rfl) hup fun b k hq => ?_
  · rw [htable]
    exact s.table.sameOpen_losing _
  · obtain ⟨e, -, he, horig, hst, -⟩ := (hw.queued b k).1 (h.queue b k hq)
    have hholds := (hd.holds he).losing fun k a => gone a k
    rw [← htable] at hholds
    refine ⟨?_, _, h.find? he, by rw [show (e.without _).state = .queued from hst]; rfl⟩
    rw [h.job_of_not_mem (hkept b k hq) (hx.find? fun e' he' _ hm => ?_), State.doneJobs_find? hholds, if_neg]
    · simp [Entry.spreadOut, show (e.without _).state = .queued from hst]
    · rw [he, Option.some_inj] at he'
      rw [← he', horig] at hm
      cases hm

end Aborts

end Sys2Proof.Machine
end

section
/-! PROOFS. Failsafe entry: the entries, the report's state, and the end of the event (R114 to R116). -/

namespace Sys2Proof.Machine

section Entry

variable {s t : State} {cause : EntryCause} {request : Option Nat} {extra : List Job}

theorem State.failsafeEntry_queue (b : BranchId) :
    ((s.failsafeEntry cause).1.branch b).queue = (s.branch b).queue.filter fun q => !takesItem s.writes q := by
  have hlisting (x : Branch) (fs : List FailsafeItem) : (x.listing fs).queue = x.queue := by
    unfold Branch.listing
    split <;> rfl
  rw [State.failsafeEntry_branch, hlisting, Branch.withdrawn]
  cases (s.branch b).claimOn (claimedIn s.table.requests) <;> rfl

theorem State.station_mem_failsafeEntry_queue {b : BranchId} {k : Nat} :
    .station k ∈ ((s.failsafeEntry cause).1.branch b).queue ↔ .station k ∈ (s.branch b).queue ∧ s.writes k = false := by
  rw [State.failsafeEntry_queue, List.mem_filter]
  simp [takesItem]

/-- The completions of failsafe entry, with those of the request that brings it on. -/
def State.entryJobs (s : State) (cause : EntryCause) (extra : List Job) : List Job := (s.failsafeEntry cause).2 ++ extra

/-- The entries and shares that failsafe entry takes off the branches (R115). -/
theorem State.failsafeEntry_aborts (s : State) (cause : EntryCause) (extra : List Job) :
    Aborts s (s.failsafeEntry cause).1 (s.entryJobs cause extra) .failsafe s.slotsClaimed
      (fun a k => (s.branch a).shareClaimed k) extra where
  frame := ⟨s.failsafeEntry_table cause, by rw [State.failsafeEntry_frame], by rw [State.failsafeEntry_frame]⟩
  jobs := by rw [State.entryJobs, State.failsafeEntry_snd]
  queue := fun b k h => (State.station_mem_failsafeEntry_queue.1 h).1
  placed := fun b k h => (State.mem_slotsClaimed.1 h).2.imp_right And.left
  shares := fun b k h => by
    rw [Branch.shareClaimed, Bool.or_eq_true, Bool.and_eq_true, beq_iff_eq, beq_iff_eq, List.contains_iff_mem] at h
    exact h.imp_right And.right

theorem State.not_slotsClaimed_of_read {k : Nat} (h : s.writes k = false) (b : BranchId) : k ∉ s.slotsClaimed b := fun hk => by
  rw [(State.mem_slotsClaimed.1 hk).1] at h
  cases h

theorem State.writes_of_read {k : Nat} {e : Entry} (he : s.table.find? k = some e) (h : e.kind = .read ∨ e.kind = .status) :
    s.writes k = false := Bool.eq_false_iff.2 fun hw => by
  have := (State.writes_iff he).1 hw
  obtain h | h := h <;> simp [h] at this

/-- A claimed entry is aborted (R7, R16, R115). -/
theorem Concluded.answered_claimed (hc : Concluded (s.failsafeEntry cause).1 t (s.entryJobs cause extra)) {b : BranchId} {k : Nat}
    {e : Entry} {a : Octet} (hk : k ∈ s.slotsClaimed b) (he : s.table.find? k = some e) (ho : e.state.isOpen = true)
    (ha : e.station = some a) (hs : e.sets = none) :
    Answered t k { dest := e.ctrl, src := a, tag := e.tag, kind := 0x32#8, payload := [0x01#8, oct e.attempts] } :=
  (s.failsafeEntry_aborts cause extra).answered hc hk
    (fun _ hq => State.not_slotsClaimed_of_read (State.station_mem_failsafeEntry_queue.1 hq).2 b hk) he ho ha hs

/-- What failsafe entry leaves of the entries (R7, R8, R9, R16, R115). -/
theorem entriesAtFailsafe (hc : Concluded (s.failsafeEntry cause).1 t (s.entryJobs cause extra)) (hd : TagsDistinct s)
    (hw : WorkPlaced s) (hx : RequestJobs s request extra) : EntriesAtFailsafe s t request := by
  have ha := s.failsafeEntry_aborts cause extra
  have hown : (s.failsafeEntry cause).1.own = s.own := by rw [State.failsafeEntry_frame]; rfl
  refine ⟨fun b k e a hk he hwrite hstation => ?_, fun k e x he hs hsets => ?_, fun k e he hs hwrite hb => ?_,
    fun k e he hs => ?_, fun k e he ho hr => ?_, fun k e he ho hread => ?_⟩
  · obtain ⟨horig, hopen⟩ : e.origin = .station ∧ e.state.isOpen = true := by
      obtain hq | ⟨hb, -⟩ := hk
      · obtain ⟨horig, hst⟩ := hw.of_queued he hq
        exact ⟨horig, by rw [hst]; rfl⟩
      · obtain ⟨horig, hst⟩ := hw.of_bound he hb
        exact ⟨horig, by rw [hst]; rfl⟩
    exact hc.answered_claimed (State.mem_slotsClaimed.2 ⟨(State.writes_iff he).2 hwrite, hk⟩) he hopen hstation
      ((hw.shaped_of_find he).station_sets horig)
  · have hmoved := ha.sharesMoved hc hd hw hx he hs hsets
    rw [hown] at hmoved
    exact hmoved
  · refine ha.stays hc hd hw hx he (by rw [hs]; nofun) (by rw [hs]; nofun) fun b hbound hmem => ?_
    obtain ⟨-, hin | ⟨-, hg⟩⟩ := State.mem_slotsClaimed.1 hmem
    · rw [(hw.of_queued he hin).2] at hs
      cases hs
    · exact hb b hbound hg
  · refine ha.stays hc hd hw hx he (by rintro h; simp [h] at hs) (by rintro h; simp [h] at hs) fun b hbound _ => ?_
    rw [(hw.of_bound he hbound).2] at hs
    simp at hs
  · have hshaped := hw.shaped_of_find he
    refine (ha.kept_of_placed hc hd hw hx he (hshaped.2.2.1 ho).2.2.2.2 (fun b hmem => ?_)
      fun hreq => absurd hreq hr).resolve_right fun ⟨b, hin, _⟩ => ?_
    · obtain hin | hb := ha.placed b k hmem
      · rw [(hw.of_queued he hin).1] at ho
        cases ho
      · rw [(hw.of_bound he hb).1] at ho
        cases ho
    · rw [(hw.of_queued he (ha.queue b k hin)).1] at ho
      cases ho
  · refine (ha.kept_of_placed hc hd hw hx he ((hw.shaped_of_find he).1 ho).2.2.2.2.1
      (State.not_slotsClaimed_of_read (State.writes_of_read he hread)) fun _ hm => ?_).imp id fun ⟨b, hin, hb, hfind⟩ =>
      ⟨(hw.of_queued he (ha.queue b k hin)).2, hfind, b, ha.queue b k hin, hb⟩
    rw [ho] at hm
    cases hm

/-- The completions of failsafe entry, in their order (R13, R14, R20). -/
theorem completesInOrder_of_failsafeEntry (hc : Concluded (s.failsafeEntry cause).1 t (s.entryJobs cause extra))
    (hd : TagsDistinct s) (hw : WorkPlaced s) (hx : RequestJobs s request extra) : CompletesInOrder s t :=
  (s.failsafeEntry_aborts cause extra).inOrder hc hd hw hx fun _ _ hq =>
    State.not_slotsClaimed_of_read (State.station_mem_failsafeEntry_queue.1 hq).2

/-! ### The state of supervision (R114, R119) -/

/-- In NORMAL no branch has a failsafe item (R111). -/
theorem SendingHasItems.noItems (h : SendingHasItems s) (hn : s.sup.state = .normal) (b : BranchId) :
    (s.branch b).failsafe = [] ∧ ∀ f, (s.branch b).bound ≠ some (.failsafe f) := by
  have hleft : s.failsafeLeft = 0 := by
    refine Nat.eq_zero_of_not_pos fun hpos => ?_
    rw [h.2 hpos] at hn
    cases hn
  have hcount : (s.branch b).failsafeCount = 0 := by
    unfold State.failsafeLeft at hleft
    cases b <;> (simp only [State.branch, Quad.get]; omega)
  rw [← Branch.failsafeItems_length, List.length_eq_zero_iff, Branch.failsafeItems, List.append_eq_nil_iff] at hcount
  refine ⟨hcount.2, fun f hf => ?_⟩
  rw [hf] at hcount
  cases hcount.1

theorem State.failsafeEntry_failsafeCount {b : BranchId} (hf : (s.branch b).failsafe = [])
    (hb : ∀ f, (s.branch b).bound ≠ some (.failsafe f)) :
    ((s.failsafeEntry cause).1.branch b).failsafeCount = (failsafeItemsFor s b).length := by
  obtain ⟨hkept, htaken⟩ := State.failsafeEntry_branch_of_noItems (s := s) (b := b) cause hf
  have hcount (y : Branch) (hy : ∀ f, y.bound ≠ some (.failsafe f)) : y.failsafeCount = y.failsafe.length := by
    rw [← Branch.failsafeItems_length, Branch.failsafeItems]
    match hm : y.bound with
    | some (.failsafe f) => exact absurd hm (hy f)
    | none | some (.station _) | some (.share _) | some (.poll _) => rfl
  cases h : boundTaken s b with
  | false => rw [hkept h]; exact hcount _ hb
  | true => rw [htaken h]; exact hcount _ nofun

theorem eachBranch_sum_eq_zero {f : BranchId → Nat} : f .b0 + f .b1 + f .b2 + f .b3 = 0 ↔ ∀ b, f b = 0 := by
  constructor
  · intro h b
    cases b <;> omega
  · intro h
    rw [h .b0, h .b1, h .b2, h .b3]

/-- Failsafe items are left exactly where a report line is PENDING (R116). -/
theorem State.failsafeEntry_failsafeLeft (hn : s.sup.state = .normal) (hi : SendingHasItems s) :
    (s.failsafeEntry cause).1.failsafeLeft = 0 ↔ ¬ ∃ l ∈ s.active.stations.filterMap s.entryLine, l.outcome = .pending := by
  have hcount (b : BranchId) : ((s.failsafeEntry cause).1.branch b).failsafeCount = (failsafeItemsFor s b).length :=
    State.failsafeEntry_failsafeCount (hi.noItems hn b).1 (hi.noItems hn b).2
  have hsum : (s.failsafeEntry cause).1.failsafeLeft = 0 ↔ ∀ b, failsafeItemsFor s b = [] := by
    refine (eachBranch_sum_eq_zero (f := fun b => ((s.failsafeEntry cause).1.branch b).failsafeCount)).trans
      (forall_congr' fun b => ?_)
    rw [hcount, List.length_eq_zero_iff]
  rw [hsum]
  constructor
  · rintro hnone ⟨l, hl, hp⟩
    obtain ⟨r, hr, hline⟩ := List.mem_filterMap.1 hl
    obtain ⟨a, ha, rfl⟩ := Option.map_eq_some_iff.1 hline
    have hfault : (s.branch r.branch).state ≠ .fault := fun h => by simp [h] at hp
    have hmem : failsafeItem r a ∈ itemsListed s.active.stations r.branch :=
      List.mem_filterMap.2 ⟨r, hr, by rw [if_pos rfl, ha]; rfl⟩
    rw [itemsListed_eq hfault, hnone] at hmem
    cases hmem
  · intro hnone b
    by_cases hfault : (s.branch b).state = .fault
    · exact failsafeItemsFor_fault hfault
    · rw [← itemsListed_eq hfault]
      refine List.eq_nil_iff_forall_not_mem.2 fun i hi => hnone ?_
      obtain ⟨r, hr, hitem⟩ := List.mem_filterMap.1 hi
      split at hitem
      · rename_i hb
        obtain ⟨a, ha, -⟩ := Option.map_eq_some_iff.1 hitem
        refine ⟨_, List.mem_filterMap.2 ⟨r, hr, by rw [State.entryLine, ha]; rfl⟩, ?_⟩
        exact if_neg (hb ▸ hfault)
      · cases hitem

/-- READ and STATUS entries stay, but for a pick. -/
theorem Concluded.kept_reads (hc : Concluded (s.failsafeEntry cause).1 t (s.entryJobs cause extra)) (hx : RequestJobs s request extra)
    {k : Nat} {e : Entry} (he : s.table.Holds k e) (ho : e.origin = .station) (hread : e.kind = .read ∨ e.kind = .status)
    (hs : e.sets = none) : ∃ st, t.table.find? k = some { e with state := st } := by
  have hkept := (s.failsafeEntry_aborts cause extra).kept hc he (by simp [Entry.spreadOut, hs])
    (State.not_slotsClaimed_of_read (State.writes_of_read he.1 hread))
    (Entry.without_of_not_pending fun x b hsets _ => by
      rw [hs] at hsets
      cases hsets)
    (hx.find? fun e' he' _ hm => by
      rw [he.1, Option.some_inj] at he'
      rw [← he', ho] at hm
      cases hm)
  obtain hsame | ⟨-, -, -, hpicked⟩ := hkept
  · exact ⟨e.state, hsame⟩
  · exact ⟨.onLine, hpicked⟩

/-- With nothing taken off a branch no poll is picked: an IDLE branch had no claimant (R68). -/
theorem Concluded.scan_of_entry (hc : Concluded (s.failsafeEntry cause).1 t (s.entryJobs cause extra)) (hl : s.live = true)
    (hf : ∀ b, (s.branch b).failsafe = []) (hidle : NoIdleClaim s) (htaken : ∀ b, boundTaken s b = false) : t.scan = s.scan := by
  have hframe := s.failsafeEntry_frame cause
  refine (hc.quiet fun b hi => ?_).trans (by rw [hframe])
  rw [(State.failsafeEntry_branch_of_noItems cause (hf b)).1 (htaken b)] at hi
  rw [State.failsafeEntry_overdueClaims]
  exact (hidle (s.live_iff.1 hl) b hi).2.2

theorem Concluded.writesHeldBack (hc : Concluded (s.failsafeEntry cause).1 t (s.entryJobs cause extra)) : WritesHeldBack t := by
  have hu := s.failsafeEntry_writesHeldBack cause
  have hframe := hc.frame
  have hrequests := hc.requests
  have hbranch := hc.branch
  generalize (s.failsafeEntry cause).1 = u at hu hframe hrequests hbranch
  refine (writesHeldBack_iff t).2 fun hs b => ?_
  have hsup : t.sup = u.sup := by rw [hframe]
  rw [hrequests, hbranch, ← u.arbitrate_requests b]
  exact (Stir.picks (s := u) b).keeps_heldBack ((writesHeldBack_iff u).1 hu) (by rw [State.arbitrate_frame, ← hsup]; exact hs) b

end Entry

/-! ### Failsafe entry as a whole -/

/-- Failsafe entry, whatever the agent does in its event (R114 to R116). -/
theorem failsafeEntered {s t : State} {agent : Agent} {cause : EntryCause} {request : Option Nat} {extra : List Job}
    (hl : s.live = true) (hn : s.sup.state = .normal) (hi : SendingHasItems s) (hlines : LinesFollowStates s)
    (hc : Concluded (({ s with agent := agent } : State).failsafeEntry cause).1 t (({ s with agent := agent } : State).entryJobs cause extra))
    (hx : RequestJobs s request extra) : FailsafeEntered s t cause request := by
  have hitems := hi.noItems hn
  have hframe := hc.frame
  have hentry := ({ s with agent := agent } : State).failsafeEntry_frame cause
  have hsup : t.sup = (({ s with agent := agent } : State).failsafeEntry cause).1.sup := by rw [hframe]
  have hwhole : t = { s with table := t.table, up := t.up, branches := t.branches, scan := t.scan, sup := t.sup, agent := t.agent
                             free := t.free } := by
    rw [hsup]
    rw [hentry] at hframe
    exact hframe
  have hleft := State.failsafeEntry_failsafeLeft (s := { s with agent := agent }) (cause := cause) hn hi
  rw [State.failsafeEntry_sup] at hsup
  refine ⟨by rw [hsup], by rw [hsup], by rw [hsup], by rw [hsup]; rfl, ?_, hc.writesHeldBack,
    fun b => branchAtFailsafe (s := { s with agent := agent }) cause hl hlines (hitems b).1 (hc.branch b),
    fun hd hp => entriesAtFailsafe (s := { s with agent := agent }) hc hd ((hp.work (s.live_iff.1 hl)).withAgent agent) hx,
    fun hd hp => completesInOrder_of_failsafeEntry (s := { s with agent := agent }) hc hd ((hp.work (s.live_iff.1 hl)).withAgent agent) hx,
    fun k e he hone => hc.kept_reads (request := request) hx ⟨he, hone⟩, ?_, ?_, ?_, hc.scan_of_entry hl fun b => (hitems b).1, hwhole⟩
  · rw [hsup, State.entryState]
    dsimp only
    split
    · rename_i hzero
      rw [if_neg (hleft.1 hzero)]
    · rename_i hpos
      rw [if_pos (not_not.1 fun h => hpos (hleft.2 h))]
  · have hup := hc.up
    rw [congrArg State.up hentry] at hup
    exact hup
  · exact hc.changes.trans (congrArg (fun u => u.scan.changes) hentry)
  · exact hc.slots.trans (congrArg (fun u => u.scan.slots.map ScanSlot.unbound) hentry)

/-- Settles O33: failsafe entry, its completions, then the picks. -/
theorem silenceBringsFailsafe : Obligations.SilenceBringsFailsafe := by
  intro s hrun hn hsilence hidle hi hlines
  have hl := s.live_iff.2 hrun
  have hexec : exec .silenceExpiry s
      = .next ((s.failsafeEntry .silence).1.completeAll (s.entryJobs .silence [])).settle := by
    change execSilenceExpiry s = _
    rw [execSilenceExpiry, if_pos hl, if_pos (by simp [Supervision.silenceDue, hn, hsilence]), State.entryJobs, List.append_nil]
  have hc := (s.failsafeEntry .silence).1.concluded_completeAll_settle (s.entryJobs .silence [])
  have hentry := s.failsafeEntry_frame .silence
  have hcomplete := (s.failsafeEntry .silence).1.completeAll_completed (s.entryJobs .silence [])
  refine ⟨_, hexec, failsafeEntered (agent := s.agent) (request := none) (extra := []) hl hn hi hlines hc nofun, ?_, ?_,
    fun b k e a hq he hs hwrite ha hsets => ?_⟩
  · obtain ⟨order, hdone, -⟩ := hcomplete
    rw [State.settle_frame, hdone.frame, hentry]
  · obtain ⟨order, hdone, -⟩ := hcomplete
    rw [State.settle_frame, hdone.frame, hentry]
  · exact hc.answered_claimed (State.mem_slotsClaimed.2 ⟨(State.writes_iff he).2 hwrite, .inl hq⟩) he (by rw [hs]; rfl) ha hsets

end Sys2Proof.Machine
end

section
/-! PROOFS. RESUME and FORCE FAILSAFE (R121, R122). -/

namespace Sys2Proof.Machine

/-! ### RESUME (R121) -/

theorem resume_of_args {args : List Octet} (h : args ≠ []) (s : State) : resume args s = badArgument s := by
  cases args with
  | nil => exact absurd rfl h
  | cons a as => rfl

theorem resume_held {s : State} (h : s.sup.state = .failsafeHeld) :
    resume [] s = okData [] { s with sup := { s.sup with state := .normal, stat := false } }.restartSilence := by
  rw [resume, h]

theorem resume_sending {s : State} (h : s.sup.state = .failsafeSending) :
    resume [] s = refusedBy .notReady [oct s.failsafeLeft] s := by
  rw [resume, h]

theorem resume_normal {s : State} (h : s.sup.state = .normal) : resume [] s = refusedBy .stateMismatch [0x00#8] s := by
  rw [resume, h]
  rfl

theorem answers_resume {s : State} {slot : Nat} {e : Entry} {args : List Octet} (h : Takes s slot e (0x15#8 :: args)) (u : State)
    (hu : (resume args s.headTaken).state = u.headTaken) (hue : u.table.entries = s.table.entries) :
    ∃ t, exec .resume s = .next t ∧ Answers u t slot e s.active.settings.ownAddr 0x15#8 (resume args s.headTaken).result.octet
      (resume args s.headTaken).data (.entry slot) := by
  obtain ⟨t, ht, ha⟩ := answers_of_takeOp .resume resume h (fun hl => nomatch hl) (fun hb => nomatch hb) u hu hue _ _ rfl rfl
  rw [releaseNote_managed h.slot_eq (by decide) (.inl (by decide))] at ha
  exact ⟨t, ht, ha⟩

theorem resumeAnswers (s : State) (slot : Nat) (e : Entry) (args : List Octet) (h : Takes s slot e (0x15#8 :: args)) :
    let own := s.active.settings.ownAddr
    ∃ t, exec .resume s = .next t
      ∧ (args ≠ [] → Answers s t slot e own 0x15#8 0x02#8 [] (.entry slot))
      ∧ (args = [] → s.sup.state = .failsafeHeld → Answers
          { s with sup := { s.sup with
              state := .normal, stat := false
              silence := if s.active.settings.silence = 0 then none else some (s.active.settings.silence * 100 * 18432) } }
          t slot e own 0x15#8 0x00#8 [] (.entry slot))
      ∧ (args = [] → s.sup.state = .failsafeSending →
          Answers s t slot e own 0x15#8 0x0C#8 [oct s.failsafeLeft] (.entry slot))
      ∧ (args = [] → s.sup.state = .normal → Answers s t slot e own 0x15#8 0x0B#8 [0x00#8] (.entry slot)) := by
  dsimp only
  by_cases hargs : args = []
  · subst hargs
    cases hstate : s.sup.state with
    | normal =>
      have hr : resume [] s.headTaken = _ := resume_normal hstate
      obtain ⟨t, ht, ha⟩ := answers_resume h s (by rw [hr]; rfl) rfl
      rw [hr] at ha
      exact ⟨t, ht, fun h => absurd rfl h, nofun, nofun, fun _ _ => ha⟩
    | failsafeSending =>
      have hr : resume [] s.headTaken = _ := resume_sending hstate
      obtain ⟨t, ht, ha⟩ := answers_resume h s (by rw [hr]; rfl) rfl
      rw [hr] at ha
      exact ⟨t, ht, fun h => absurd rfl h, nofun, fun _ _ => ha, nofun⟩
    | failsafeHeld =>
      have hr : resume [] s.headTaken = _ := resume_held hstate
      obtain ⟨t, ht, ha⟩ := answers_resume h { s with sup := { s.sup with
          state := .normal, stat := false
          silence := if s.active.settings.silence = 0 then none else some (s.active.settings.silence * 100 * 18432) } }
        (by
          rw [hr]
          simp only [okData, State.restartSilence, State.silenceAfresh, State.headTaken, true_and, ne_eq, ite_not]
          rfl) rfl
      rw [hr] at ha
      exact ⟨t, ht, fun h => absurd rfl h, fun _ _ => ha, nofun, nofun⟩
  · have hr := resume_of_args hargs s.headTaken
    obtain ⟨t, ht, ha⟩ := answers_resume h s (by rw [hr]; rfl) rfl
    rw [hr] at ha
    exact ⟨t, ht, fun _ => ha, fun h => absurd h hargs, fun h => absurd h hargs, fun h => absurd h hargs⟩

/-! ### FORCE FAILSAFE (R122) -/

/-- A refusal of FORCE FAILSAFE changes nothing but the answer. -/
theorem answers_forceRefused {s : State} {slot : Nat} {e : Entry} {args : List Octet} (h : Takes s slot e (0x16#8 :: args))
    {r : Result} {d : List Octet}
    (hact : forceFailsafeAction slot args s.headTaken = (s.headTaken, [managedJob s.headTaken slot Op.forceFailsafe.octet r d])) :
    ∃ t, exec .forceFailsafe s = .next t ∧ Answers s t slot e s.active.settings.ownAddr 0x16#8 r.octet d (.entry slot) := by
  obtain ⟨t, ht, ha⟩ := answers_of_refusal (op := .forceFailsafe) h (fun hl => nomatch hl) (fun hb => nomatch hb) hact
  rw [releaseNote_managed h.slot_eq (by decide) (.inl (by decide))] at ha
  exact ⟨t, ht, ha⟩

/-- The completion of the FORCE FAILSAFE request (R122). -/
def State.forceJob (s : State) (slot : Nat) : Job :=
  managedJob s slot Op.forceFailsafe.octet .ok
    [oct ((s.failsafeEntry .forced).1.sup.linesWith .pending), oct ((s.failsafeEntry .forced).1.sup.linesWith .skipped)]

/-- FORCE FAILSAFE in NORMAL: failsafe entry, the picks, and then the completions. -/
theorem exec_forceFailsafe_normal {s : State} {slot : Nat} {e : Entry} (h : Takes s slot e [0x16#8]) (hn : s.sup.state = .normal) :
    exec .forceFailsafe s = .next (((s.headTaken.failsafeEntry .forced).1.settle.completeAll
      (s.headTaken.entryJobs .forced [s.headTaken.forceJob slot])).serveNext) := by
  have hact : forceFailsafeAction slot [] s.headTaken = ((s.headTaken.failsafeEntry .forced).1.settle,
      s.headTaken.entryJobs .forced [s.headTaken.forceJob slot]) := if_pos hn
  have hexec := takeOp_of_takes (op := .forceFailsafe) forceFailsafeAction h (fun hl => nomatch hl) (fun hb => nomatch hb)
  rw [hact] at hexec
  exact hexec

/-- The request that brings failsafe entry on completes in its event (R13, R122). -/
theorem forced_answered {s t : State} {slot : Nat} {e : Entry} (h : Takes s slot e [0x16#8]) (hd : TagsDistinct s)
    (hno : ∀ b, .station slot ∉ (s.branch b).queue ∧ (s.branch b).bound ≠ some (.station slot))
    (hc : Concluded (s.headTaken.failsafeEntry .forced).1 t (s.headTaken.entryJobs .forced [s.headTaken.forceJob slot])) :
    Answered t slot { dest := e.ctrl, src := s.active.settings.ownAddr, tag := e.tag, kind := 0x3F#8
                      payload := [0x16#8, 0x00#8, oct (t.sup.lines.filter fun l => l.outcome = .pending).length,
                                  oct (t.sup.lines.filter fun l => l.outcome = .skipped).length] } := by
  obtain ⟨-, -, -, he, hst, -, -⟩ := h
  have hue := (s.headTaken.failsafeEntry_aborts .forced [s.headTaken.forceJob slot]).find? he
  have hholds := (hd.holds he).losing fun k a => (s.branch a).shareClaimed k
  have htable := s.headTaken.failsafeEntry_table .forced
  have hjob : (s.headTaken.entryJobs .forced [s.headTaken.forceJob slot]).find? (fun j => j.slot == slot)
      = some (s.headTaken.forceJob slot) := by
    have hnot : slot ∉ eachOf s.headTaken.slotsClaimed := fun hmem => by
      obtain ⟨b, hb⟩ := mem_eachOf.1 hmem
      obtain ⟨-, hq | ⟨hbound, -⟩⟩ := State.mem_slotsClaimed.1 hb
      · exact (hno b).1 hq
      · exact (hno b).2 hbound
    have hdone : (s.headTaken.failsafeEntry .forced).1.doneJobs.find? (fun j => j.slot == slot) = none := by
      rw [State.doneJobs_find? (e := e.without fun a => (s.branch a).shareClaimed slot) (htable ▸ hholds), if_neg]
      simp [Entry.spreadOut, show (e.without _).state = .queued from hst]
    rw [State.entryJobs, State.failsafeEntry_snd, List.find?_append, List.find?_append, abortJobs_find?, if_neg hnot, hdone]
    exact List.find?_cons_of_pos (p := fun j : Job => j.slot == slot) (beq_self_eq_true slot)
  have hans := hc.answered slot _ _ hue (by rw [show (e.without _).state = .queued from hst]; rfl) hjob fun b hq =>
    (hno b).1 (State.station_mem_failsafeEntry_queue.1 hq).1
  have hsup : t.sup = (s.headTaken.failsafeEntry .forced).1.sup := (congrArg State.sup hc.frame :)
  rw [hsup]
  exact hans

/-- Settles O43. -/
theorem supervisionOperations : Obligations.SupervisionOperations := by
  refine ⟨resumeAnswers, fun s slot e args h => ?_⟩
  dsimp only
  by_cases hargs : args = []
  · subst hargs
    by_cases hn : s.sup.state = .normal
    · have hc := (s.headTaken.failsafeEntry .forced).1.concluded_settle_completeAll
        (s.headTaken.entryJobs .forced [s.headTaken.forceJob slot])
      obtain ⟨hagent, hfree⟩ := (s.headTaken.failsafeEntry .forced).1.settle_completeAll_agent
        (s.headTaken.entryJobs .forced [s.headTaken.forceJob slot])
      have hentry := s.headTaken.failsafeEntry_frame .forced
      rw [congrArg State.agent hentry] at hagent
      refine ⟨_, exec_forceFailsafe_normal h hn, fun h => absurd rfl h, fun _ h => absurd hn h,
        fun _ _ hi hlines hd hno => ⟨?_, ?_, ?_, forced_answered h hd hno hc⟩⟩
      · refine failsafeEntered (agent := s.headTaken.agent) (s.live_iff.2 h.1) hn hi hlines hc fun j hj => ?_
        obtain rfl := List.mem_singleton.1 hj
        obtain ⟨-, -, -, he, hst, horig, -⟩ := h
        exact ⟨rfl, e, he, horig, hst⟩
      · refine State.serveNext_goesOn s _ ?_ ?_
        · rw [hagent]
          rfl
        · exact hfree.trans (congrArg State.free hentry :)
      · rw [State.serveNext_working, hagent]
        rfl
    · have hact : forceFailsafeAction slot [] s.headTaken
          = (s.headTaken, [managedJob s.headTaken slot Op.forceFailsafe.octet .stateMismatch [s.sup.state.octet]]) := if_neg hn
      obtain ⟨t, ht, ha⟩ := answers_forceRefused h hact
      exact ⟨t, ht, fun h => absurd rfl h, fun _ _ => ha, fun _ h => absurd h hn⟩
  · obtain ⟨a, as, rfl⟩ := List.exists_cons_of_ne_nil hargs
    obtain ⟨t, ht, ha⟩ := answers_forceRefused (r := .badArgument) (d := []) h rfl
    exact ⟨t, ht, fun _ => ha, fun h => absurd h hargs, fun h => absurd h hargs⟩

end Sys2Proof.Machine
end

section
/-! PROOFS. A commit, block by block, before its completions and picks (R36 to R41). -/

namespace Sys2Proof.Machine

/-! ### Report lines -/

/-- The supervision unit with failsafe items made SKIPPED (R118). -/
def Supervision.skipping (v : Supervision) (items : List FailsafeItem) : Supervision :=
  { v with lines := v.lines.map (ReportLine.skippedFor items) }

theorem ReportLine.skippedFor_append (fs gs : List FailsafeItem) (l : ReportLine) :
    l.skippedFor (fs ++ gs) = (l.skippedFor fs).skippedFor gs := by
  have hdone {x : ReportLine} (h : x.outcome ≠ .pending) : x.skippedFor gs = x := by
    unfold ReportLine.skippedFor
    split
    · exact if_neg h
    · rfl
  cases hf : fs.find? fun f => f.station == l.station with
  | none =>
    have hsame : l.skippedFor fs = l := by rw [ReportLine.skippedFor, hf]
    rw [hsame]
    simp only [ReportLine.skippedFor, List.find?_append, hf, Option.none_or]
  | some f =>
    have hfirst : l.skippedFor (fs ++ gs) = l.skippedFor fs := by
      simp only [ReportLine.skippedFor, List.find?_append, hf, Option.some_or]
    rw [hfirst, hdone]
    simp only [ReportLine.skippedFor, hf]
    split
    · nofun
    · assumption

theorem Supervision.skipping_skipping (v : Supervision) (fs gs : List FailsafeItem) :
    (v.skipping fs).skipping gs = v.skipping (fs ++ gs) := by
  unfold Supervision.skipping
  rw [List.map_map]
  exact congrArg (fun ls => { v with lines := ls }) (List.map_congr_left fun l _ => (ReportLine.skippedFor_append fs gs l).symm)

theorem Supervision.skipping_nothing (v : Supervision) : v.skipping [] = v :=
  congrArg (fun ls => { v with lines := ls }) (List.map_id v.lines)

/-! ### A commit at one branch (R37, R38) -/

/-- The slots of the STATION entries that a commit takes off a branch (R37). -/
def State.slotsWithdrawn (s : State) (b : BranchId) : List Nat := if withdrawn s b then stationSlots (s.branch b).queue else []

/-- The failsafe items that a commit takes off a branch (R37). -/
def State.itemsWithdrawn (s : State) (b : BranchId) : List FailsafeItem := if withdrawn s b then (s.branch b).failsafe else []

theorem withdrawn_iff {s : State} {b : BranchId} : withdrawn s b = true ↔
    (s.branchSettings b).enabled = true ∧ (s.shadow.settings.branch.get b).enabled = false := by
  rw [withdrawn, Bool.and_eq_true, Bool.not_eq_true']

/-- The shares that a commit takes off a branch: those queued, and one bound in GUARD (R37). -/
theorem contains_sharesWithdrawn (x : Branch) (k : Nat) :
    ((if x.state = .guard then boundShareSlots x.bound else []) ++ shareSlots x.queue).contains k = x.shareClaimed k := by
  have hqueue : k ∈ shareSlots x.queue ↔ x.queue.contains (.share k) = true := by
    rw [← contains_shareSlots, List.contains_iff_mem]
  rw [Bool.eq_iff_iff, List.contains_iff_mem, List.mem_append, hqueue, Branch.shareClaimed, Bool.or_eq_true, Bool.and_eq_true,
    beq_iff_eq, beq_iff_eq, or_comm]
  refine or_congr_right ?_
  split
  · rename_i hg
    rw [mem_boundShareSlots]
    exact ⟨fun h => ⟨hg, h⟩, fun h => h.2⟩
  · rename_i hg
    exact ⟨nofun, fun h => absurd h.1 hg⟩

theorem State.commitBranch_eq {s t : State} {b : BranchId} (ha : t.active = s.shadow) (hb : t.branch b = s.branch b) :
    (t.commitBranch s.active b).2 = abortJobs .branchDisabled (s.slotsWithdrawn b)
    ∧ (t.commitBranch s.active b).1.table = (t.table.losing fun k a => a == b && (withdrawn s b && (s.branch b).shareClaimed k))
    ∧ (t.commitBranch s.active b).1.sup = t.sup.skipping (s.itemsWithdrawn b) := by
  have hwas : (s.active.settings.branch.get b).enabled = (s.branchSettings b).enabled := rfl
  have his : (t.branchSettings b).enabled = (s.shadow.settings.branch.get b).enabled := by rw [State.branchSettings, ha]
  unfold State.slotsWithdrawn State.itemsWithdrawn
  by_cases hw : withdrawn s b = true
  · obtain ⟨hon, hoff⟩ := withdrawn_iff.1 hw
    have hdisable : t.commitBranch s.active b = t.disableBranch b := by rw [State.commitBranch, hwas, his, hon, hoff]
    rw [hdisable, if_pos hw, if_pos hw, hw]
    unfold State.disableBranch
    dsimp only
    rw [hb, State.setBranch_table, State.setBranch_sup, State.itemsSkipped_sup, State.itemsSkipped_frame, State.sharesAborted_eq]
    simp only [contains_sharesWithdrawn, Bool.true_and]
    exact ⟨trivial, trivial, rfl⟩
  · have hkept : (t.commitBranch s.active b).2 = [] ∧ (t.commitBranch s.active b).1.table = t.table
        ∧ (t.commitBranch s.active b).1.sup = t.sup := by
      unfold State.commitBranch
      split
      · rename_i hon hoff
        exact absurd (withdrawn_iff.2 ⟨hon, his ▸ hoff⟩) hw
      · rw [State.enableBranch_eq]
        exact ⟨rfl, rfl, rfl⟩
      · exact ⟨rfl, rfl, rfl⟩
    obtain ⟨hjobs, htable, hsup⟩ := hkept
    rw [hjobs, htable, hsup, if_neg hw, if_neg hw, Bool.eq_false_iff.2 hw]
    refine ⟨rfl, ?_, (Supervision.skipping_nothing _).symm⟩
    simp only [Bool.false_and, Bool.and_false, Table.losing_nothing]

/-! ### The walk over the branches -/

/-- A commit before its effects on tokens, slots and silence. -/
def State.commitWalk (s : State) : State × List Job := { s with active := s.shadow }.eachBranch fun t b => t.commitBranch s.active b

theorem State.commitWalk_gathers (s : State) : s.commitWalk.2 = abortJobs .branchDisabled (eachOf s.slotsWithdrawn)
    ∧ s.commitWalk.1.table = s.table.losing fun k a => withdrawn s a && (s.branch a).shareClaimed k := by
  rw [← abortJobs_eachOf]
  exact State.eachBranch_gathers (s := s) (s' := { s with active := s.shadow }) (P := fun t => t.active = s.shadow)
    (gone := fun b k => withdrawn s b && (s.branch b).shareClaimed k) rfl
    (fun t b ht => by rw [State.commitBranch_frame]; exact ht) (fun t b c h => by rw [State.commitBranch_branch, if_neg h])
    (fun t b ht hb => (State.commitBranch_eq ht hb).1) (fun t b ht hb => (State.commitBranch_eq ht hb).2.1) rfl

/-- What a walk over the branches makes of the report. -/
theorem State.eachBranch_skips {f : State → BranchId → State × List Job} {P : State → Prop} {items : BranchId → List FailsafeItem}
    {s s' : State} (hbranches : s'.branches = s.branches) (hP : ∀ t b, P t → P (f t b).1)
    (hother : ∀ t b c, c ≠ b → (f t b).1.branch c = t.branch c)
    (hsup : ∀ t b, P t → t.branch b = s.branch b → (f t b).1.sup = t.sup.skipping (items b)) (hs : P s') :
    (s'.eachBranch f).1.sup = s'.sup.skipping (eachOf items) := by
  have h0 := hP s' .b0 hs
  have h1 := hP _ .b1 h0
  have h2 := hP _ .b2 h1
  have hb0 : s'.branch .b0 = s.branch .b0 := State.branch_congr hbranches _
  have hb1 : (f s' .b0).1.branch .b1 = s.branch .b1 := by rw [hother _ _ _ (by decide)]; exact State.branch_congr hbranches _
  have hb2 : (f (f s' .b0).1 .b1).1.branch .b2 = s.branch .b2 := by
    rw [hother _ _ _ (by decide), hother _ _ _ (by decide)]; exact State.branch_congr hbranches _
  have hb3 : (f (f (f s' .b0).1 .b1).1 .b2).1.branch .b3 = s.branch .b3 := by
    rw [hother _ _ _ (by decide), hother _ _ _ (by decide), hother _ _ _ (by decide)]; exact State.branch_congr hbranches _
  unfold State.eachBranch
  dsimp only
  rw [hsup _ _ h2 hb3, hsup _ _ h1 hb2, hsup _ _ h0 hb1, hsup _ _ hs hb0, Supervision.skipping_skipping,
    Supervision.skipping_skipping, Supervision.skipping_skipping, eachOf, List.append_assoc, List.append_assoc]

theorem State.commitWalk_sup (s : State) : s.commitWalk.1.sup = s.sup.skipping (eachOf s.itemsWithdrawn) :=
  State.eachBranch_skips (s := s) (s' := { s with active := s.shadow }) (P := fun t => t.active = s.shadow) rfl
    (fun t b ht => by rw [State.commitBranch_frame]; exact ht) (fun t b c h => by rw [State.commitBranch_branch, if_neg h])
    (fun t b ht hb => (State.commitBranch_eq ht hb).2.2) rfl

/-! ### The commit as a whole -/

/-- A commit before failsafe sending may end. -/
def State.commitMade (s : State) : State := ((s.commitWalk.1.commitTokens s.active).commitSlots s.active).commitSilence s.active

theorem State.replaceActive_eq (s : State) :
    s.replaceActive = (s.commitMade.heldIfDone, s.commitWalk.2 ++ s.commitMade.heldIfDone.doneJobs) := rfl

theorem State.replaceActive_table (s : State) :
    s.replaceActive.1.table = s.table.losing fun k a => withdrawn s a && (s.branch a).shareClaimed k := by
  rw [← s.commitWalk_gathers.2, State.replaceActive_eq]
  dsimp only
  rw [State.heldIfDone_frame, State.commitMade, State.commitSilence_frame]
  rfl

theorem State.replaceActive_snd (s : State) :
    s.replaceActive.2 = abortJobs .branchDisabled (eachOf s.slotsWithdrawn) ++ s.replaceActive.1.doneJobs := by
  rw [← s.commitWalk_gathers.1]
  rfl

theorem Branch.committed_failsafeCount_add (x : Branch) (was is : Bool) :
    (x.committed was is).failsafeCount + (if was && !is then x.failsafe else []).length = x.failsafeCount := by
  have henabled : x.enabledBy.failsafeCount = x.failsafeCount := by
    unfold Branch.enabledBy
    split <;> rfl
  have hdisabled : x.disabledBy.failsafeCount + x.failsafe.length = x.failsafeCount := by
    unfold Branch.disabledBy
    dsimp only
    split
    · simp [Branch.failsafeCount, *]
    · simp [Branch.failsafeCount, Branch.released, *]
    · simp [Branch.failsafeCount, Nat.add_comm]
  cases was <;> cases is
  · rfl
  · exact henabled
  · exact hdisabled
  · rfl

theorem eachOf_length {α : Type} (f : BranchId → List α) :
    (eachOf f).length = (f .b0).length + (f .b1).length + (f .b2).length + (f .b3).length := by
  simp only [eachOf, List.length_append]

theorem State.replaceActive_failsafeLeft (s : State) :
    s.replaceActive.1.failsafeLeft + (eachOf s.itemsWithdrawn).length = s.failsafeLeft := by
  have hcount (b : BranchId) : (s.replaceActive.1.branch b).failsafeCount + (s.itemsWithdrawn b).length
      = (s.branch b).failsafeCount := by
    rw [State.replaceActive_branch, Branch.orphaned_failsafeCount]
    exact (s.branch b).committed_failsafeCount_add _ _
  have h0 := hcount .b0
  have h1 := hcount .b1
  have h2 := hcount .b2
  have h3 := hcount .b3
  rw [eachOf_length]
  simp only [State.branch, Quad.get] at h0 h1 h2 h3
  unfold State.failsafeLeft
  omega

/-- The supervision unit after a commit (R37, R41, R118, R119). -/
theorem State.replaceActive_sup (s : State) : s.replaceActive.1.sup = { s.sup with
    silence := if s.shadow.settings.silence = s.active.settings.silence ∨ s.sup.state ≠ .normal then s.sup.silence
      else if s.shadow.settings.silence = 0 then none else some (s.shadow.settings.silence * 100 * 18432)
    lines := s.sup.lines.map (ReportLine.skippedFor (eachOf s.itemsWithdrawn))
    state := if s.sup.state = .failsafeSending ∧ s.failsafeLeft = (eachOf s.itemsWithdrawn).length then .failsafeHeld
      else s.sup.state } := by
  have hleft : s.commitMade.failsafeLeft + (eachOf s.itemsWithdrawn).length = s.failsafeLeft := by
    rw [← s.replaceActive_failsafeLeft, State.replaceActive_eq]
    dsimp only
    rw [State.failsafeLeft_branches (State.heldIfDone_branches s.commitMade)]
  have hactive : s.commitWalk.1.active = s.shadow := by
    have hframe := State.commitBranches_frame { s with active := s.shadow } s.active s.commitWalk.1 rfl
    rw [hframe]
  have hmade : s.commitMade.sup = { s.sup with
      silence := if s.shadow.settings.silence = s.active.settings.silence ∨ s.sup.state ≠ .normal then s.sup.silence
        else if s.shadow.settings.silence = 0 then none else some (s.shadow.settings.silence * 100 * 18432)
      lines := s.sup.lines.map (ReportLine.skippedFor (eachOf s.itemsWithdrawn)) } := by
    have hsettings : ((s.commitWalk.1.commitTokens s.active).commitSlots s.active).active = s.shadow := hactive
    have hsup : ((s.commitWalk.1.commitTokens s.active).commitSlots s.active).sup = s.sup.skipping (eachOf s.itemsWithdrawn) :=
      s.commitWalk_sup
    unfold State.commitMade State.commitSilence
    rw [hsettings, hsup]
    by_cases hsame : s.active.settings.silence = s.shadow.settings.silence
    · rw [if_pos hsame, if_pos (.inl hsame.symm), hsup]
      rfl
    · rw [if_neg hsame, show (s.sup.skipping (eachOf s.itemsWithdrawn)).state = s.sup.state from rfl]
      by_cases hn : s.sup.state = .normal
      · rw [if_pos hn, if_neg (by rintro (h | h); exacts [hsame h.symm, h hn])]
        unfold State.restartSilence State.silenceAfresh
        rw [hsettings, hsup]
        by_cases hz : s.shadow.settings.silence = 0
        · rw [if_neg (fun h => h.2 hz), if_pos hz]
          rfl
        · rw [if_pos ⟨hn, hz⟩, if_neg hz]
          rfl
      · rw [if_neg hn, if_pos (.inr hn), hsup]
        rfl
  have hzero : s.commitMade.failsafeLeft = 0 ↔ s.failsafeLeft = (eachOf s.itemsWithdrawn).length := by omega
  rw [State.replaceActive_eq]
  dsimp only
  unfold State.heldIfDone
  rw [hmade]
  by_cases h : s.sup.state = .failsafeSending ∧ s.failsafeLeft = (eachOf s.itemsWithdrawn).length
  · rw [if_pos ⟨h.1, hzero.2 h.2⟩, if_pos h]
  · rw [if_neg fun h' => h ⟨h'.1, hzero.1 h'.2⟩, if_neg h, hmade]

end Sys2Proof.Machine
end

section
/-! PROOFS. A commit at a branch (R37, R38, R40, R89). -/

namespace Sys2Proof.Machine

theorem Branch.orphaned_eq (s : State) (x : Branch) :
    x.orphaned (fun a => (s.shadow.scan? a).isSome) = { x with bound := boundAtCommit s x.bound } := by
  match hb : x.bound with
  | some (.poll p) =>
    simp only [Branch.orphaned, hb]
    split
    · rename_i hscan
      rw [boundAtCommit, hscan, Bool.and_true, ← hb]
    · rename_i hscan
      rw [boundAtCommit, Bool.eq_false_iff.2 hscan, Bool.and_false]
  | none | some (.station _) | some (.share _) | some (.failsafe _) =>
    simp only [Branch.orphaned, hb]
    rw [boundAtCommit, ← hb]
    nofun

theorem Branch.disabledBy_of_bound {x : Branch} (hb : x.bound ≠ none) (h : x.state ≠ .guard ∨ ∀ k, x.bound ≠ some (.share k)) :
    x.disabledBy = { x with queue := [], failsafe := [], finalMark := true } := by
  unfold Branch.disabledBy
  dsimp only
  split
  · exact absurd ‹_› hb
  · rename_i hshare hg
    exact absurd h (by simp [hshare, hg])
  · rfl

theorem Branch.disabledBy_of_none {x : Branch} (hb : x.bound = none) : x.disabledBy = { x with
    state := .disabled, queue := [], failsafe := [], probeTimer := none, probeQuiet := none, rx := .off, phase := .stopped } := by
  unfold Branch.disabledBy
  dsimp only
  split
  · rfl
  · rename_i hshare _
    rw [hb] at hshare
    cases hshare
  · rename_i hsome _
    rw [hb] at hsome
    cases hsome

theorem Branch.disabledBy_of_share {x : Branch} {k : Nat} (hb : x.bound = some (.share k)) (hg : x.state = .guard) :
    x.disabledBy = { x.itemEnded false with queue := [], failsafe := [] } := by
  unfold Branch.disabledBy
  dsimp only
  split
  · rename_i hnone
    rw [hb] at hnone
    cases hnone
  · rfl
  · rename_i hsome hnot
    rw [hb] at hsome
    cases hsome
    exact (hnot k hg rfl).elim

/-- What every pick leaves of a branch but for its list, its item and its guard (R71). -/
theorem Branch.afterPick_kept {x : Branch} {poll : Option ScanSlot} {c : Claim} (hc : c.heads x poll) (cfg : BranchSettings)
    (own : Octet) (n : Nat) : (x.afterPick cfg own n c).state = .guard ∧ (x.afterPick cfg own n c).interrupts = x.interrupts
      ∧ (x.afterPick cfg own n c).pollTag = x.pollTag ∧ (x.afterPick cfg own n c).counters = x.counters
      ∧ (x.queue = [] → x.consec = 0 → (x.afterPick cfg own n c).consec = 0) := by
  cases c with
  | failsafe f rest => exact ⟨rfl, rfl, rfl, rfl, fun _ h => h⟩
  | poll p => exact ⟨rfl, rfl, rfl, rfl, fun _ _ => rfl⟩
  | queued q rest =>
    have hq : x.queue ≠ [] := by rw [hc.2]; nofun
    cases q <;> exact ⟨rfl, rfl, rfl, rfl, fun h => absurd h hq⟩

section Commit

variable {s t : State} {b : BranchId}

/-- The slots after a commit are those of scanned stations of the new ACTIVE (R40). -/
theorem State.replaceActive_slot {x : ScanSlot} (h : x ∈ s.replaceActive.1.scan.slots) :
    ∃ r ∈ s.shadow.stations, r.addr = x.addr ∧ r.scan.isSome = true := by
  rw [State.replaceActive_scan] at h
  obtain ⟨r, hr, hx⟩ := List.mem_filterMap.1 h
  obtain ⟨n, hn, rfl⟩ := Option.map_eq_some_iff.1 hx
  refine ⟨r, hr, ?_, by rw [hn]; rfl⟩
  unfold State.slotAfter
  split
  · rename_i x _ hfind
    rw [(ScanSlot.kept_sameRecord x _ _ _).addr, Scan.find?_addr hfind]
  · rfl

theorem branchAtCommit (hl : s.live = true) (hlines : LinesFollowStates s)
    (ht : t.branch b = (s.replaceActive.1.arbitrate b).branch b) : BranchAtCommit s t b := by
  have hu := s.replaceActive_branch b
  rw [Branch.orphaned_eq] at hu
  have hframe := s.replaceActive_frame
  have hslot (x : ScanSlot) := State.replaceActive_slot (s := s) (x := x)
  generalize s.replaceActive.1 = u at hu hframe hslot ht
  have hlive : u.live = true := by rw [hframe]; exact hl
  have hactive : u.active = s.shadow := by rw [hframe]
  have hcfg : u.branchSettings b = s.shadow.settings.branch.get b := by rw [State.branchSettings, hactive]
  have hown : u.own = s.shadow.settings.ownAddr := by rw [State.own, hactive]
  have hbusy (h : (u.branch b).state ≠ .idle) : t.branch b = u.branch b := by rw [ht, State.arbitrate_of_busy h]
  have hbound := (hlines b).1
  have hdisabled (hw : withdrawn s b = true) : u.branch b
      = { (s.branch b).disabledBy with bound := boundAtCommit s (s.branch b).disabledBy.bound } := by
    obtain ⟨hon, hoff⟩ := withdrawn_iff.1 hw
    rw [hu, hon, hoff]
    rfl
  have henabled (hon : (s.branchSettings b).enabled = false) (hafter : (s.shadow.settings.branch.get b).enabled = true) :
      u.branch b = { (s.branch b).enabledBy with bound := boundAtCommit s (s.branch b).enabledBy.bound } := by
    rw [hu, hon, hafter]
    rfl
  have hunbound (hb : (s.branch b).bound = none) : boundAtCommit s (s.branch b).bound = (s.branch b).bound := by
    rw [hb]
    rfl
  refine ⟨fun hw => ⟨fun hb => ?_, fun k hb hg => ?_, fun hb hno => ?_⟩, fun hon hafter hst => ?_, fun hw hst hno => ?_,
    fun hw hst hq hf hb => ?_⟩
  · have hx := hdisabled hw
    rw [Branch.disabledBy_of_none hb] at hx
    rw [hbusy (by rw [hx]; nofun), hx]
    simp only [hunbound hb]
  · have hx := hdisabled hw
    rw [Branch.disabledBy_of_share hb hg] at hx
    rw [hbusy (by rw [hx]; nofun), hx]
    rfl
  · have hx := hdisabled hw
    have hstate : (s.branch b).state ≠ .idle := fun hi => by
      rw [hi] at hbound
      exact hb (by simpa using hbound)
    rw [Branch.disabledBy_of_bound hb hno] at hx
    rw [hbusy (by rw [hx]; exact hstate), hx]
  · have hx := henabled hon hafter
    rw [Branch.enabledBy, if_pos hst] at hx
    rw [ht]
    cases hchoice : chooseClaim (u.branch b) (u.branchSettings b).burst (u.firstClaim b) with
    | none =>
      rw [State.arbitrate_of_noClaim hchoice, hx]
      exact ⟨rfl, .inl rfl, fun _ => rfl, rfl, rfl⟩
    | some c =>
      obtain ⟨hguard, hinterrupts, htag, hcounters, hconsec⟩ := Branch.afterPick_kept (chooseClaim_heads hchoice)
        (u.branchSettings b) u.own (u.pollTimeout c)
      rw [State.arbitrate_of_claim hlive (by rw [hx]) hchoice, State.pick_branch_self]
      rw [hx] at hguard hinterrupts htag hcounters hconsec ⊢
      exact ⟨hinterrupts, .inr hguard, fun hq => hconsec hq rfl, htag, hcounters⟩
  · have hx : u.branch b = { s.branch b with bound := boundAtCommit s (s.branch b).bound } := by
      rw [hu]
      cases hon : (s.branchSettings b).enabled with
      | false =>
        cases hafter : (s.shadow.settings.branch.get b).enabled with
        | false => rfl
        | true => simp only [Branch.committed, Branch.enabledBy, if_neg (hno hon hafter)]
      | true =>
        cases hafter : (s.shadow.settings.branch.get b).enabled with
        | true => rfl
        | false => rw [withdrawn_iff.2 ⟨hon, hafter⟩] at hw; cases hw
    rw [hbusy (by rw [hx]; exact hst), hx]
  · have hx : u.branch b = if (s.branch b).state = .idle then s.branch b
        else { s.branch b with state := .idle, interrupts := 0, consec := 0, rx := .outside } := by
      by_cases hi : (s.branch b).state = .idle
      · have hsame : (s.branch b).committed (s.branchSettings b).enabled (s.shadow.settings.branch.get b).enabled = s.branch b := by
          unfold Branch.committed
          split
          · rename_i hon hoff
            rw [withdrawn_iff.2 ⟨hon, hoff⟩] at hw
            cases hw
          · rw [Branch.enabledBy, if_neg (by rw [hi]; nofun)]
          · rfl
        rw [if_pos hi, hu, hsame, hunbound hb]
      · obtain ⟨hd, hon, hafter⟩ := hst.resolve_left hi
        rw [if_neg hi, henabled hon hafter, Branch.enabledBy, if_pos hd]
        simp only [hunbound hb]
    have hempty : (u.branch b).state = .idle ∧ (u.branch b).failsafe = [] ∧ (u.branch b).queue = [] := by
      rw [hx]
      split
      · exact ⟨‹_›, hf, hq⟩
      · exact ⟨rfl, hf, hq⟩
    obtain ⟨hidle, hfailsafe, hqueue⟩ := hempty
    rw [ht]
    cases hfirst : u.firstClaim b with
    | none => exact .inl ((State.branch_congr (by rw [State.arbitrate_of_noClaim (hfirst ▸ chooseClaim_empty _ hfailsafe hqueue)]) b).trans hx)
    | some z =>
      have hclaim : chooseClaim (u.branch b) (u.branchSettings b).burst (u.firstClaim b) = some (.poll z) := by
        rw [hfirst]
        exact chooseClaim_poll hfailsafe (.inr hqueue)
      refine .inr ⟨{ station := z.addr, timeout := u.pollTimeout (.poll z), attempts := 0, sentAt := none, live := true }, rfl, rfl,
        fun hordered => ?_, ?_⟩
      · obtain ⟨hz, -⟩ := State.mem_overdueClaims.1 (State.firstClaim_mem hfirst)
        exact (hordered.scan?_isSome z.addr).2 (hslot z hz)
      · rw [State.arbitrate_of_claim hlive hidle hclaim, State.pick_branch_self, Branch.afterPick_poll, hcfg, hown, hx]

end Commit

end Sys2Proof.Machine
end

section
/-! PROOFS. COMMIT of a valid SHADOW (R36 to R41). -/

namespace Sys2Proof.Machine

/-! ### The entries (R7, R8, R9, R13, R37) -/

section Entries

variable {s t : State} {extra : List Job} {request : Option Nat}

theorem State.replaceActive_queue (b : BranchId) :
    (s.replaceActive.1.branch b).queue = if withdrawn s b then [] else (s.branch b).queue := by
  have hdisabled (x : Branch) : x.disabledBy.queue = [] := by
    unfold Branch.disabledBy
    dsimp only
    split <;> rfl
  have henabled (x : Branch) : x.enabledBy.queue = x.queue := by
    unfold Branch.enabledBy
    split <;> rfl
  rw [State.replaceActive_branch, Branch.orphaned_eq, withdrawn]
  cases (s.branchSettings b).enabled <;> cases (s.shadow.settings.branch.get b).enabled
  · rfl
  · exact henabled _
  · exact hdisabled _
  · rfl

theorem State.station_mem_replaceActive_queue {b : BranchId} {k : Nat} :
    .station k ∈ (s.replaceActive.1.branch b).queue ↔ .station k ∈ (s.branch b).queue ∧ withdrawn s b = false := by
  rw [State.replaceActive_queue]
  cases withdrawn s b <;> simp

theorem State.mem_slotsWithdrawn {b : BranchId} {k : Nat} :
    k ∈ s.slotsWithdrawn b ↔ .station k ∈ (s.branch b).queue ∧ withdrawn s b = true := by
  rw [State.slotsWithdrawn]
  cases withdrawn s b <;> simp [mem_stationSlots]

/-- The completions of a commit, with those of the request that brings it on. -/
def State.commitJobs (s : State) (extra : List Job) : List Job := s.replaceActive.2 ++ extra

/-- The entries and shares that a commit takes off the branches (R37). -/
theorem State.replaceActive_aborts (s : State) (extra : List Job) :
    Aborts s s.replaceActive.1 (s.commitJobs extra) .branchDisabled s.slotsWithdrawn
      (fun a k => withdrawn s a && (s.branch a).shareClaimed k) extra where
  frame := ⟨s.replaceActive_table, by rw [State.replaceActive_frame], by rw [State.replaceActive_frame]⟩
  jobs := by rw [State.commitJobs, State.replaceActive_snd]
  queue := fun b k h => (State.station_mem_replaceActive_queue.1 h).1
  placed := fun b k h => .inl (State.mem_slotsWithdrawn.1 h).1
  shares := fun b k h => by
    rw [Bool.and_eq_true, Branch.shareClaimed, Bool.or_eq_true, Bool.and_eq_true, beq_iff_eq, beq_iff_eq,
      List.contains_iff_mem] at h
    exact h.2.imp_right And.right

/-- An entry waits on one branch only, and a commit takes it or leaves it there. -/
theorem WorkPlaced.notWithdrawn (hw : WorkPlaced s) {b : BranchId} {k : Nat}
    (hq : .station k ∈ (s.replaceActive.1.branch b).queue) (c : BranchId) : k ∉ s.slotsWithdrawn c := fun hmem => by
  obtain ⟨hqb, hkept⟩ := State.station_mem_replaceActive_queue.1 hq
  obtain ⟨hqc, hgone⟩ := State.mem_slotsWithdrawn.1 hmem
  obtain ⟨e, r, he, -, -, hr, hb⟩ := (hw.queued b k).1 hqb
  obtain ⟨e', r', he', -, -, hr', hc⟩ := (hw.queued c k).1 hqc
  rw [he, Option.some_inj] at he'
  rw [he', hr', Option.some_inj] at hr
  rw [← hb, ← hr, hc, hgone] at hkept
  cases hkept

/-- What a commit leaves of the entries (R7, R8, R9, R37). -/
theorem entriesAtCommit {slot : Nat} (hl : s.live = true) (hlines : LinesFollowStates s)
    (hc : Concluded s.replaceActive.1 t (s.commitJobs extra)) (hd : TagsDistinct s) (hw : WorkPlaced s)
    (hx : RequestJobs s (some slot) extra) : EntriesAtCommit s t slot := by
  have ha := s.replaceActive_aborts extra
  have hown : s.replaceActive.1.own = s.shadow.settings.ownAddr := by rw [State.replaceActive_frame]; rfl
  refine ⟨fun b k e a hgone hq he hstation => ?_, fun k e x he hs hsets => ?_, fun k e he hq hs => ?_,
    fun k e he hs hk hno => ?_⟩
  · obtain ⟨horig, hst⟩ := hw.of_queued he hq
    have hmem := State.mem_slotsWithdrawn.2 ⟨hq, hgone⟩
    exact ha.answered hc hmem (fun c hin => hw.notWithdrawn hin b hmem) he (by rw [hst]; rfl) hstation
      ((hw.shaped_of_find he).station_sets horig)
  · have hmoved := ha.sharesMoved hc hd hw hx he hs hsets
    rw [hown] at hmoved
    exact hmoved
  · refine ha.stays hc hd hw hx he hs hq fun b hbound hmem => ?_
    rw [(hw.of_bound he hbound).2] at hs
    exact hq (hw.of_queued he (State.mem_slotsWithdrawn.1 hmem).1).2
  · refine (ha.kept_of_placed hc hd hw hx he (by rw [hs]; nofun)
      (fun b hmem => hno b (State.mem_slotsWithdrawn.1 hmem).2 (State.mem_slotsWithdrawn.1 hmem).1)
      fun hreq => absurd (Option.some_inj.1 hreq).symm hk).imp id fun ⟨b, hin, hb, hfind⟩ => ?_
    obtain ⟨hqb, hkept⟩ := State.station_mem_replaceActive_queue.1 hin
    refine ⟨hfind, b, hqb, Classical.byContradiction fun hbusy => ?_⟩
    rw [not_or] at hbusy
    have hbranch : t.branch b = { s.branch b with bound := boundAtCommit s (s.branch b).bound } :=
      (branchAtCommit hl hlines (hc.branch b)).2.2.1 hkept hbusy.1 fun _ _ => hbusy.2
    rw [hbranch] at hb
    have hbound : (s.branch b).bound = some (.station k) := by
      revert hb
      cases (s.branch b).bound with
      | none => exact id
      | some i => cases i <;> first | exact id | nofun
    rw [(hw.of_bound he hbound).2] at hs
    cases hs

end Entries

/-! ### The slots (R40) -/

section Slots

variable {s : State}

theorem slotAfter_eq (s : State) (a : Octet) (n : Nat) : s.slotAfter s.active a n = slotAtCommit s a n := by
  unfold State.slotAfter slotAtCommit ScanSlot.kept
  cases s.active.scan? a with
  | none => rfl
  | some m =>
    cases s.scan.find? a with
    | none => rfl
    | some x =>
      dsimp only
      cases x.lastPoll <;> rfl

theorem slotAtCommit_addr (s : State) (a : Octet) (n : Nat) : (slotAtCommit s a n).addr = a := by
  rw [← slotAfter_eq, State.slotAfter]
  split
  · rename_i x _ hfind
    exact (ScanSlot.kept_sameRecord x _ _ _).addr.trans (Scan.find?_addr hfind)
  · rfl

theorem State.replaceActive_slots (s : State) : s.replaceActive.1.scan.slots =
    s.shadow.stations.filterMap fun r => r.scan.map fun n => slotAtCommit s r.addr n := by
  rw [State.replaceActive_scan]
  simp only [slotAfter_eq]

/-- In an ordered map the slot of a scanned station is found under its address. -/
theorem State.replaceActive_find? (hmap : MapOrdered s.shadow) {r : StationRecord} {n : Nat} (hr : r ∈ s.shadow.stations)
    (hn : r.scan = some n) : s.replaceActive.1.scan.find? r.addr = some (slotAtCommit s r.addr n) := by
  have hslots := s.replaceActive_slots
  have hmem : slotAtCommit s r.addr n ∈ s.replaceActive.1.scan.slots := by
    rw [hslots]
    exact List.mem_filterMap.2 ⟨r, hr, by rw [hn]; rfl⟩
  cases hfind : s.replaceActive.1.scan.find? r.addr with
  | none => exact absurd (slotAtCommit_addr s r.addr n) (by simpa using List.find?_eq_none.1 hfind _ hmem)
  | some y =>
    have hy := List.mem_of_find?_eq_some hfind
    rw [hslots] at hy
    obtain ⟨r', hr', hy'⟩ := List.mem_filterMap.1 hy
    obtain ⟨m, hm, rfl⟩ := Option.map_eq_some_iff.1 hy'
    have haddr : r'.addr = r.addr := (slotAtCommit_addr s r'.addr m).symm.trans (Scan.find?_addr hfind)
    have hsame := hmap.record? hr'
    rw [haddr, hmap.record? hr, Option.some_inj] at hsame
    rw [← hsame, hn, Option.some_inj] at hm
    rw [← hsame, hm]

end Slots

/-! ### COMMIT -/

/-- The completion of the COMMIT request, in the name of the settings in force before (R36). -/
def State.commitJob (s : State) (slot : Nat) : Job := managedJob s slot Op.commit.octet .ok [oct s.shadow.stations.length]

section Commit

variable {s t : State} {slot : Nat} {e : Entry}

/-- COMMIT of a valid SHADOW: the replacement, the picks, and then the completions. -/
theorem exec_commit_valid (h : Takes s slot e [0x0B#8]) (hunlocked : Unlocked s) (hbusy : s.store.busy = .idle)
    (hvalid : s.shadow.offence = none) : exec .commit s = .next ((s.headTaken.replaceActive.1.settle.completeAll
      (s.headTaken.commitJobs [s.headTaken.commitJob slot])).serveNext) := by
  have hact : commitAction slot [] s.headTaken = (s.headTaken.replaceActive.1.settle,
      s.headTaken.commitJobs [s.headTaken.commitJob slot]) := by
    simp only [commitAction, State.headTaken_store, State.headTaken_shadow, hbusy, hvalid, ne_eq, not_true, if_false]
    rfl
  have hexec := takeOp_of_takes (op := .commit) commitAction h (fun _ => hunlocked) (fun hb => nomatch hb)
  simp only [hact] at hexec
  change takeOp .commit commitAction s = _
  rw [hexec]

/-- The COMMIT request completes in its event, with the release note RATE (R13, R36, R128). -/
theorem commit_answered (h : Takes s slot e [0x0B#8]) (hd : TagsDistinct s) (hno : ∀ b, .station slot ∉ (s.branch b).queue)
    (hc : Concluded s.headTaken.replaceActive.1 t (s.headTaken.commitJobs [s.headTaken.commitJob slot])) :
    let answer : Frame := { dest := e.ctrl, src := s.active.settings.ownAddr, tag := e.tag, kind := 0x3F#8
                            payload := [0x0B#8, 0x00#8, oct s.shadow.stations.length] }
    Answered t slot answer ∧ ({ frame := answer, note := .entryRate slot } ∈ t.up.queue ∨ slot ∈ t.table.returning) := by
  obtain ⟨-, -, -, he, hst, horig, -⟩ := h
  have ha := s.headTaken.replaceActive_aborts [s.headTaken.commitJob slot]
  have hue := ha.find? he
  have hopen : (e.without fun a => withdrawn s.headTaken a && (s.headTaken.branch a).shareClaimed slot).state.isOpen = true := by
    rw [show (e.without _).state = .queued from hst]
    rfl
  have hjob : (s.headTaken.commitJobs [s.headTaken.commitJob slot]).find? (fun j => j.slot == slot)
      = some (s.headTaken.commitJob slot) := by
    have hnot : slot ∉ eachOf s.headTaken.slotsWithdrawn := fun hmem => by
      obtain ⟨b, hb⟩ := mem_eachOf.1 hmem
      exact hno b (State.mem_slotsWithdrawn.1 hb).1
    have hdone : s.headTaken.replaceActive.1.doneJobs.find? (fun j => j.slot == slot) = none := by
      have hholds := (hd.holds he).losing fun k a => withdrawn s.headTaken a && (s.headTaken.branch a).shareClaimed k
      rw [State.doneJobs_find? (ha.frame.1 ▸ hholds), if_neg]
      simp [Entry.spreadOut, show (e.without _).state = .queued from hst]
    rw [ha.jobs, List.find?_append, List.find?_append, abortJobs_find?, if_neg hnot, hdone]
    exact List.find?_cons_of_pos (p := fun j : Job => j.slot == slot) (beq_self_eq_true slot)
  have hqueue (b : BranchId) : .station slot ∉ (s.headTaken.replaceActive.1.branch b).queue := fun hq =>
    hno b (State.station_mem_replaceActive_queue.1 hq).1
  refine ⟨hc.answered slot _ _ hue hopen hjob hqueue, ?_⟩
  have hnote : releaseNote (e.without fun a => withdrawn s.headTaken a && (s.headTaken.branch a).shareClaimed slot)
      { dest := e.ctrl, src := s.active.settings.ownAddr, tag := e.tag, kind := 0x3F#8
        payload := [0x0B#8, 0x00#8, oct s.shadow.stations.length] } = .entryRate slot := by
    have hslot : e.slot = slot := Table.find?_slot he
    simp only [releaseNote, Entry.without, horig, hslot]
    rfl
  rw [← hnote]
  exact hc.noted slot _ _ hue hopen hjob hqueue

/-- Settles O39. -/
theorem commitReplacesActive : Obligations.CommitReplacesActive := by
  intro s slot e h hunlocked hbusy hvalid hno hitems hlines hd
  have hl : s.live = true := s.live_iff.2 h.1
  have hc := s.headTaken.replaceActive.1.concluded_settle_completeAll (s.headTaken.commitJobs [s.headTaken.commitJob slot])
  obtain ⟨hagent, hfree⟩ := s.headTaken.replaceActive.1.settle_completeAll_agent
    (s.headTaken.commitJobs [s.headTaken.commitJob slot])
  have hmade := s.headTaken.replaceActive_frame
  rw [congrArg State.agent hmade] at hagent
  have hx : RequestJobs s.headTaken (some slot) [s.headTaken.commitJob slot] := fun j hj => by
    obtain rfl := List.mem_singleton.1 hj
    obtain ⟨-, -, -, he, hst, horig, -⟩ := h
    exact ⟨rfl, e, he, horig, hst⟩
  have hgoesOn := State.serveNext_goesOn s (s.headTaken.replaceActive.1.settle.completeAll
    (s.headTaken.commitJobs [s.headTaken.commitJob slot])) (by rw [hagent]; rfl) (hfree.trans (congrArg State.free hmade :))
  have hworking : (s.headTaken.replaceActive.1.settle.completeAll
      (s.headTaken.commitJobs [s.headTaken.commitJob slot])).serveNext.agent.working = s.agent.working := by
    rw [State.serveNext_working, hagent]
    rfl
  have hexec := exec_commit_valid h hunlocked hbusy hvalid
  generalize (s.headTaken.replaceActive.1.settle.completeAll
    (s.headTaken.commitJobs [s.headTaken.commitJob slot])).serveNext = t at hc hgoesOn hworking hexec
  have hframe := hc.frame
  have hwhole : t = { s with active := s.shadow, tokens := s.headTaken.replaceActive.1.tokens, table := t.table, up := t.up
                             branches := t.branches, scan := t.scan, sup := s.headTaken.replaceActive.1.sup
                             agent := t.agent, free := t.free } := by
    rw [hmade] at hframe
    exact hframe
  obtain ⟨hanswered, hnoted⟩ := commit_answered h hd hno hc
  dsimp only
  refine ⟨t, hexec, by rw [hwhole], by rw [hwhole], hgoesOn, hanswered, hnoted, ?_, ?_, ?_, fun hmap r n hr hn hpoll => ?_, ?_,
    fun b => ?_, fun hp => ?_, hworking, ?_, ?_⟩
  · exact (congrArg State.tokens hwhole).trans s.headTaken.replaceActive_tokens
  · rw [hc.changes, State.replaceActive_scan]
    rfl
  · have hslots := hc.slots
    rw [State.replaceActive_slots, List.map_filterMap] at hslots
    refine hslots.trans (List.filterMap_congr fun r _ => ?_)
    cases r.scan <;> rfl
  · exact ⟨_, hc.bound _ _ (State.replaceActive_find? (s := s.headTaken) hmap hr hn) hpoll, hpoll⟩
  · exact (congrArg State.sup hwhole).trans s.headTaken.replaceActive_sup
  · exact branchAtCommit (s := s.headTaken) hl hlines (hc.branch b)
  · have hw := (hp.work h.1).withAgent s.headTaken.agent
    exact ⟨entriesAtCommit (s := s.headTaken) hl hlines hc hd hw hx,
      (s.headTaken.replaceActive_aborts _).inOrder (s := s.headTaken) hc hd hw hx fun b k hq => hw.notWithdrawn hq⟩
  · have hup := hc.up
    rw [congrArg State.up hmade] at hup
    exact hup
  · rw [hwhole]

end Commit

end Sys2Proof.Machine
end

section
/-! PROOFS. The places of the entries: where each part names one, and the law that each stands where its state says, but for those
whose completion the event has still to make (R5, R8, R10, R14, R18, R66, R138). -/

namespace Sys2Proof.Machine

/-! ### The places -/

/-- The entry that a bound item works for: none for a poll and a failsafe item. -/
def BoundItem.work : BoundItem → Option QueueItem
  | .station k => some (.station k)
  | .share k => some (.share k)
  | .poll _ | .failsafe _ => none

/-- What a branch names of the entries. -/
structure Lane where
  queue : List QueueItem
  held : Option QueueItem
  state : BranchState

def Branch.lane (x : Branch) : Lane := { queue := x.queue, held := x.bound.bind BoundItem.work, state := x.state }

/-- The entries, and all that names them. -/
structure Places where
  entry : Nat → Option Entry
  lane : BranchId → Lane
  agent : List Nat
  working : Option Working
  busy : Busy
  returning : List Nat
  out : List OutItem

def State.places (s : State) : Places where
  entry := s.table.find?
  lane := fun b => (s.branch b).lane
  agent := s.agent.queue
  working := s.agent.working
  busy := s.store.busy
  returning := s.table.returning
  out := s.up.queue

inductive Place where
  | queue (b : BranchId)
  | line (b : BranchId)
  | share (b : BranchId)
  | agent
  | working
  | returning
  | out

/-- The entry's state, with its route or its sets, says that it stands in a place. -/
def Entry.standsAt (e : Entry) : Place → Prop
  | .queue b => e.origin = .station ∧ e.state = .queued ∧ ∃ r, e.route = some r ∧ r.branch = b
  | .line b => e.origin = .station ∧ e.state = .onLine ∧ ∃ r, e.route = some r ∧ r.branch = b
  | .share b => e.origin = .broadcast ∧ e.state = .spreading ∧ ∃ x, e.sets = some x ∧ x.pending.get b = true
  | .agent => e.origin = .manage ∧ e.state = .queued
  | .working => e.origin = .manage ∧ e.state = .working
  | .returning => e.state = .returning
  | .out => e.state = .outbound

/-- The place names the entry of a slot. -/
def Places.names (p : Places) : Place → Nat → Prop
  | .queue b, k => .station k ∈ (p.lane b).queue
  | .line b, k => (p.lane b).held = some (.station k)
  | .share b, k => .share k ∈ (p.lane b).queue ∨ (p.lane b).held = some (.share k)
  | .agent, k => k ∈ p.agent
  | .working, k => ∃ w, p.working = some w ∧ w.slot = k
  | .returning, k => k ∈ p.returning
  | .out, k => k ∈ p.out.filterMap fun i => i.note.slot?

theorem BoundItem.work_station {i : Option BoundItem} {k : Nat} :
    i.bind BoundItem.work = some (.station k) ↔ i = some (.station k) := by
  cases i with
  | none => simp
  | some i => cases i <;> simp [BoundItem.work]

theorem BoundItem.work_share {i : Option BoundItem} {k : Nat} : i.bind BoundItem.work = some (.share k) ↔ i = some (.share k) := by
  cases i with
  | none => simp
  | some i => cases i <;> simp [BoundItem.work]

/-! ### The fields of an entry -/

/-- `Entry.shaped` but for a SPREADING entry with nothing left pending, which the event completes. -/
def Entry.formed (e : Entry) : Prop :=
  (e.origin = .station → e.station.isSome = true ∧ e.route.isSome = true ∧ e.sets = none ∧ e.kind ≠ .manage
    ∧ e.state ≠ .spreading ∧ e.state ≠ .working)
  ∧ (e.origin = .broadcast → e.kind = .command ∧ e.station = none ∧ e.state ≠ .queued ∧ e.state ≠ .onLine ∧ e.state ≠ .working
    ∧ e.sets.isSome = true)
  ∧ (e.origin = .manage → e.kind = .manage ∧ e.station = none ∧ e.sets = none ∧ e.state ≠ .onLine ∧ e.state ≠ .spreading)
  ∧ (e.state = .queued → e.attempts = 0)
  ∧ (e.state.isOpen = true → e.reply = none ∧ e.seq = none)
  ∧ (e.state.isOpen = false → e.reply.isSome = true ∧ e.seq.isSome = true)

theorem Entry.spreadOut_iff_exists {e : Entry} : e.spreadOut = true ↔ e.state = .spreading ∧ ∃ x, e.sets = some x ∧ emptySet x.pending = true := by
  unfold Entry.spreadOut
  cases e.sets <;> simp

theorem Entry.shaped_iff {e : Entry} : e.shaped ↔ e.formed ∧ e.spreadOut = false := by
  constructor
  · rintro ⟨hstation, hbroadcast, hmanage, hrest⟩
    refine ⟨⟨hstation, fun ho => ?_, hmanage, hrest⟩, Bool.eq_false_iff.2 fun hout => ?_⟩
    · obtain ⟨hkind, hst, hq, hl, hw, x, hx, -⟩ := hbroadcast ho
      exact ⟨hkind, hst, hq, hl, hw, by rw [hx]; rfl⟩
    · obtain ⟨hs, x, hx, hempty⟩ := Entry.spreadOut_iff_exists.1 hout
      cases ho : e.origin with
      | station => exact (hstation ho).2.2.2.2.1 hs
      | manage => exact (hmanage ho).2.2.2.2 hs
      | broadcast =>
        obtain ⟨-, -, -, -, -, y, hy, hpending⟩ := hbroadcast ho
        rw [hx, Option.some_inj] at hy
        rw [hy, hpending hs] at hempty
        cases hempty
  · rintro ⟨⟨hstation, hbroadcast, hmanage, hrest⟩, hout⟩
    refine ⟨hstation, fun ho => ?_, hmanage, hrest⟩
    obtain ⟨hkind, hst, hq, hl, hw, hsome⟩ := hbroadcast ho
    obtain ⟨x, hx⟩ := Option.isSome_iff_exists.1 hsome
    refine ⟨hkind, hst, hq, hl, hw, x, hx, fun hs => Bool.eq_false_iff.2 fun hempty => ?_⟩
    rw [Entry.spreadOut_iff_exists.2 ⟨hs, x, hx, hempty⟩] at hout
    cases hout

/-! ### The law -/

/-- What a branch names, it names once; it holds work only where it has an item bound, and a share only until it is sent (R64,
R76). -/
structure Lane.Tidy (l : Lane) : Prop where
  nodup : l.queue.Nodup
  once : ∀ k, l.held = some (.share k) → .share k ∉ l.queue
  sends : ∀ k, l.held = some (.share k) → l.state = .guard ∨ l.state = .sending
  busy : l.held ≠ none → l.state = .guard ∨ l.state = .sending ∨ l.state = .awaiting ∨ l.state = .receiving

/-- The places name no entry twice, and what they hold agrees with the entries. -/
structure Places.Tidy (p : Places) : Prop where
  entries : ∀ k e, p.entry k = some e → e.slot = k ∧ e.formed
  lanes : ∀ b, (p.lane b).Tidy
  agent : p.agent.Nodup
  store : ∀ w, p.working = some w → p.busy = match w.op with | .save => .saving w.image | .retire => .retiring w.image
  returning : p.returning.Nodup
  out : (p.out.filterMap fun i => i.note.slot?).Nodup
  answers : ∀ i ∈ p.out, ∀ k e, i.note.slot? = some k → p.entry k = some e → e.reply = some i.frame

/-- Each entry stands where its state says, but for those of `J`: no place names these, and the event has still to complete them. -/
structure Placed (J : Nat → Prop) (p : Places) : Prop where
  tidy : p.Tidy
  law : ∀ pl k, p.names pl k ↔ ¬ J k ∧ ∃ e, p.entry k = some e ∧ e.standsAt pl
  pending : ∀ k, J k → ∃ e, p.entry k = some e ∧ e.state.isOpen = true
  spread : ∀ k e, p.entry k = some e → e.spreadOut = true → J k

/-- Between events nothing has still to complete. -/
def Nothing (_ : Nat) : Prop := False

theorem EntriesPlaced.placed {s : State} (h : EntriesPlaced s) (hl : s.live = true) (hlines : LinesFollowStates s) :
    Placed Nothing s.places := by
  obtain ⟨hshaped, hbranches, hagent, hqueued, hworking, hstore, hreturning, hwaits, hout, hsent, hanswers⟩ := h (s.live_iff.1 hl)
  have hmem {k : Nat} {e : Entry} (he : s.table.find? k = some e) : e ∈ s.table.entries := List.mem_of_find?_eq_some he
  refine ⟨⟨fun k e he => ⟨Table.find?_slot he, (Entry.shaped_iff.1 (hshaped e (hmem he))).1⟩, fun b => ?_, hagent, hstore,
    hreturning, hout, hanswers⟩, fun pl k => ?_, nofun, fun k e he hspread => ?_⟩
  · obtain ⟨hnodup, -, -, -, honce⟩ := hbranches b
    refine ⟨hnodup, fun k hk => (honce k (BoundItem.work_share.1 hk)).1, fun k hk => (honce k (BoundItem.work_share.1 hk)).2,
      fun hheld => (hlines b).1.1 ?_⟩
    cases hb : (s.branch b).bound with
    | none => exact absurd (by simp [State.places, Branch.lane, hb]) hheld
    | some i => rfl
  · refine Iff.trans ?_ (and_iff_right (id : ¬ Nothing k)).symm
    cases pl with
    | queue b =>
      refine ((hbranches b).2.1 k).trans ?_
      simp only [Entry.standsAt, State.places]
      grind
    | line b =>
      refine BoundItem.work_station.trans (((hbranches b).2.2.1 k).trans ?_)
      simp only [Entry.standsAt, State.places]
      grind
    | share b =>
      refine (or_congr_right BoundItem.work_share).trans (((hbranches b).2.2.2.1 k).trans ?_)
      simp only [Entry.standsAt, State.places]
      grind
    | agent => exact hqueued k
    | working => exact hworking k
    | returning => exact hwaits k
    | out => exact hsent k
  · rw [(Entry.shaped_iff.1 (hshaped e (hmem he))).2] at hspread
    cases hspread

theorem TagsDistinct.find?_of_mem {s : State} (h : TagsDistinct s) {e : Entry} (he : e ∈ s.table.entries) :
    s.table.find? e.slot = some e := by
  cases hfind : s.table.find? e.slot with
  | none => exact absurd (List.find?_eq_none.1 hfind e he) (by simp)
  | some y => rw [(h.holds hfind).2 e he rfl]

theorem Placed.entriesPlaced {s : State} (h : Placed Nothing s.places) (hd : TagsDistinct s) : EntriesPlaced s := by
  intro _
  obtain ⟨⟨hentries, hlanes, hagent, hstore, hreturning, hout, hanswers⟩, hlaw, -, hspread⟩ := h
  have hlaw' (pl : Place) (k : Nat) : s.places.names pl k ↔ ∃ e, s.table.find? k = some e ∧ e.standsAt pl :=
    (hlaw pl k).trans (and_iff_right id)
  refine ⟨fun e he => ?_, fun b => ⟨(hlanes b).nodup, fun k => ?_, fun k => ?_, fun k => ?_, fun k hk => ?_⟩, hagent,
    hlaw' .agent, hlaw' .working, hstore, hreturning, hlaw' .returning, hout, hlaw' .out, hanswers⟩
  · have hfind := hd.find?_of_mem he
    exact Entry.shaped_iff.2 ⟨(hentries _ e hfind).2, Bool.eq_false_iff.2 fun hs => (hspread _ e hfind hs).elim⟩
  · refine (hlaw' (.queue b) k).trans ?_
    simp only [Entry.standsAt]
    grind
  · refine BoundItem.work_station.symm.trans ((hlaw' (.line b) k).trans ?_)
    simp only [Entry.standsAt]
    grind
  · refine (or_congr_right BoundItem.work_share.symm).trans ((hlaw' (.share b) k).trans ?_)
    simp only [Entry.standsAt]
    grind
  · have hheld := BoundItem.work_share.2 hk
    exact ⟨(hlanes b).once k hheld, (hlanes b).sends k hheld⟩

end Sys2Proof.Machine
end

section
/-! PROOFS. The moves of entries from place to place, one rule each (R5, R8, R10 to R14, R18, R66, R71). -/

namespace Sys2Proof.Machine

variable {J J' : Nat → Prop} {p q : Places}

/-! ### Changing the places -/

/-- The places with the entry of a slot. -/
def Places.put (p : Places) (k : Nat) (e : Entry) : Places := { p with entry := fun j => if j = k then some e else p.entry j }

/-- The places with what one branch names. -/
def Places.setLane (p : Places) (b : BranchId) (l : Lane) : Places := { p with lane := fun c => if c = b then l else p.lane c }

@[simp] theorem Places.put_entry_self (p : Places) (k : Nat) (e : Entry) : (p.put k e).entry k = some e := if_pos rfl

theorem Places.put_entry_other (p : Places) (e : Entry) {j k : Nat} (h : j ≠ k) : (p.put k e).entry j = p.entry j := if_neg h

@[simp] theorem Places.setLane_self (p : Places) (b : BranchId) (l : Lane) : (p.setLane b l).lane b = l := if_pos rfl

theorem Places.setLane_other (p : Places) (l : Lane) {b c : BranchId} (h : c ≠ b) : (p.setLane b l).lane c = p.lane c := if_neg h

/-- A closed entry stands in one place alone. -/
theorem Entry.standsAt_outbound {e : Entry} (h : e.state = .outbound) (pl : Place) : e.standsAt pl ↔ pl = .out := by
  cases pl <;> simp [Entry.standsAt, h]

theorem Entry.standsAt_returning {e : Entry} (h : e.state = .returning) (pl : Place) : e.standsAt pl ↔ pl = .returning := by
  cases pl <;> simp [Entry.standsAt, h]

theorem Entry.not_spreadOut {e : Entry} (h : e.state ≠ .spreading) : e.spreadOut ≠ true := fun hs =>
  h (Entry.spreadOut_iff_exists.1 hs).1

/-! ### The general rule -/

/-- A move of one entry: all others stay as and where they are. -/
theorem Placed.move (h : Placed J p) (k : Nat) (htidy : q.Tidy) (hentry : ∀ j, j ≠ k → q.entry j = p.entry j)
    (hJ : ∀ j, j ≠ k → (J' j ↔ J j)) (hnames : ∀ pl j, j ≠ k → (q.names pl j ↔ p.names pl j))
    (hself : ∀ pl, q.names pl k ↔ ¬ J' k ∧ ∃ e, q.entry k = some e ∧ e.standsAt pl)
    (hopen : J' k → ∃ e, q.entry k = some e ∧ e.state.isOpen = true)
    (hspread : ∀ e, q.entry k = some e → e.spreadOut = true → J' k) : Placed J' q := by
  refine ⟨htidy, fun pl j => ?_, fun j hj => ?_, fun j e he hs => ?_⟩ <;> by_cases hjk : j = k
  · exact hjk ▸ hself pl
  · rw [hnames pl j hjk, hJ j hjk, hentry j hjk]
    exact h.law pl j
  · exact hjk ▸ hopen (hjk ▸ hj)
  · rw [hentry j hjk]
    exact h.pending j ((hJ j hjk).1 hj)
  · exact hjk ▸ hspread e (hjk ▸ he) hs
  · exact (hJ j hjk).2 (h.spread j e (hentry j hjk ▸ he) hs)

theorem Placed.congr (h : Placed J p) (hJ : ∀ j, J' j ↔ J j) : Placed J' p := by
  have : J' = J := funext fun j => propext (hJ j)
  exact this ▸ h

/-- No place names an entry that the event has still to complete. -/
theorem Placed.unnamed (h : Placed J p) {k : Nat} (hk : J k) (pl : Place) : ¬ p.names pl k := fun hn => ((h.law pl k).1 hn).1 hk

/-- No place names a free slot. -/
theorem Placed.unnamed_of_free (h : Placed J p) {k : Nat} (hk : p.entry k = none) (pl : Place) : ¬ p.names pl k := fun hn => by
  obtain ⟨-, e, he, -⟩ := (h.law pl k).1 hn
  rw [hk] at he
  cases he

theorem Placed.free_not_pending (h : Placed J p) {k : Nat} (hk : p.entry k = none) : ¬ J k := fun hj => by
  obtain ⟨e, he, -⟩ := h.pending k hj
  rw [hk] at he
  cases he

/-- A place that names a slot: its entry stands there. -/
theorem Placed.entry_of_names (h : Placed J p) {pl : Place} {k : Nat} (hn : p.names pl k) :
    ¬ J k ∧ ∃ e, p.entry k = some e ∧ e.standsAt pl := (h.law pl k).1 hn

/-- What names an entry, by the entry's own fields. -/
theorem Placed.names_iff (h : Placed J p) {k : Nat} {e : Entry} (he : p.entry k = some e) (hk : ¬ J k) (pl : Place) :
    p.names pl k ↔ e.standsAt pl := by
  rw [h.law pl k]
  refine ⟨fun ⟨_, e', he', hs⟩ => ?_, fun hs => ⟨hk, e, he, hs⟩⟩
  rw [he, Option.some_inj] at he'
  exact he' ▸ hs

/-! ### Changes within an entry -/

/-- An entry changes but not its place. -/
theorem Placed.edit (h : Placed J p) {k : Nat} {e e' : Entry} (he : p.entry k = some e) (hslot : e'.slot = k) (hformed : e'.formed)
    (hstands : ∀ pl, e'.standsAt pl ↔ e.standsAt pl) (hopen : e'.state.isOpen = e.state.isOpen)
    (hspread : e'.spreadOut = true → e.spreadOut = true) (hreply : e'.reply = e.reply) : Placed J (p.put k e') := by
  refine h.move k ⟨fun j x hx => ?_, h.tidy.lanes, h.tidy.agent, h.tidy.store, h.tidy.returning, h.tidy.out, fun i hi j x hj hx => ?_⟩
    (fun j hj => p.put_entry_other e' hj) (fun _ _ => Iff.rfl) (fun _ _ _ => Iff.rfl) (fun pl => ?_) (fun hk => ?_) fun x hx hs => ?_
  · by_cases hjk : j = k
    · subst hjk
      rw [Places.put_entry_self, Option.some_inj] at hx
      exact hx ▸ ⟨hslot, hformed⟩
    · rw [p.put_entry_other e' hjk] at hx
      exact h.tidy.entries j x hx
  · by_cases hjk : j = k
    · subst hjk
      rw [Places.put_entry_self, Option.some_inj] at hx
      rw [← hx, hreply]
      exact h.tidy.answers i hi j e hj he
    · rw [p.put_entry_other e' hjk] at hx
      exact h.tidy.answers i hi j x hj hx
  · simp only [Places.put_entry_self, Option.some_inj, exists_eq_left', hstands]
    have hlaw := h.law pl k
    simp only [he, Option.some_inj, exists_eq_left'] at hlaw
    exact hlaw
  · obtain ⟨x, hx, ho⟩ := h.pending k hk
    rw [he, Option.some_inj] at hx
    exact ⟨e', p.put_entry_self k e', by rw [hopen, hx, ho]⟩
  · rw [Places.put_entry_self, Option.some_inj] at hx
    exact h.spread k e he (hspread (hx ▸ hs))

/-! ### Branches -/

/-- Only the branch itself names by the lane that changes. -/
theorem Places.names_setLane {b : BranchId} {l : Lane} {j : Nat}
    (hqueue : .station j ∈ l.queue ↔ .station j ∈ (p.lane b).queue)
    (hline : l.held = some (.station j) ↔ (p.lane b).held = some (.station j))
    (hshare : (.share j ∈ l.queue ∨ l.held = some (.share j)) ↔ (.share j ∈ (p.lane b).queue ∨ (p.lane b).held = some (.share j)))
    (pl : Place) : (p.setLane b l).names pl j ↔ p.names pl j := by
  have hlane (c : BranchId) : (p.setLane b l).lane c = if c = b then l else p.lane c := rfl
  cases pl with
  | queue c =>
    simp only [Places.names, hlane]
    split
    · rw [‹c = b›, hqueue]
    · exact Iff.rfl
  | line c =>
    simp only [Places.names, hlane]
    split
    · rw [‹c = b›, hline]
    · exact Iff.rfl
  | share c =>
    simp only [Places.names, hlane]
    split
    · rw [‹c = b›, hshare]
    · exact Iff.rfl
  | _ => exact Iff.rfl

theorem Places.Tidy.setLane (h : p.Tidy) {b : BranchId} {l : Lane} (hl : l.Tidy) : (p.setLane b l).Tidy :=
  { h with
    lanes := fun c => by
      by_cases hc : c = b
      · subst hc
        rw [Places.setLane_self]
        exact hl
      · rw [p.setLane_other l hc]
        exact h.lanes c }

/-- A branch changes, but not what it names. -/
theorem Placed.relane (h : Placed J p) {b : BranchId} {l : Lane} (hq : l.queue = (p.lane b).queue) (hheld : l.held = (p.lane b).held)
    (hl : l.Tidy) : Placed J (p.setLane b l) :=
  ⟨h.tidy.setLane hl, fun pl j => (Places.names_setLane (by rw [hq]) (by rw [hheld]) (by rw [hq, hheld]) pl).trans (h.law pl j),
    h.pending, h.spread⟩

/-! ### Work taken off the branches (R76, R83, R85, R115) -/

def Place.isShare : Place → Bool
  | .share _ => true
  | _ => false

/-- An entry stands in one place, or with a share on each of several branches. -/
theorem Entry.standsAt_unique {e : Entry} {pl pl' : Place} (h : e.standsAt pl) (h' : e.standsAt pl') :
    pl = pl' ∨ (pl.isShare = true ∧ pl'.isShare = true) := by
  cases pl <;> cases pl' <;> simp only [Entry.standsAt] at h h' <;> grind [Place.isShare]

/-- A broadcast with nothing left pending stands nowhere. -/
theorem Entry.not_standsAt_of_spreadOut {e : Entry} (h : e.spreadOut = true) (pl : Place) : ¬ e.standsAt pl := fun hpl => by
  obtain ⟨hst, x, hx, hempty⟩ := Entry.spreadOut_iff_exists.1 h
  cases pl with
  | share b =>
    obtain ⟨-, -, y, hy, hpending⟩ := hpl
    rw [hx, Option.some_inj] at hy
    rw [← hy] at hpending
    cases b <;> simp_all [emptySet, Quad.get]
  | queue | line => exact absurd hpl.2.1 (by rw [hst]; nofun)
  | agent | working => exact absurd hpl.2 (by rw [hst]; nofun)
  | returning | out => exact absurd hpl (by simp [Entry.standsAt, hst])

/-- From `e` to `e'` a broadcast entry loses its pending shares on the branches of `gone`. -/
structure Entry.Loses (e e' : Entry) (gone : BranchId → Bool) : Prop where
  slot : e'.slot = e.slot
  origin : e'.origin = e.origin
  state : e'.state = e.state
  route : e'.route = e.route
  reply : e'.reply = e.reply
  formed : e.formed → e'.formed
  shares : ∀ b, (∃ x, e'.sets = some x ∧ x.pending.get b = true) ↔ (∃ x, e.sets = some x ∧ x.pending.get b = true) ∧ gone b = false

theorem Entry.Loses.standsAt {e e' : Entry} {gone : BranchId → Bool} (h : e.Loses e' gone) {pl : Place} (hpl : pl.isShare = false) :
    e'.standsAt pl ↔ e.standsAt pl := by
  cases pl with
  | share b => cases hpl
  | _ => simp only [Entry.standsAt, h.origin, h.state, h.route]

theorem Entry.Loses.standsAt_share {e e' : Entry} {gone : BranchId → Bool} (h : e.Loses e' gone) (b : BranchId) :
    e'.standsAt (.share b) ↔ e.standsAt (.share b) ∧ gone b = false := by
  simp only [Entry.standsAt, h.origin, h.state, h.shares, and_assoc]

/-- From `l` to `m` a branch loses the STATION entries of `taken` and the shares of `gone`. -/
structure Lane.Drops (l m : Lane) (taken : Nat → Prop) (gone : Nat → Bool) : Prop where
  sublist : m.queue.Sublist l.queue
  held    : m.held = none ∨ (m.held = l.held ∧ m.state = l.state)
  queue   : ∀ k, .station k ∈ m.queue ↔ .station k ∈ l.queue ∧ ¬ taken k
  line    : ∀ k, m.held = some (.station k) ↔ l.held = some (.station k) ∧ ¬ taken k
  share   : ∀ k, (.share k ∈ m.queue ∨ m.held = some (.share k))
    ↔ (.share k ∈ l.queue ∨ l.held = some (.share k)) ∧ gone k = false
  placed  : ∀ k, taken k → .station k ∈ l.queue ∨ l.held = some (.station k)

theorem Lane.Drops.tidy {l m : Lane} {taken : Nat → Prop} {gone : Nat → Bool} (h : l.Drops m taken gone) (hl : l.Tidy) : m.Tidy := by
  have hnodup := hl.nodup.sublist h.sublist
  obtain hnone | ⟨hheld, hstate⟩ := h.held
  · exact ⟨hnodup, by simp [hnone], by simp [hnone], fun hne => absurd hnone hne⟩
  · exact ⟨hnodup, fun k hk hq => hl.once k (hheld ▸ hk) (h.sublist.subset hq), fun k hk => hstate ▸ hl.sends k (hheld ▸ hk),
      fun hne => hstate ▸ hl.busy (hheld ▸ hne)⟩

/-- From `p` to `q` the STATION entries of `taken` and the shares of `gone` are taken off the branches. -/
structure Withdraws (p q : Places) (taken : BranchId → Nat → Prop) (gone : BranchId → Nat → Bool) : Prop where
  rest    : q = { p with entry := q.entry, lane := q.lane }
  entries : ∀ k, (p.entry k = none ∧ q.entry k = none)
    ∨ ∃ e e', p.entry k = some e ∧ q.entry k = some e' ∧ e.Loses e' fun b => gone b k
  lanes   : ∀ b, (p.lane b).Drops (q.lane b) (taken b) (gone b)

section Withdraw

variable {taken : BranchId → Nat → Prop} {gone : BranchId → Nat → Bool}

theorem Withdraws.entry (hw : Withdraws p q taken gone) {k : Nat} {e' : Entry} (he' : q.entry k = some e') :
    ∃ e, p.entry k = some e ∧ e.Loses e' fun b => gone b k := by
  obtain ⟨-, hnone⟩ | ⟨e, x, he, hx, hloses⟩ := hw.entries k
  · rw [hnone] at he'
    cases he'
  · rw [hx, Option.some_inj] at he'
    exact ⟨e, he, he' ▸ hloses⟩

theorem Withdraws.tidy (hw : Withdraws p q taken gone) (h : p.Tidy) : q.Tidy := by
  rw [hw.rest]
  refine { h with entries := fun k e' he' => ?_, lanes := fun b => (hw.lanes b).tidy (h.lanes b), answers := fun i hi k e' hk he' => ?_ }
  · obtain ⟨e, he, hloses⟩ := hw.entry he'
    obtain ⟨hslot, hformed⟩ := h.entries k e he
    exact ⟨hloses.slot.trans hslot, hloses.formed hformed⟩
  · obtain ⟨e, he, hloses⟩ := hw.entry he'
    exact hloses.reply.trans (h.answers i hi k e hk he)

/-- The place of an entry taken off a branch. -/
theorem Placed.place_of_taken (h : Placed J p) (hw : Withdraws p q taken gone) {b : BranchId} {k : Nat} (ht : taken b k) :
    ¬ J k ∧ ∃ e, p.entry k = some e ∧ e.state.isOpen = true ∧ ∀ pl, e.standsAt pl → pl = .queue b ∨ pl = .line b := by
  obtain hq | hl := (hw.lanes b).placed k ht
  · obtain ⟨hk, e, he, hs⟩ := h.entry_of_names (pl := .queue b) hq
    refine ⟨hk, e, he, by rw [hs.2.1]; rfl, fun pl hpl => .inl ((e.standsAt_unique hpl hs).resolve_right fun h => ?_)⟩
    cases h.2
  · obtain ⟨hk, e, he, hs⟩ := h.entry_of_names (pl := .line b) hl
    refine ⟨hk, e, he, by rw [hs.2.1]; rfl, fun pl hpl => .inr ((e.standsAt_unique hpl hs).resolve_right fun h => ?_)⟩
    cases h.2

/-- What names an entry after a withdrawal: what named it before, and neither took it nor moved its share. -/
theorem Withdraws.names (hw : Withdraws p q taken gone) (pl : Place) (k : Nat) : q.names pl k ↔ p.names pl k
    ∧ (∀ b, pl = .queue b ∨ pl = .line b → ¬ taken b k) ∧ ∀ b, pl = .share b → gone b k = false := by
  have hsame (hpl : q.names pl k ↔ p.names pl k) (hb : ∀ b, ¬ (pl = .queue b ∨ pl = .line b)) (hs : ∀ b, pl ≠ .share b) :
      q.names pl k ↔ p.names pl k ∧ (∀ b, pl = .queue b ∨ pl = .line b → ¬ taken b k) ∧ ∀ b, pl = .share b → gone b k = false := by
    rw [hpl]
    exact ⟨fun h => ⟨h, fun b hpl => absurd hpl (hb b), fun b hpl => absurd hpl (hs b)⟩, And.left⟩
  cases pl with
  | queue b =>
    refine ((hw.lanes b).queue k).trans (and_congr_right fun _ => ⟨fun h => ⟨fun c hc => ?_, nofun⟩, fun h => h.1 b (.inl rfl)⟩)
    obtain hc | hc := hc <;> cases hc
    exact h
  | line b =>
    refine ((hw.lanes b).line k).trans (and_congr_right fun _ => ⟨fun h => ⟨fun c hc => ?_, nofun⟩, fun h => h.1 b (.inr rfl)⟩)
    obtain hc | hc := hc <;> cases hc
    exact h
  | share b =>
    refine ((hw.lanes b).share k).trans (and_congr_right fun _ => ⟨fun h => ⟨fun c hc => ?_, fun c hc => ?_⟩, fun h => h.2 b rfl⟩)
    · obtain hc | hc := hc <;> cases hc
    · cases hc
      exact h
  | agent | working | returning | out =>
    refine hsame (by rw [hw.rest]; exact Iff.rfl) (fun b hb => ?_) nofun
    obtain hb | hb := hb <;> cases hb

/-- What an entry's fields say after a withdrawal. -/
theorem Entry.Loses.standsAt_iff {e e' : Entry} {gone : BranchId → Bool} (h : e.Loses e' gone) (pl : Place) :
    e'.standsAt pl ↔ e.standsAt pl ∧ ∀ b, pl = .share b → gone b = false := by
  cases pl with
  | share b =>
    refine (h.standsAt_share b).trans (and_congr_right fun _ => ⟨fun hg c hc => ?_, fun h => h b rfl⟩)
    cases hc
    exact hg
  | _ => exact (h.standsAt rfl).trans ⟨fun h => ⟨h, nofun⟩, And.left⟩

/-- Entries taken off the branches, and broadcasts left with nothing pending, are for the event to complete. -/
theorem Placed.withdraw (h : Placed J p) (hw : Withdraws p q taken gone) :
    Placed (fun k => J k ∨ (∃ b, taken b k) ∨ ∃ e, q.entry k = some e ∧ e.spreadOut = true) q := by
  refine ⟨hw.tidy h.tidy, fun pl k => ?_, fun k hk => ?_, fun k e he hs => .inr (.inr ⟨e, he, hs⟩)⟩
  · rw [hw.names]
    obtain ⟨hp, hq⟩ | ⟨e, e', he, he', hloses⟩ := hw.entries k
    · exact iff_of_false (fun hn => h.unnamed_of_free hp pl hn.1) fun ⟨_, e, he, _⟩ => by rw [hq] at he; cases he
    · have hlaw := h.law pl k
      simp only [he, Option.some_inj, exists_eq_left'] at hlaw
      simp only [he', Option.some_inj, exists_eq_left', hlaw, hloses.standsAt_iff pl]
      constructor
      · rintro ⟨⟨hk, hs⟩, ht, hg⟩
        refine ⟨?_, hs, hg⟩
        rintro (hj | ⟨b, hb⟩ | hspread)
        · exact hk hj
        · obtain ⟨-, x, hx, -, hplace⟩ := h.place_of_taken hw hb
          rw [he, Option.some_inj] at hx
          exact ht b (hplace pl (hx ▸ hs)) hb
        · exact Entry.not_standsAt_of_spreadOut hspread pl ((hloses.standsAt_iff pl).2 ⟨hs, hg⟩)
      · rintro ⟨hk, hs, hg⟩
        exact ⟨⟨fun hj => hk (.inl hj), hs⟩, fun b _ hb => hk (.inr (.inl ⟨b, hb⟩)), hg⟩
  · have hopen {e : Entry} (he : p.entry k = some e) (ho : e.state.isOpen = true) :
        ∃ e, q.entry k = some e ∧ e.state.isOpen = true := by
      obtain ⟨hp, -⟩ | ⟨x, e', hx, he', hloses⟩ := hw.entries k
      · rw [hp] at he
        cases he
      · rw [he, Option.some_inj] at hx
        exact ⟨e', he', by rw [hloses.state, ← hx, ho]⟩
    obtain hj | ⟨b, hb⟩ | ⟨e', he', hs⟩ := hk
    · obtain ⟨e, he, ho⟩ := h.pending k hj
      exact hopen he ho
    · obtain ⟨-, e, he, ho, -⟩ := h.place_of_taken hw hb
      exact hopen he ho
    · exact ⟨e', he', by rw [(Entry.spreadOut_iff_exists.1 hs).1]; rfl⟩

end Withdraw

end Sys2Proof.Machine
end

section
/-! PROOFS. Picks, answers, the agent's work and admissions, as moves of entries (R5, R10 to R14, R18, R66, R71, R138). -/

namespace Sys2Proof.Machine

variable {J : Nat → Prop} {p q : Places} {k : Nat} {e e' : Entry}

/-! ### The one place of an entry -/

theorem Entry.standsAt_queue {r : Route} (ho : e.origin = .station) (hs : e.state = .queued) (hr : e.route = some r) (pl : Place) :
    e.standsAt pl ↔ pl = .queue r.branch := by
  cases pl <;> simp [Entry.standsAt, ho, hs, hr, eq_comm (a := r.branch)]

theorem Entry.standsAt_line {r : Route} (ho : e.origin = .station) (hs : e.state = .onLine) (hr : e.route = some r) (pl : Place) :
    e.standsAt pl ↔ pl = .line r.branch := by
  cases pl <;> simp [Entry.standsAt, ho, hs, hr, eq_comm (a := r.branch)]

theorem Entry.standsAt_agent (ho : e.origin = .manage) (hs : e.state = .queued) (pl : Place) : e.standsAt pl ↔ pl = .agent := by
  cases pl <;> simp [Entry.standsAt, ho, hs]

theorem Entry.standsAt_working (ho : e.origin = .manage) (hs : e.state = .working) (pl : Place) : e.standsAt pl ↔ pl = .working := by
  cases pl <;> simp [Entry.standsAt, ho, hs]

/-! ### Leaving a place, and coming to one -/

/-- The entry of a slot changes while no frame of the outbound queue answers it. -/
theorem Places.Tidy.put (h : p.Tidy) (hout : ¬ p.names .out k) (hslot : e.slot = k) (hformed : e.formed) : (p.put k e).Tidy := by
  refine { h with entries := fun j x hx => ?_, answers := fun i hi j x hj hx => ?_ }
  · by_cases hjk : j = k
    · subst hjk
      rw [Places.put_entry_self, Option.some_inj] at hx
      exact hx ▸ ⟨hslot, hformed⟩
    · exact h.entries j x ((p.put_entry_other e hjk).symm.trans hx)
  · have hne : j ≠ k := fun hjk => hout (hjk ▸ List.mem_filterMap.2 ⟨i, hi, hj⟩)
    exact h.answers i hi j x hj ((p.put_entry_other e hne).symm.trans hx)

/-- The entry of a place is taken from there for the event to complete, or to put elsewhere. -/
theorem Placed.leaves (h : Placed J p) {target : Place} (hn : p.names target k) (hb : target.isShare = false)
    (hclosed : target ≠ .returning ∧ target ≠ .out) (htidy : q.Tidy) (hentry : q.entry = p.entry)
    (hnames : ∀ pl j, q.names pl j ↔ p.names pl j ∧ ¬ (pl = target ∧ j = k)) : Placed (fun j => J j ∨ j = k) q := by
  obtain ⟨hk, e, he, hs⟩ := h.entry_of_names hn
  have hopen : e.state.isOpen = true := by
    cases target with
    | returning => exact absurd rfl hclosed.1
    | out => exact absurd rfl hclosed.2
    | share => cases hb
    | queue | line => rw [hs.2.1]; rfl
    | agent | working => rw [hs.2]; rfl
  refine h.move k htidy (fun j _ => congrFun hentry j) (fun j hj => by simp [hj]) (fun pl j hj => by simp [hnames, hj])
    (fun pl => iff_of_false (fun hn' => ?_) fun h => h.1 (.inr rfl)) (fun _ => ⟨e, by rw [hentry, he], hopen⟩) fun _ _ _ => .inr rfl
  obtain ⟨hpl, hne⟩ := (hnames pl k).1 hn'
  obtain heq | ⟨-, hshare⟩ := e.standsAt_unique ((h.names_iff he hk pl).1 hpl) hs
  · exact hne ⟨heq, rfl⟩
  · rw [hb] at hshare
    cases hshare

/-- An entry that no place names comes to its place. -/
theorem Placed.arrives (h : Placed J p) (hk : J k) (he : q.entry k = some e) {target : Place} (hs : ∀ pl, e.standsAt pl ↔ pl = target)
    (htidy : q.Tidy) (hentry : ∀ j, j ≠ k → q.entry j = p.entry j)
    (hnames : ∀ pl j, q.names pl j ↔ p.names pl j ∨ (pl = target ∧ j = k)) : Placed (fun j => J j ∧ j ≠ k) q := by
  refine h.move k htidy hentry (fun j hj => by simp [hj]) (fun pl j hj => by simp [hnames, hj]) (fun pl => ?_)
    (fun hj => absurd rfl hj.2) fun x hx hspread => ?_
  · rw [hnames, or_iff_right (h.unnamed hk pl)]
    simp [he, hs]
  · rw [he, Option.some_inj] at hx
    exact (Entry.not_standsAt_of_spreadOut hspread target (hx ▸ (hs target).2 rfl)).elim

/-- A new entry in a free slot, for the event to put in its place. -/
theorem Placed.appears (h : Placed J p) (hfree : p.entry k = none) (hslot : e.slot = k) (hformed : e.formed)
    (hopen : e.state.isOpen = true) : Placed (fun j => J j ∨ j = k) (p.put k e) := by
  exact h.move k (h.tidy.put (h.unnamed_of_free hfree .out) hslot hformed) (fun j hj => p.put_entry_other e hj)
    (fun j hj => by simp [hj]) (fun _ _ _ => Iff.rfl) (fun pl => iff_of_false (h.unnamed_of_free hfree pl) fun h => h.1 (.inr rfl))
    (fun _ => ⟨e, p.put_entry_self k e, hopen⟩) fun _ _ _ => .inr rfl

/-- An entry that the event has still to complete changes its fields. -/
theorem Placed.editPending (h : Placed J p) (hk : J k) (hslot : e.slot = k) (hformed : e.formed) (hopen : e.state.isOpen = true) :
    Placed J (p.put k e) := by
  exact h.move k (h.tidy.put (h.unnamed hk .out) hslot hformed) (fun j hj => p.put_entry_other e hj)
    (fun _ _ => Iff.rfl) (fun _ _ _ => Iff.rfl) (fun pl => iff_of_false (h.unnamed hk pl) fun h => h.1 hk)
    (fun _ => ⟨e, p.put_entry_self k e, hopen⟩) fun _ _ _ => hk

/-! ### Picks (R71) -/

theorem Places.names_hold {b : BranchId} {l : Lane} (hq : l.queue = (p.lane b).queue) (hnone : (p.lane b).held = none)
    (hheld : l.held = some (.station k)) (pl : Place) (j : Nat) :
    (p.setLane b l).names pl j ↔ p.names pl j ∨ (pl = .line b ∧ j = k) := by
  have hlane (c : BranchId) : (p.setLane b l).lane c = if c = b then l else p.lane c := rfl
  cases pl with
  | queue c | line c | share c =>
    simp only [Places.names, hlane]
    split
    · rename_i hc
      subst hc
      simp [hq, hheld, hnone, eq_comm]
    · simp [*]
  | _ => simp [Places.names, Places.setLane]

theorem Places.names_dequeue {b : BranchId} {l : Lane} (hq : (p.lane b).queue = .station k :: l.queue)
    (hnodup : (p.lane b).queue.Nodup) (hheld : l.held = (p.lane b).held) (pl : Place) (j : Nat) :
    (p.setLane b l).names pl j ↔ p.names pl j ∧ ¬ (pl = .queue b ∧ j = k) := by
  have hlane (c : BranchId) : (p.setLane b l).lane c = if c = b then l else p.lane c := rfl
  rw [hq, List.nodup_cons] at hnodup
  cases pl with
  | queue c =>
    simp only [Places.names, hlane]
    split
    · rename_i hc
      subst hc
      rw [hq]
      simp only [List.mem_cons, QueueItem.station.injEq, true_and]
      refine ⟨fun h => ⟨.inr h, fun hj => hnodup.1 (hj ▸ h)⟩, fun h => h.1.resolve_left h.2⟩
    · simp [*]
  | line c | share c =>
    simp only [Places.names, hlane]
    split
    · rename_i hc
      subst hc
      simp [hq, hheld]
    · simp
  | _ => simp [Places.names, Places.setLane]

/-- The lane of a branch after a pick of an item. -/
def Lane.picking (rest : List QueueItem) (held : Option QueueItem) : Lane := { queue := rest, held := held, state := .guard }

theorem Lane.Tidy.picking {l : Lane} {q : QueueItem} {rest : List QueueItem} (h : l.Tidy) (hq : l.queue = q :: rest) :
    (Lane.picking rest (some q)).Tidy := by
  have hnodup := h.nodup
  rw [hq, List.nodup_cons] at hnodup
  exact ⟨hnodup.2, fun k hk => by cases hk; exact hnodup.1, fun _ _ => .inl rfl, fun _ => .inl rfl⟩

/-- A share goes from the head of its queue to the line. -/
theorem Placed.picksShare (h : Placed J p) {b : BranchId} {rest : List QueueItem} (hq : (p.lane b).queue = .share k :: rest)
    (hnone : (p.lane b).held = none) : Placed J (p.setLane b (.picking rest (some (.share k)))) := by
  refine ⟨h.tidy.setLane ((h.tidy.lanes b).picking hq), fun pl j => (Places.names_setLane ?_ ?_ ?_ pl).trans (h.law pl j),
    h.pending, h.spread⟩
  · simp [Lane.picking, hq]
  · simp [Lane.picking, hnone]
  · simp only [Lane.picking, hq, hnone, List.mem_cons, QueueItem.share.injEq, Option.some_inj, reduceCtorEq, or_false]
    rw [or_comm, eq_comm]

theorem Entry.formed.toLine (h : e.formed) (ho : e.origin = .station) (hs : e.state = .queued) :
    ({ e with state := .onLine } : Entry).formed := by
  obtain ⟨hstation, -, -, -, hopen, -⟩ := h
  obtain ⟨h1, h2, h3, h4, -, -⟩ := hstation ho
  refine ⟨fun _ => ⟨h1, h2, h3, h4, nofun, nofun⟩, fun hb => ?_, fun hm => ?_, nofun, fun _ => hopen (by rw [hs]; rfl), nofun⟩
  · rw [show e.origin = .broadcast from hb] at ho
    cases ho
  · rw [show e.origin = .manage from hm] at ho
    cases ho

/-- A STATION entry goes from the head of its queue to the line (R5). -/
theorem Placed.picksStation (h : Placed J p) {b : BranchId} {rest : List QueueItem} (hq : (p.lane b).queue = .station k :: rest)
    (hnone : (p.lane b).held = none) (he : p.entry k = some e) :
    Placed J ((p.put k { e with state := .onLine }).setLane b (.picking rest (some (.station k)))) := by
  have hlane := h.tidy.lanes b
  have hnodup := hlane.nodup
  have hnamed : p.names (.queue b) k := by simp [Places.names, hq]
  obtain ⟨hk, e', he', horig, hst, r, hr, hb⟩ := h.entry_of_names hnamed
  rw [he, Option.some_inj] at he'
  subst he'
  obtain ⟨hslot, hformed⟩ := h.tidy.entries k e he
  have hempty : (Lane.picking rest none).Tidy := by
    rw [hq, List.nodup_cons] at hnodup
    exact ⟨hnodup.2, nofun, nofun, fun hne => absurd rfl hne⟩
  have hleft := h.leaves (q := p.setLane b (.picking rest none)) hnamed rfl ⟨nofun, nofun⟩ (h.tidy.setLane hempty) rfl
    (Places.names_dequeue hq hnodup hnone.symm)
  have hedited := hleft.editPending (e := { e with state := .onLine }) (.inr rfl) hslot (hformed.toLine horig hst) rfl
  have hput : ((p.setLane b (.picking rest none)).put k { e with state := .onLine }).setLane b (.picking rest (some (.station k)))
      = (p.put k { e with state := .onLine }).setLane b (.picking rest (some (.station k))) := by
    simp only [Places.setLane, Places.put]
    congr 1
    funext c
    split <;> rfl
  have harrived := hedited.arrives (q := ((p.setLane b (.picking rest none)).put k { e with state := .onLine }).setLane b
      (.picking rest (some (.station k)))) (.inr rfl) (Places.put_entry_self ..) (Entry.standsAt_line (r := r) horig rfl hr)
    (hedited.tidy.setLane (hlane.picking hq)) (fun _ _ => rfl) (fun pl j => by
      subst hb
      exact Places.names_hold (p := (p.setLane r.branch (.picking rest none)).put k { e with state := .onLine })
        (by simp [Places.put, Lane.picking]) (by simp [Places.put, Lane.picking]) rfl pl j)
  rw [hput] at harrived
  exact harrived.congr fun j => ⟨fun hj => ⟨.inl hj, fun h => hk (h ▸ hj)⟩, fun ⟨hj, hne⟩ => hj.resolve_right hne⟩

end Sys2Proof.Machine
end

section
/-! PROOFS. Completions, releases and the agent's work keep each entry in its place (R10 to R14, R18, R138). -/

namespace Sys2Proof.Machine

variable {J : Nat → Prop} {p q : Places} {k : Nat} {e : Entry}

/-! ### Answers (R12, R14, R18) -/

theorem Places.Tidy.outAppend (h : p.Tidy) {i : OutItem} (hnew : ∀ k, i.note.slot? = some k → ¬ p.names .out k)
    (hreply : ∀ k e, i.note.slot? = some k → p.entry k = some e → e.reply = some i.frame) :
    ({ p with out := p.out ++ [i] } : Places).Tidy := by
  refine { h with out := ?_, answers := fun j hj k e hk he => ?_ }
  · rw [List.filterMap_append]
    refine h.out.append ?_ fun k hk hk' => ?_
    · cases hs : i.note.slot? <;> simp [hs]
    · simp only [List.filterMap_cons, List.filterMap_nil] at hk'
      cases hs : i.note.slot? with
      | none => simp [hs] at hk'
      | some j =>
        simp only [hs, List.mem_singleton] at hk'
        exact hnew k (hk' ▸ hs) hk
  · obtain hj | hj := List.mem_append.1 hj
    · exact h.answers j hj k e hk he
    · rw [List.mem_singleton.1 hj] at hk ⊢
      exact hreply k e hk he

theorem Places.names_outAppend {i : OutItem} (hnote : i.note.slot? = some k) (pl : Place) (j : Nat) :
    ({ p with out := p.out ++ [i] } : Places).names pl j ↔ p.names pl j ∨ (pl = .out ∧ j = k) := by
  cases pl <;> simp [Places.names, List.filterMap_append, hnote]

theorem Places.names_returningAppend (pl : Place) (j : Nat) :
    ({ p with returning := p.returning ++ [k] } : Places).names pl j ↔ p.names pl j ∨ (pl = .returning ∧ j = k) := by
  cases pl <;> simp [Places.names]

/-- An entry completes into the outbound queue. -/
theorem Placed.completesOut (h : Placed J p) (hk : J k) (hslot : e.slot = k) (hformed : e.formed) (hs : e.state = .outbound)
    {i : OutItem} (hnote : i.note.slot? = some k) (hreply : e.reply = some i.frame) :
    Placed (fun j => J j ∧ j ≠ k) { p.put k e with out := p.out ++ [i] } := by
  refine h.arrives hk (p.put_entry_self k e) (Entry.standsAt_outbound hs) ((h.tidy.put (h.unnamed hk .out) hslot hformed).outAppend (fun j hj => ?_)
    fun j x hj hx => ?_) (fun j hj => p.put_entry_other e hj) fun pl j => Places.names_outAppend (p := p.put k e) hnote pl j
  · rw [hnote, Option.some_inj] at hj
    exact hj ▸ h.unnamed hk .out
  · rw [hnote, Option.some_inj] at hj
    subst hj
    rw [Places.put_entry_self, Option.some_inj] at hx
    exact hx ▸ hreply

/-- An entry completes and waits for room in the outbound queue. -/
theorem Placed.completesReturning (h : Placed J p) (hk : J k) (hslot : e.slot = k) (hformed : e.formed) (hs : e.state = .returning) :
    Placed (fun j => J j ∧ j ≠ k) { p.put k e with returning := p.returning ++ [k] } := by
  have htidy := h.tidy.put (h.unnamed hk .out) hslot hformed
  refine h.arrives hk (p.put_entry_self k e) (Entry.standsAt_returning hs) { htidy with returning := ?_ }
    (fun j hj => p.put_entry_other e hj) fun pl j => Places.names_returningAppend (p := p.put k e) pl j
  refine h.tidy.returning.append (List.nodup_singleton k) fun j hj hj' => ?_
  rw [List.mem_singleton.1 hj'] at hj
  exact h.unnamed hk .returning hj

theorem Entry.formed.completed (h : e.formed) (seq : Word16) (answer : Frame) {st : EntryState} (hst : st.isOpen = false) :
    (e.completed seq answer st).formed := by
  obtain ⟨hstation, hbroadcast, hmanage, -⟩ := h
  have hne {x : EntryState} (hx : x.isOpen = true) : (e.completed seq answer st).state ≠ x := fun heq => by
    rw [show st = x from heq, hx] at hst
    cases hst
  refine ⟨fun ho => ?_, fun ho => ?_, fun ho => ?_, fun hq => absurd hq (hne rfl), fun ho => ?_, fun _ => ⟨rfl, rfl⟩⟩
  · obtain ⟨h1, h2, h3, h4, -, -⟩ := hstation ho
    exact ⟨h1, h2, h3, h4, hne rfl, hne rfl⟩
  · obtain ⟨h1, h2, -, -, -, h6⟩ := hbroadcast ho
    exact ⟨h1, h2, hne rfl, hne rfl, hne rfl, h6⟩
  · obtain ⟨h1, h2, h3, -, -⟩ := hmanage ho
    exact ⟨h1, h2, h3, hne rfl, hne rfl⟩
  · rw [show (e.completed seq answer st).state = st from rfl, hst] at ho
    cases ho

@[ext] theorem Places.ext {p q : Places} (hentry : ∀ k, p.entry k = q.entry k) (hlane : ∀ b, p.lane b = q.lane b)
    (hagent : p.agent = q.agent) (hworking : p.working = q.working) (hbusy : p.busy = q.busy)
    (hreturning : p.returning = q.returning) (hout : p.out = q.out) : p = q := by
  cases p
  cases q
  obtain rfl := funext hentry
  obtain rfl := funext hlane
  simp_all

/-- A completion (R12 to R14). -/
theorem Placed.complete {s : State} (h : Placed J s.places) (hk : J k) (f : Form) :
    Placed (fun j => J j ∧ j ≠ k) (s.complete k f).places := by
  obtain ⟨e, he, ho⟩ := h.pending k hk
  obtain ⟨hslot, hformed⟩ := h.tidy.entries k e he
  obtain ⟨-, -, hother, hself⟩ := s.complete_open k f e he ho
  have hframe := s.complete_frame k f
  have hnote := releaseNote_slot? e (answerFrame s.own f e)
  split at hself
  · obtain ⟨hfind, hreturning, hup⟩ := hself
    rename_i hroom
    have hplaces : (s.complete k f).places = { s.places.put k (e.completed s.table.nextSeq (answerFrame s.own f e) .outbound) with
        out := s.places.out ++ [{ frame := answerFrame s.own f e, note := releaseNote e (answerFrame s.own f e) }] } := by
      refine Places.ext (fun j => ?_) (fun b => ?_) ?_ ?_ ?_ (hreturning.trans hroom.2.symm) ?_
      · by_cases hj : j = k
        · subst hj
          exact hfind.trans (if_pos rfl).symm
        · exact (hother j hj).trans (if_neg hj).symm
      · rw [hframe]; rfl
      · rw [hframe]; rfl
      · rw [hframe]; rfl
      · rw [hframe]; rfl
      · exact (congrArg Upstream.queue hup).trans (Upstream.append_queue ..)
    rw [hplaces]
    exact h.completesOut (e := e.completed s.table.nextSeq (answerFrame s.own f e) .outbound) hk hslot (hformed.completed _ _ rfl) rfl (hnote.trans (congrArg some hslot)) rfl
  · obtain ⟨hfind, hreturning, hup⟩ := hself
    have hplaces : (s.complete k f).places = { s.places.put k (e.completed s.table.nextSeq (answerFrame s.own f e) .returning) with
        returning := s.places.returning ++ [k] } := by
      refine Places.ext (fun j => ?_) (fun b => ?_) ?_ ?_ ?_ hreturning (congrArg Upstream.queue hup)
      · by_cases hj : j = k
        · subst hj
          exact hfind.trans (if_pos rfl).symm
        · exact (hother j hj).trans (if_neg hj).symm
      · rw [hframe]; rfl
      · rw [hframe]; rfl
      · rw [hframe]; rfl
      · rw [hframe]; rfl
    rw [hplaces]
    exact h.completesReturning (e := e.completed s.table.nextSeq (answerFrame s.own f e) .returning) hk hslot
      (hformed.completed _ _ rfl) rfl

theorem Placed.completeEach (jobs : List Job) : ∀ {J : Nat → Prop} {s : State}, Placed J s.places →
    (∀ k, J k → ∃ j ∈ jobs, j.slot = k) → (∀ j ∈ jobs, J j.slot ∨ ∀ e, s.table.find? j.slot = some e → e.state.isOpen = false) →
    Placed Nothing (s.completeEach jobs).places := by
  induction jobs with
  | nil => exact fun h hJ _ => h.congr fun k => ⟨False.elim, fun hk => nomatch hJ k hk⟩
  | cons j jobs ih =>
    intro J s h hJ hjobs
    rw [State.completeEach, List.foldl_cons]
    by_cases hk : J j.slot
    · obtain ⟨e, he, ho⟩ := h.pending _ hk
      obtain ⟨-, -, hother, hself⟩ := s.complete_open j.slot j.form e he ho
      refine ih (h.complete hk j.form) (fun k hJk => ?_) fun i hi => ?_
      · obtain ⟨i, hi, rfl⟩ := hJ k hJk.1
        obtain rfl | hi := List.mem_cons.1 hi
        · exact absurd rfl hJk.2
        · exact ⟨i, hi, rfl⟩
      · by_cases hij : i.slot = j.slot
        · refine .inr fun x hx => ?_
          rw [hij] at hx
          split at hself
          · rw [hself.1, Option.some_inj] at hx
            rw [← hx]
            rfl
          · rw [hself.1, Option.some_inj] at hx
            rw [← hx]
            rfl
        · rw [hother _ hij]
          exact (hjobs i (List.mem_cons_of_mem _ hi)).imp_left fun h => ⟨h, hij⟩
    · have hsame : s.complete j.slot j.form = s := by
        cases he : s.table.find? j.slot with
        | none => exact s.complete_free _ _ he
        | some e => exact s.complete_closed _ _ e he ((hjobs j List.mem_cons_self).resolve_left hk e he)
      rw [hsame]
      refine ih h (fun k hJk => ?_) fun i hi => hjobs i (List.mem_cons_of_mem _ hi)
      obtain ⟨i, hi, rfl⟩ := hJ k hJk
      obtain rfl | hi := List.mem_cons.1 hi
      · exact absurd hJk hk
      · exact ⟨i, hi, rfl⟩

/-- All completions of an event (R13). -/
theorem Placed.completeAll {s : State} {jobs : List Job} (h : Placed (fun k => ∃ j ∈ jobs, j.slot = k) s.places) :
    Placed Nothing (s.completeAll jobs).places := by
  have hmem {j : Job} : j ∈ s.sortJobs jobs ↔ j ∈ jobs := (s.sortJobs_perm jobs).mem_iff
  exact Placed.completeEach _ h (fun k ⟨j, hj, hk⟩ => ⟨j, hmem.2 hj, hk⟩) fun j hj => .inl ⟨j, hmem.1 hj, rfl⟩

/-! ### The end of a transmission (R14, R18) -/

/-- The head item of the outbound queue has gone, and its entry with it. -/
theorem Placed.sent (h : Placed J p) {i : OutItem} {rest : List OutItem} (hq : p.out = i :: rest)
    (hrest : q = { p with entry := q.entry, out := rest })
    (hentry : ∀ j, q.entry j = if i.note.slot? = some j then none else p.entry j) : Placed J q := by
  have hnodup := h.tidy.out
  rw [hq, List.filterMap_cons] at hnodup
  have hsub : rest.filterMap (fun i => i.note.slot?) |>.Nodup := by
    cases hs : i.note.slot? with
    | none => simpa [hs] using hnodup
    | some k =>
      rw [hs] at hnodup
      exact (List.nodup_cons.1 hnodup).2
  have htidy : q.Tidy := by
    rw [hrest]
    refine { h.tidy with entries := fun j x hx => ?_, out := hsub, answers := fun j hj k x hk hx => ?_ }
    · dsimp only at hx
      rw [hentry] at hx
      split at hx
      · cases hx
      · exact h.tidy.entries j x hx
    · dsimp only at hx
      rw [hentry] at hx
      split at hx
      · cases hx
      · exact h.tidy.answers j (by rw [hq]; exact List.mem_cons_of_mem _ hj) k x hk hx
  cases hs : i.note.slot? with
  | none =>
    have hsame : q.entry = p.entry := funext fun j => by simp [hentry, hs]
    have hnames (pl : Place) (j : Nat) : q.names pl j ↔ p.names pl j := by
      rw [hrest]
      cases pl <;> simp [Places.names, hq, hs]
    exact ⟨htidy, fun pl j => by rw [hnames, hsame]; exact h.law pl j, by rw [hsame]; exact h.pending, by rw [hsame]; exact h.spread⟩
  | some k =>
    rw [hs] at hnodup
    have hnamed : p.names .out k := by simp [Places.names, hq, hs]
    obtain ⟨hk, e, he, hout⟩ := h.entry_of_names hnamed
    have hgone : q.entry k = none := by simp [hentry, hs]
    have hnames (pl : Place) (j : Nat) : q.names pl j ↔ p.names pl j ∧ ¬ (pl = .out ∧ j = k) := by
      rw [hrest]
      cases pl with
      | out =>
        simp only [Places.names, hq, List.filterMap_cons, hs, List.mem_cons, true_and]
        exact ⟨fun h => ⟨.inr h, fun hj => (List.nodup_cons.1 hnodup).1 (hj ▸ h)⟩, fun h => h.1.resolve_left h.2⟩
      | _ => simp [Places.names]
    refine h.move k htidy (fun j hj => ?_) (fun _ _ => Iff.rfl) (fun pl j hj => by simp [hnames, hj])
      (fun pl => iff_of_false (fun hn => ?_) fun h => ?_) (fun hJ => absurd hJ hk) fun x hx _ => ?_
    · rw [hentry, if_neg]
      rw [hs, Option.some_inj]
      exact Ne.symm hj
    · obtain ⟨hpl, hne⟩ := (hnames pl k).1 hn
      exact hne ⟨(Entry.standsAt_outbound hout pl).1 ((h.names_iff he hk pl).1 hpl), rfl⟩
    · obtain ⟨-, x, hx, -⟩ := h
      rw [hgone] at hx
      cases hx
    · rw [hgone] at hx
      cases hx

/-- The entry RETURNING longest goes to the tail of the outbound queue. -/
theorem Placed.promotes (h : Placed J p) {rest : List Nat} (hr : p.returning = k :: rest) (he : p.entry k = some e)
    {i : OutItem} (hnote : i.note.slot? = some k) (hreply : e.reply = some i.frame) :
    Placed J { p.put k { e with state := .outbound } with returning := rest, out := p.out ++ [i] } := by
  have hnamed : p.names .returning k := by simp [Places.names, hr]
  obtain ⟨hk, e', he', hst⟩ := h.entry_of_names hnamed
  rw [he, Option.some_inj] at he'
  subst he'
  have hst : e.state = .returning := hst
  have hnodup := h.tidy.returning
  rw [hr, List.nodup_cons] at hnodup
  obtain ⟨hslot, hstation, hbroadcast, hmanage, -, -, hclosed⟩ := h.tidy.entries k e he
  have hformed : ({ e with state := .outbound } : Entry).formed := by
    refine ⟨fun ho => ?_, fun ho => ?_, fun ho => ?_, nofun, nofun, fun _ => hclosed (by rw [hst]; rfl)⟩
    · obtain ⟨h1, h2, h3, h4, -, -⟩ := hstation ho
      exact ⟨h1, h2, h3, h4, nofun, nofun⟩
    · obtain ⟨h1, h2, -, -, -, h6⟩ := hbroadcast ho
      exact ⟨h1, h2, nofun, nofun, nofun, h6⟩
    · obtain ⟨h1, h2, h3, -, -⟩ := hmanage ho
      exact ⟨h1, h2, h3, nofun, nofun⟩
  have hold (pl : Place) : p.names pl k ↔ pl = .returning :=
    (h.names_iff he hk pl).trans (Entry.standsAt_returning hst pl)
  have hput : (p.put k { e with state := .outbound }).Tidy :=
    h.tidy.put (fun hn => by cases (hold .out).1 hn) hslot hformed
  have htidy := hput.outAppend (i := i) (fun j hj hn => ?_) fun j x hj hx => ?_
  · refine h.move k { htidy with returning := hnodup.2 } (fun j hj => p.put_entry_other _ hj) (fun _ _ => Iff.rfl) (fun pl j hj => ?_)
      (fun pl => ?_) (fun hJ => absurd hJ hk) fun x hx hs => ?_
    · cases pl <;> simp [Places.names, Places.put, hr, hj, List.filterMap_append, hnote]
    · have hentry : ({ p.put k { e with state := .outbound } with returning := rest, out := p.out ++ [i] } : Places).entry k
          = some { e with state := .outbound } := p.put_entry_self _ _
      have hstands := Entry.standsAt_outbound (e := { e with state := .outbound }) rfl pl
      rw [hentry]
      simp only [Option.some_inj, exists_eq_left', hk, not_false_eq_true, true_and, hstands]
      have hpl := hold pl
      cases pl with
      | returning => simpa [Places.names] using hnodup.1
      | out => simp [Places.names, List.filterMap_append, hnote]
      | _ => exact iff_of_false (fun hn => by cases hpl.1 hn) nofun
    · rw [show ({ p.put k { e with state := .outbound } with returning := rest, out := p.out ++ [i] } : Places).entry k
          = some { e with state := .outbound } from p.put_entry_self _ _, Option.some_inj] at hx
      exact (Entry.not_spreadOut (by rw [← hx]; nofun) hs).elim
  · rw [hnote, Option.some_inj] at hj
    subst hj
    cases (hold .out).1 hn
  · rw [hnote, Option.some_inj] at hj
    subst hj
    rw [Places.put_entry_self, Option.some_inj] at hx
    exact hx ▸ hreply

end Sys2Proof.Machine
end

section
/-! PROOFS. What the parts of an event do to the places of the entries: picks, frees, reply windows (R5, R66 to R84). -/

namespace Sys2Proof.Machine

variable {J : Nat → Prop} {s t : State} {b : BranchId} {k : Nat} {e : Entry}

/-! ### Branches and entries -/

@[simp] theorem State.places_entry (s : State) (k : Nat) : s.places.entry k = s.table.find? k := rfl

@[simp] theorem State.places_lane (s : State) (b : BranchId) : s.places.lane b = (s.branch b).lane := rfl

theorem State.places_setBranch (s : State) (b : BranchId) (y : Branch) : (s.setBranch b y).places = s.places.setLane b y.lane := by
  refine Places.ext (fun _ => rfl) (fun c => ?_) rfl rfl rfl rfl rfl
  by_cases hc : c = b
  · subst hc
    rw [State.places_lane, State.branch_setBranch_self, Places.setLane_self]
  · rw [State.places_lane, State.branch_setBranch_other _ _ _ _ hc, Places.setLane_other _ _ hc, State.places_lane]

theorem State.places_updateEntry {f : Entry → Entry} (he : s.table.find? k = some e) (hf : ∀ x, (f x).slot = x.slot) :
    (s.updateEntry k f).places = s.places.put k (f e) := by
  refine Places.ext (fun j => ?_) (fun _ => rfl) rfl rfl rfl rfl rfl
  refine (Table.find?_update s.table k j f hf).trans ?_
  rw [he]
  rfl

/-- A branch changes, but not what it names. -/
theorem Placed.setBranch (h : Placed J s.places) {y : Branch} (hq : y.queue = (s.branch b).queue)
    (hheld : y.lane.held = (s.branch b).lane.held)
    (hstate : y.state = (s.branch b).state ∨ y.lane.held = none ∨ y.state = .guard ∨ y.state = .sending
      ∨ ((y.state = .awaiting ∨ y.state = .receiving) ∧ ∀ k, y.bound ≠ some (.share k))) :
    Placed J (s.setBranch b y).places := by
  rw [State.places_setBranch]
  have hlane := h.tidy.lanes b
  have hnodup : y.lane.queue.Nodup := by
    rw [show y.lane.queue = (s.branch b).queue from hq]
    exact hlane.nodup
  have honce : ∀ k, y.lane.held = some (.share k) → .share k ∉ y.lane.queue := fun k hk => by
    have := hlane.once k (hheld ▸ hk)
    rw [show y.lane.queue = (s.branch b).queue from hq]
    exact this
  refine h.relane hq hheld ?_
  obtain hsame | hnone | hguard | hsending | ⟨hwindow, hshare⟩ := hstate
  · have hsame : y.lane.state = (s.branch b).lane.state := hsame
    exact ⟨hnodup, honce, fun k hk => by rw [hsame]; exact hlane.sends k (hheld ▸ hk),
      fun hne => by rw [hsame]; exact hlane.busy (hheld ▸ hne)⟩
  · exact ⟨hnodup, honce, (fun k hk => by rw [hnone] at hk; cases hk), fun hne => absurd hnone hne⟩
  · exact ⟨hnodup, honce, fun _ _ => .inl hguard, fun _ => .inl hguard⟩
  · exact ⟨hnodup, honce, fun _ _ => .inr hsending, fun _ => .inr (.inl hsending)⟩
  · exact ⟨hnodup, honce, fun k hk => absurd (BoundItem.work_share.1 hk) (hshare k), fun _ => .inr (.inr hwindow)⟩

/-- An IDLE branch has no entry on its line. -/
theorem Placed.idle_held (h : Placed J s.places) (hi : (s.branch b).state = .idle) : (s.branch b).lane.held = none := by
  by_contra hne
  have := (h.tidy.lanes b).busy hne
  simp [Branch.lane, hi] at this

/-! ### The arbiters (R68 to R71) -/

theorem Placed.arbitrate (h : Placed J s.places) (b : BranchId) : Placed J (s.arbitrate b).places := by
  by_cases hpick : s.live = true ∧ (s.branch b).state = .idle
  · obtain ⟨hlive, hidle⟩ := hpick
    have hnone := h.idle_held hidle
    cases hchoice : chooseClaim (s.branch b) (s.branchSettings b).burst (s.firstClaim b) with
    | none => rw [State.arbitrate_of_noClaim hchoice]; exact h
    | some c =>
      rw [State.arbitrate_of_claim hlive hidle hchoice]
      have hheads := chooseClaim_heads hchoice
      cases c with
      | failsafe f rest => exact h.setBranch rfl hnone.symm (.inr (.inl rfl))
      | poll x => exact Placed.setBranch (s := s.claimTaken (.poll x)) h rfl hnone.symm (.inr (.inl rfl))
      | queued q rest =>
        obtain ⟨-, hq⟩ := hheads
        cases q with
        | share k =>
          have hpicked := h.picksShare (k := k) hq hnone
          rw [State.pick, State.places_setBranch]
          exact hpicked
        | station k =>
          have hnamed : s.places.names (.queue b) k := by
            rw [Places.names, State.places_lane, Branch.lane, hq]
            exact List.mem_cons_self
          obtain ⟨-, e, he, -⟩ := h.entry_of_names hnamed
          have hpicked := h.picksStation hq hnone he
          rw [State.pick, State.places_setBranch, State.claimTaken,
            State.places_updateEntry (f := fun e => { e with state := .onLine }) he fun _ => rfl]
          exact hpicked
  · by_cases hlive : s.live = true
    · rw [State.arbitrate_of_busy fun hi => hpick ⟨hlive, hi⟩]; exact h
    · rw [State.arbitrate_of_held (Bool.eq_false_iff.2 hlive)]; exact h

theorem Placed.settle (h : Placed J s.places) : Placed J s.settle.places :=
  (((h.arbitrate .b0).arbitrate .b1).arbitrate .b2).arbitrate .b3

theorem State.heldIfDone_places (s : State) : s.heldIfDone.places = s.places := by
  rw [State.heldIfDone_frame]
  rfl

/-! ### Entries on the line (R6, R75, R82) -/

theorem Placed.onLine (h : Placed J s.places) (hb : (s.branch b).bound = some (.station k)) :
    ¬ J k ∧ ∃ e, s.table.find? k = some e ∧ e.origin = .station ∧ e.state = .onLine := by
  obtain ⟨hk, e, he, ho, hs, -⟩ := h.entry_of_names (pl := .line b) (BoundItem.work_station.2 hb)
  exact ⟨hk, e, he, ho, hs⟩

/-- An entry on the line counts an attempt, or notes a cause. -/
theorem Placed.editOnLine (h : Placed J s.places) (hb : (s.branch b).bound = some (.station k)) {f : Entry → Entry}
    (hf : ∀ e, ∃ a c, f e = { e with attempts := a, lastCause := c }) : Placed J (s.updateEntry k f).places := by
  obtain ⟨-, e, he, horig, hst⟩ := h.onLine hb
  rw [State.places_updateEntry he fun x => by obtain ⟨a, c, hx⟩ := hf x; rw [hx]]
  obtain ⟨hslot, hstation, hbroadcast, hmanage, -, hrest⟩ := h.tidy.entries k e he
  obtain ⟨a, c, hfe⟩ := hf e
  rw [hfe]
  refine h.edit he hslot ⟨hstation, hbroadcast, hmanage, fun hq => ?_, hrest⟩ (fun pl => ?_) rfl id rfl
  · rw [show e.state = .queued from hq] at hst
    cases hst
  · cases pl <;> exact Iff.rfl

theorem Placed.countAttempt (h : Placed J s.places) {i : BoundItem} (hb : (s.branch b).bound = some i) :
    Placed J (s.countAttempt i).places := by
  cases i with
  | station k => exact h.editOnLine hb fun e => ⟨_, _, rfl⟩
  | share | poll | failsafe => exact h

theorem Placed.noteCause (h : Placed J s.places) (c : Cause) : Placed J (s.noteCause c (s.branch b).bound).places := by
  unfold State.noteCause
  split
  · rename_i k hb
    exact h.editOnLine hb fun e => ⟨_, _, rfl⟩
  · exact h

/-! ### The item of a branch ends (R80, R83) -/

/-- An outcome completes the entry of a bound STATION item, and touches no entry else. -/
def OutcomeOf (s t : State) : Option BoundItem → Prop
  | some (.station k) => ∃ f, t = s.complete k f
  | _ => t.places = s.places

theorem State.failureOutcome_outcomeOf (s : State) (i : Option BoundItem) : OutcomeOf s (s.failureOutcome i) i := by
  match i with
  | some (.station k) => exact ⟨.noAnswer, rfl⟩
  | some (.poll p) =>
    change (s.pollEnded p none).places = s.places
    unfold State.pollEnded
    split <;> rfl
  | some (.share k) | some (.failsafe f) | none => rfl

theorem State.successOutcome_outcomeOf (s : State) (payload : List Octet) (i : Option BoundItem) :
    OutcomeOf s (s.successOutcome payload i) i := by
  match i with
  | some (.station k) => exact ⟨.relayed payload, rfl⟩
  | some (.poll p) =>
    change (State.successOutcome s payload (some (.poll p))).places = s.places
    unfold State.successOutcome
    dsimp only
    split
    · unfold State.pollEnded
      split <;> rfl
    · rfl
  | some (.share k) | some (.failsafe f) | none => rfl

theorem Places.names_release {p : Places} {l : Lane} (hheld : (p.lane b).held = some (.station k)) (hq : l.queue = (p.lane b).queue)
    (hnone : l.held = none) (pl : Place) (j : Nat) : (p.setLane b l).names pl j ↔ p.names pl j ∧ ¬ (pl = .line b ∧ j = k) := by
  have hlane (c : BranchId) : (p.setLane b l).lane c = if c = b then l else p.lane c := rfl
  cases pl with
  | queue c | line c | share c =>
    simp only [Places.names, hlane]
    split
    · rename_i hc
      subst hc
      simp [hq, hheld, hnone, eq_comm]
    · simp [*]
  | _ => simp [Places.names, Places.setLane]

/-- The item of a branch in the reply window ends, its outcome handed on. -/
theorem Placed.itemEnds (h : Placed Nothing s.places) (hst : (s.branch b).state = .awaiting ∨ (s.branch b).state = .receiving)
    (ht : OutcomeOf s t (s.branch b).bound) : Placed Nothing (t.freeBranch b).places := by
  have hnoShare (k : Nat) : (s.branch b).bound ≠ some (.share k) := fun hb => by
    have := (h.tidy.lanes b).sends k (BoundItem.work_share.2 hb)
    obtain hst | hst := hst <;> simp [Branch.lane, hst] at this
  have hquiet (ht : t.places = s.places) (hheld : (s.branch b).lane.held = none) : Placed Nothing (t.freeBranch b).places := by
    have hlane : (t.branch b).lane = (s.branch b).lane := congrFun (congrArg Places.lane ht) b
    exact Placed.setBranch (s := t) (ht ▸ h) rfl (by rw [hlane, hheld]; rfl) (.inr (.inl rfl))
  match hb : (s.branch b).bound with
  | some (.station k) =>
    rw [hb] at ht
    obtain ⟨f, rfl⟩ := ht
    have hheld : (s.places.lane b).held = some (.station k) := BoundItem.work_station.2 hb
    have hbranch : (s.complete k f).branch b = s.branch b := State.branch_congr (by rw [State.complete_frame]) b
    have hcfg : (s.complete k f).branchSettings b = s.branchSettings b := by rw [State.complete_frame]; rfl
    have hswap : (s.complete k f).freeBranch b = (s.freeBranch b).complete k f := by
      rw [State.freeBranch, State.freeBranch, State.complete_setBranch, hbranch, hcfg]
    have hfree : (s.freeBranch b).places = s.places.setLane b ((s.branch b).released (s.branchSettings b).enabled).lane :=
      s.places_setBranch b _
    have hlane : ((s.branch b).released (s.branchSettings b).enabled).lane.Tidy :=
      ⟨(h.tidy.lanes b).nodup, nofun, nofun, fun hne => absurd rfl hne⟩
    have hleft : Placed (fun j => Nothing j ∨ j = k) (s.freeBranch b).places := by
      rw [hfree]
      exact h.leaves (target := .line b) hheld rfl ⟨nofun, nofun⟩ (h.tidy.setLane hlane) rfl
        (Places.names_release hheld rfl rfl)
    rw [hswap]
    refine (hleft.complete (.inr rfl) f).congr fun j => ⟨False.elim, fun ⟨hj, hne⟩ => hne (hj.resolve_left id)⟩
  | some (.share k) => exact absurd hb (hnoShare k)
  | some (.poll p) =>
    rw [hb] at ht
    exact hquiet ht (by rw [Branch.lane, hb]; rfl)
  | some (.failsafe f) =>
    rw [hb] at ht
    exact hquiet ht (by rw [Branch.lane, hb]; rfl)
  | none =>
    rw [hb] at ht
    exact hquiet ht (by rw [Branch.lane, hb]; rfl)

theorem Placed.attemptFails (h : Placed Nothing s.places) (hst : (s.branch b).state = .awaiting ∨ (s.branch b).state = .receiving)
    (c : Cause) : Placed Nothing (s.attemptFails b c).places := by
  unfold State.attemptFails
  extract_lets x closed s1
  have hx : (s.noteCause c x.bound).branch b = x := State.branch_congr (s.noteCause_branches c x.bound) b
  have hs1 : Placed Nothing s1.places :=
    (h.noteCause (b := b) c).setBranch (by rw [hx]) (by rw [hx]; rfl) (.inl (by rw [hx]))
  have hb1 : s1.branch b = closed := State.branch_setBranch_self _ b closed
  split
  · exact hs1.setBranch (by rw [hb1]; rfl) (by rw [hb1]; rfl) (.inr (.inr (.inl rfl)))
  · have hended := hs1.itemEnds (b := b) (t := s1.failureOutcome x.bound) (by rw [hb1]; exact hst)
      (by rw [hb1]; exact s1.failureOutcome_outcomeOf x.bound)
    rw [← State.heldIfDone_places] at hended
    exact hended.settle

theorem Placed.attemptSucceeds (h : Placed Nothing s.places)
    (hst : (s.branch b).state = .awaiting ∨ (s.branch b).state = .receiving) (payload : List Octet) :
    Placed Nothing (s.attemptSucceeds b payload).places := by
  unfold State.attemptSucceeds
  extract_lets x c counted
  have hcounted : Placed Nothing (s.setBranch b counted).places := h.setBranch rfl rfl (.inl rfl)
  have hb : (s.setBranch b counted).branch b = counted := State.branch_setBranch_self s b counted
  have hended := hcounted.itemEnds (b := b) (t := (s.setBranch b counted).successOutcome payload x.bound) (by rw [hb]; exact hst)
    (by rw [hb]; exact (s.setBranch b counted).successOutcome_outcomeOf payload x.bound)
  rw [← State.heldIfDone_places] at hended
  exact hended.settle

theorem Placed.replyReceived (h : Placed Nothing s.places) (hst : (s.branch b).state = .receiving) (f : Frame) :
    Placed Nothing (s.replyReceived b f).places := by
  unfold State.replyReceived
  extract_lets x
  have hstray : Placed Nothing (s.setBranch b x.countStray).places := h.setBranch rfl rfl (.inl rfl)
  have hb : (s.setBranch b x.countStray).branch b = x.countStray := State.branch_setBranch_self s b _
  split
  · split
    · exact h.attemptFails (.inr hst) _
    · exact h.attemptSucceeds (.inr hst) _
  · split
    · exact hstray.attemptFails (.inr (by rw [hb]; exact hst)) _
    · refine h.setBranch rfl rfl (.inr (.inr (.inr (.inr ⟨.inl rfl, fun k hk => ?_⟩))))
      have := (h.tidy.lanes b).sends k (BoundItem.work_share.2 hk)
      simp [Branch.lane, hst] at this

end Sys2Proof.Machine
end

section
/-! PROOFS. Events that take work off the branches keep each entry in its place: the end of a share, line fault, failsafe entry, a
commit (R37, R76, R85, R86, R115). -/

namespace Sys2Proof.Machine

variable {J : Nat → Prop} {s u : State} {b : BranchId} {k : Nat} {e : Entry}

/-! ### Lanes that lose work -/

theorem Lane.Drops.refl (l : Lane) : l.Drops l (fun _ => False) fun _ => false :=
  ⟨.refl _, .inr ⟨rfl, rfl⟩, fun _ => (and_iff_left id).symm, fun _ => (and_iff_left id).symm, fun _ => (and_iff_left rfl).symm, nofun⟩

theorem Branch.lane_holds_station {x : Branch} : x.lane.held = some (.station k) ↔ x.bound = some (.station k) :=
  BoundItem.work_station

theorem Branch.lane_holds_share {x : Branch} : x.lane.held = some (.share k) ↔ x.bound = some (.share k) := BoundItem.work_share

/-- A STATION entry on the line of a branch is not in its queue. -/
theorem Placed.held_not_queued (h : Placed J s.places) (hb : (s.branch b).bound = some (.station k)) :
    .station k ∉ (s.branch b).queue := fun hq => by
  obtain ⟨-, e, he, hs⟩ := h.entry_of_names (pl := .line b) (k := k) (Branch.lane_holds_station.2 hb)
  obtain ⟨-, e', he', hs'⟩ := h.entry_of_names (pl := .queue b) (k := k) hq
  rw [he, Option.some_inj] at he'
  subst he'
  obtain h | h := e.standsAt_unique hs hs'
  · cases h
  · cases h.1

/-! ### Entries that lose shares -/

theorem Entry.Loses.refl (e : Entry) {gone : BranchId → Bool} (h : ∀ b, gone b = false) : e.Loses e gone :=
  ⟨rfl, rfl, rfl, rfl, rfl, id, fun b => (and_iff_left (h b)).symm⟩

theorem Entry.without_loses (e : Entry) (gone : BranchId → Bool) : e.Loses (e.without gone) gone := by
  refine ⟨rfl, rfl, rfl, rfl, rfl, fun ⟨hstation, hbroadcast, hmanage, hrest⟩ => ⟨fun ho => ?_, fun ho => ?_, fun ho => ?_, hrest⟩,
    fun b => ?_⟩
  · obtain ⟨h1, h2, h3, h4⟩ := hstation ho
    exact ⟨h1, h2, by simp [Entry.without, h3], h4⟩
  · obtain ⟨h1, h2, h3, h4, h5, h6⟩ := hbroadcast ho
    exact ⟨h1, h2, h3, h4, h5, by simpa [Entry.without] using h6⟩
  · obtain ⟨h1, h2, h3, h4⟩ := hmanage ho
    exact ⟨h1, h2, by simp [Entry.without, h3], h4⟩
  · unfold Entry.without
    cases e.sets <;> simp

/-- The end of the sending of a share (R8, R76). -/
theorem Entry.moveSent_loses (e : Entry) (b : BranchId) : e.Loses (Entry.moveSent b e) (· == b) := by
  cases hs : e.sets with
  | none =>
    have hsame : Entry.moveSent b e = e := by simp only [Entry.moveSent, hs]
    rw [hsame]
    exact ⟨rfl, rfl, rfl, rfl, rfl, id, fun c => by simp [hs]⟩
  | some x =>
    by_cases hp : x.pending.get b = true
    · have hmoved : Entry.moveSent b e = { e with
          sets := some { x with pending := x.pending.set b false, sent := x.sent.set b true }, attempts := e.attempts + 1 } := by
        simp only [Entry.moveSent, hs, hp, if_true]
      rw [hmoved]
      refine ⟨rfl, rfl, rfl, rfl, rfl, fun ⟨hstation, hbroadcast, hmanage, hattempts, hrest⟩ =>
        ⟨fun ho => ?_, fun ho => ?_, fun ho => ?_, fun hq => ?_, hrest⟩, fun c => ?_⟩
      · have := (hstation ho).2.2.1
        rw [hs] at this
        cases this
      · obtain ⟨h1, h2, h3, h4, h5, -⟩ := hbroadcast ho
        exact ⟨h1, h2, h3, h4, h5, rfl⟩
      · have := (hmanage ho).2.2.1
        rw [hs] at this
        cases this
      · cases ho : e.origin with
        | station =>
          have := (hstation ho).2.2.1
          rw [hs] at this
          cases this
        | broadcast => exact absurd hq (hbroadcast ho).2.2.1
        | manage =>
          have := (hmanage ho).2.2.1
          rw [hs] at this
          cases this
      · by_cases hc : c = b
        · subst hc
          simp [Quad.get_set_self]
        · simp [Quad.get_set_other _ _ _ _ hc, hs, hc]
    · have hsame : Entry.moveSent b e = e := by simp only [Entry.moveSent, hs, if_neg hp]
      rw [hsame]
      refine ⟨rfl, rfl, rfl, rfl, rfl, id, fun c => ?_⟩
      by_cases hc : c = b
      · subst hc
        simp [hs, hp]
      · simp [hs, hc]

/-! ### What such an event has to complete -/

theorem Withdraws.of_losing {taken : BranchId → Nat → Prop} {gone : BranchId → Nat → Bool}
    (ht : u.table = s.table.losing fun k a => gone a k) (hagent : u.agent = s.agent) (hstore : u.store = s.store)
    (hup : u.up = s.up) (hlanes : ∀ b, (s.branch b).lane.Drops (u.branch b).lane (taken b) (gone b)) :
    Withdraws s.places u.places taken gone := by
  refine ⟨Places.ext (fun _ => rfl) (fun _ => rfl) (by rw [State.places, hagent]; rfl) (by rw [State.places, hagent]; rfl)
    (by rw [State.places, hstore]; rfl) (by rw [State.places, ht]; rfl) (by rw [State.places, hup]; rfl), fun k => ?_, hlanes⟩
  have hfind : u.table.find? k = (s.table.find? k).map fun e => e.without fun a => gone a k := by rw [ht, Table.find?_losing]
  cases he : s.table.find? k with
  | none => exact .inl ⟨he, by rw [State.places_entry, hfind, he]; rfl⟩
  | some e => exact .inr ⟨e, _, he, by rw [State.places_entry, hfind, he]; rfl, e.without_loses _⟩

theorem mem_doneJobs_iff (hd : TagsDistinct u) (k : Nat) :
    (∃ j ∈ u.doneJobs, j.slot = k) ↔ ∃ e, u.table.find? k = some e ∧ e.spreadOut = true := by
  constructor
  · rintro ⟨j, hj, rfl⟩
    obtain ⟨e, he, rfl⟩ := List.mem_map.1 hj
    obtain ⟨he, hs⟩ := List.mem_filter.1 he
    exact ⟨e, hd.find?_of_mem he, hs⟩
  · rintro ⟨e, he, hs⟩
    exact ⟨_, List.mem_map.2 ⟨e, List.mem_filter.2 ⟨List.mem_of_find?_eq_some he, hs⟩, rfl⟩, Table.find?_slot he⟩

theorem Placed.jobs {taken : BranchId → Nat → Prop} {r : AbortReason} {slots : List Nat} {extra : List Job}
    (h : Placed (fun k => J k ∨ (∃ b, taken b k) ∨ ∃ e, u.places.entry k = some e ∧ e.spreadOut = true) u.places) (hd : TagsDistinct u)
    (htaken : ∀ k, (∃ b, taken b k) ↔ k ∈ slots) (hextra : ∀ k, J k ↔ ∃ j ∈ extra, j.slot = k) :
    Placed (fun k => ∃ j ∈ abortJobs r slots ++ u.doneJobs ++ extra, j.slot = k) u.places := by
  refine h.congr fun k => ?_
  have habort : (∃ j ∈ abortJobs r slots, j.slot = k) ↔ k ∈ slots := by simp [abortJobs]
  have hdone := mem_doneJobs_iff hd k
  simp only [List.mem_append, or_and_right, exists_or, habort, hdone, htaken, hextra, State.places_entry]
  exact or_comm

theorem TagsDistinct.of_losing {gone : Nat → BranchId → Bool} (hd : TagsDistinct s) (ht : u.table = s.table.losing gone) :
    TagsDistinct u := by
  rw [tagsDistinct_iff, ht, Table.losing_requests]
  exact (tagsDistinct_iff s).1 hd

/-! ### The end of a share (R76) -/

theorem Placed.shareSent (h : Placed Nothing s.places) (hd : TagsDistinct s) (hb : (s.branch b).bound = some (.share k)) :
    Placed Nothing (s.shareSent b k).places := by
  unfold State.shareSent
  extract_lets v
  have hw : Withdraws s.places (v.freeBranch b).places (fun _ _ => False) fun c j => j == k && c == b := by
    have hfree : (v.freeBranch b).places = v.places.setLane b ((s.branch b).released (s.branchSettings b).enabled).lane :=
      v.places_setBranch b _
    rw [hfree]
    refine ⟨rfl, fun j => ?_, fun c => ?_⟩
    · have hfind : v.table.find? j = if j = k then (s.table.find? k).map (Entry.moveSent b) else s.table.find? j :=
        Table.find?_update s.table k j _ fun e => by
          unfold Entry.moveSent
          (repeat' split) <;> rfl
      change (s.table.find? j = none ∧ v.table.find? j = none) ∨ ∃ e e', s.table.find? j = some e ∧ v.table.find? j = some e' ∧ _
      by_cases hj : j = k
      · subst hj
        rw [if_pos rfl] at hfind
        cases he : s.table.find? j with
        | none => exact .inl ⟨rfl, by rw [hfind, he]; rfl⟩
        | some e =>
          refine .inr ⟨e, _, rfl, by rw [hfind, he]; rfl, ?_⟩
          simpa using e.moveSent_loses b
      · rw [if_neg hj] at hfind
        cases he : s.table.find? j with
        | none => exact .inl ⟨rfl, hfind.trans he⟩
        | some e => exact .inr ⟨e, e, rfl, hfind.trans he, .refl e fun c => by simp [hj]⟩
    · by_cases hc : c = b
      · subst hc
        rw [Places.setLane_self]
        have hheld : (s.places.lane c).held = some (.share k) := Branch.lane_holds_share.2 hb
        have honce : .share k ∉ (s.branch c).queue := (h.tidy.lanes c).once k hheld
        refine ⟨.refl _, .inl rfl, fun j => (and_iff_left id).symm, fun j => ?_, fun j => ?_, nofun⟩
        · rw [hheld]
          exact iff_of_false nofun fun h => by cases h.1
        · change .share j ∈ (s.branch c).queue ∨ none = some (QueueItem.share j) ↔ _
          rw [hheld]
          by_cases hj : j = k
          · subst hj
            simpa using honce
          · simp [hj, Ne.symm hj, Branch.lane]
      · rw [Places.setLane_other _ _ hc]
        rw [show (fun j => j == k && c == b) = fun _ => false from funext fun j => by simp [hc]]
        exact Lane.Drops.refl (s.branch c).lane
  have hplaced := h.withdraw hw
  have hdv : TagsDistinct v := by
    rw [tagsDistinct_iff, show v.table.requests = s.table.requests from Table.update_requests _ _ (Entry.moveSent_sameRequest b)]
    exact (tagsDistinct_iff s).1 hd
  refine (Placed.completeAll (hplaced.congr fun j => ?_)).settle
  rw [show (v.freeBranch b).places.entry j = v.table.find? j from rfl, ← mem_doneJobs_iff hdv j]
  simp [Nothing]

/-! ### Line fault (R85, R86) -/

theorem Lane.Drops.cleared (l : Lane) (st : BranchState) : l.Drops { queue := [], held := none, state := st }
    (fun k => .station k ∈ l.queue ∨ l.held = some (.station k))
    fun k => decide (.share k ∈ l.queue ∨ l.held = some (.share k)) := by
  refine ⟨List.nil_sublist _, .inl rfl, fun k => ?_, fun k => ?_, fun k => ?_, fun k h => h⟩
  · exact iff_of_false nofun fun h => h.2 (.inl h.1)
  · exact iff_of_false nofun fun h => h.2 (.inr h.1)
  · exact iff_of_false (by simp) fun h => of_decide_eq_false h.2 h.1

/-- The fault event of a branch, `x` the branch as the event finds it. -/
theorem Placed.enterFault (h : Placed Nothing s.places) (hd : TagsDistinct s) {x : Branch} (hq : x.queue = (s.branch b).queue)
    (hbound : x.bound = (s.branch b).bound) : Placed Nothing ((s.setBranch b x).enterFault b).places := by
  have htable := s.faultBegun_table b x
  have hframe := s.faultBegun_frame b x
  have hw : Withdraws s.places (s.faultBegun b x).places
      (fun c j => c = b ∧ (.station j ∈ x.queue ∨ x.bound = some (.station j))) fun c j => c == b && x.hasShare j := by
    refine Withdraws.of_losing htable (by rw [hframe]) (by rw [hframe]) (by rw [hframe]) fun c => ?_
    rw [State.faultBegun_branch]
    split
    · rename_i hc
      subst hc
      have hdrops := Lane.Drops.cleared (s.branch c).lane (x.faulted (s.branchSettings c).enabled).state
      have hshare (j : Nat) : x.hasShare j = decide (.share j ∈ (s.branch c).lane.queue ∨ (s.branch c).lane.held = some (.share j)) := by
        rw [Bool.eq_iff_iff, decide_eq_true_iff, Branch.lane_holds_share, Branch.hasShare, Bool.or_eq_true, beq_iff_eq,
          List.contains_iff_mem, hq, hbound, or_comm]
        rfl
      simp only [Branch.lane_holds_station] at hdrops
      simp only [hq, hbound, hshare, true_and, beq_self_eq_true, Bool.true_and]
      exact hdrops
    · rename_i hc
      rw [show (fun j => c = b ∧ (.station j ∈ x.queue ∨ x.bound = some (.station j))) = fun _ => False from
        funext fun j => propext ⟨fun h => hc h.1, False.elim⟩,
        show (fun j => c == b && x.hasShare j) = fun _ => false from funext fun j => by simp [hc]]
      exact Lane.Drops.refl (s.branch c).lane
  have hplaced := (h.withdraw hw).jobs (r := .lineFault) (slots := boundStationSlots x.bound ++ stationSlots x.queue) (extra := [])
    (hd.of_losing htable) (fun j => by simp [mem_stationSlots, mem_boundStationSlots, or_comm]) fun j => by simp [Nothing]
  rw [List.append_nil] at hplaced
  rw [State.enterFault_setBranch]
  exact hplaced.completeAll.settle

/-! ### Failsafe entry and commits (R37, R115) -/

/-- The entries that an event takes off the branches are for it to complete, with the request that brings it on. -/
theorem Aborts.placed_jobs {jobs extra : List Job} {r : AbortReason} {slots : BranchId → List Nat} {gone : BranchId → Nat → Bool}
    (ha : Aborts s u jobs r slots gone extra) (h : Placed J s.places) (hd : TagsDistinct s) (hagent : u.agent = s.agent)
    (hstore : u.store = s.store) (hlanes : ∀ b, (s.branch b).lane.Drops (u.branch b).lane (· ∈ slots b) (gone b))
    (hextra : ∀ k, J k ↔ ∃ j ∈ extra, j.slot = k) : Placed (fun k => ∃ j ∈ jobs, j.slot = k) u.places := by
  obtain ⟨htable, -, hup⟩ := ha.frame
  rw [ha.jobs]
  exact (h.withdraw (.of_losing htable hagent hstore hup hlanes)).jobs (hd.of_losing htable) (fun k => mem_eachOf.symm) hextra

theorem Branch.listing_lane (x : Branch) (fs : List FailsafeItem) : (x.listing fs).lane = x.lane := by
  unfold Branch.listing
  split <;> rfl

theorem Placed.failsafe_drops (h : Placed J s.places) (cause : EntryCause) (b : BranchId) :
    (s.branch b).lane.Drops ((s.failsafeEntry cause).1.branch b).lane (· ∈ s.slotsClaimed b) (s.branch b).shareClaimed := by
  rw [State.failsafeEntry_branch, Branch.listing_lane, Branch.withdrawn]
  have honce := (h.tidy.lanes b).once
  have hqueued := fun k => h.held_not_queued (b := b) (k := k)
  have hqueue (k : Nat) : .station k ∈ (s.branch b).queue.filter (fun q => !takesItem s.writes q)
      ↔ .station k ∈ (s.branch b).queue ∧ k ∉ s.slotsClaimed b := by
    rw [List.mem_filter, State.mem_slotsClaimed]
    refine and_congr_right fun hq => ?_
    cases hk : s.writes k <;> simp [takesItem, hk, hq]
  have hshares (k : Nat) : .share k ∉ (s.branch b).queue.filter fun q => !takesItem s.writes q := by simp [takesItem]
  by_cases htake : (s.branch b).claimOn s.writes = .takeAway
  · obtain ⟨hg, hbound⟩ := Branch.claimOn_takeAway.1 htake
    rw [show (s.branch b).claimOn (claimedIn s.table.requests) = .takeAway from htake]
    refine ⟨List.filter_sublist, .inl rfl, hqueue, fun k => ?_, fun k => ?_, fun k hk => ?_⟩
    · refine iff_of_false nofun fun ⟨hk, hnot⟩ => hnot (State.mem_slotsClaimed.2 ?_)
      have hk := Branch.lane_holds_station.1 hk
      obtain ⟨j, hj, hw⟩ | ⟨j, hj⟩ := hbound
      · rw [hk] at hj
        cases hj
        exact ⟨hw, .inr ⟨hk, hg⟩⟩
      · rw [hk] at hj
        cases hj
    · refine iff_of_false (fun hk => hk.elim (hshares k) nofun) fun ⟨hk, hnot⟩ => ?_
      rw [Branch.lane_holds_share] at hk
      simp only [Branch.shareClaimed, hg, Bool.or_eq_false_iff, beq_self_eq_true, Bool.true_and] at hnot
      obtain hk | hk := hk
      · have := List.contains_iff_mem.2 hk
        exact absurd (this.symm.trans hnot.1) nofun
      · rw [hk, beq_self_eq_true] at hnot
        cases hnot.2
    · exact (State.mem_slotsClaimed.1 hk).2.imp_right fun h => Branch.lane_holds_station.2 h.1
  · have hlane : (({ s.branch b with queue := (s.branch b).queue.filter fun q => !takesItem s.writes q } : Branch).afterClaim
        (s.branchSettings b).enabled ((s.branch b).claimOn s.writes)).lane
        = { (s.branch b).lane with queue := (s.branch b).queue.filter fun q => !takesItem s.writes q } := by
      cases hc : (s.branch b).claimOn s.writes with
      | takeAway => exact absurd hc htake
      | leave | mark => rfl
    refine Eq.subst (motive := fun l => (s.branch b).lane.Drops l _ _) hlane.symm
      ⟨List.filter_sublist, .inr ⟨rfl, rfl⟩, hqueue, fun k => ?_, fun k => ?_, fun k hk => ?_⟩
    · refine (and_iff_left_of_imp fun hk hmem => ?_).symm
      have hk := Branch.lane_holds_station.1 hk
      obtain ⟨hw, hq | ⟨-, hg⟩⟩ := State.mem_slotsClaimed.1 hmem
      · exact hqueued k hk hq
      · exact htake (Branch.claimOn_takeAway.2 ⟨hg, .inl ⟨k, hk, hw⟩⟩)
    · refine ⟨fun hk => ?_, fun ⟨hk, hnot⟩ => ?_⟩
      · have hheld := hk.resolve_left (hshares k)
        refine ⟨.inr hheld, Bool.eq_false_iff.2 fun hclaimed => ?_⟩
        rw [Branch.shareClaimed, Bool.or_eq_true, Bool.and_eq_true, beq_iff_eq, List.contains_iff_mem] at hclaimed
        obtain hq | ⟨hg, -⟩ := hclaimed
        · exact honce k hheld hq
        · exact htake (Branch.claimOn_takeAway.2 ⟨hg, .inr ⟨k, Branch.lane_holds_share.1 hheld⟩⟩)
      · refine .inr (hk.resolve_left fun hq => ?_)
        have := List.contains_iff_mem.2 hq
        rw [Branch.shareClaimed, Bool.or_eq_false_iff] at hnot
        exact absurd (this.symm.trans hnot.1) nofun
    · exact (State.mem_slotsClaimed.1 hk).2.imp_right fun h => Branch.lane_holds_station.2 h.1

/-- Failsafe entry, with the request that brings it on (R115). -/
theorem Placed.failsafeEntry {extra : List Job} (h : Placed J s.places) (hd : TagsDistinct s) (cause : EntryCause)
    (hextra : ∀ k, J k ↔ ∃ j ∈ extra, j.slot = k) :
    Placed (fun k => ∃ j ∈ s.entryJobs cause extra, j.slot = k) (s.failsafeEntry cause).1.places :=
  (s.failsafeEntry_aborts cause extra).placed_jobs h hd (by rw [State.failsafeEntry_frame]) (by rw [State.failsafeEntry_frame])
    (h.failsafe_drops cause) hextra

theorem boundAtCommit_work (s : State) (i : Option BoundItem) : (boundAtCommit s i).bind BoundItem.work = i.bind BoundItem.work := by
  cases i with
  | none => rfl
  | some i => cases i <;> rfl

theorem Placed.commit_drops (h : Placed J s.places) (b : BranchId) : (s.branch b).lane.Drops (s.replaceActive.1.branch b).lane
    (· ∈ s.slotsWithdrawn b) fun k => withdrawn s b && (s.branch b).shareClaimed k := by
  have hlane (x : Branch) : ({ x with bound := boundAtCommit s x.bound } : Branch).lane = x.lane := by
    simp only [Branch.lane, boundAtCommit_work]
  rw [State.replaceActive_branch, Branch.orphaned_eq, hlane]
  have honce := (h.tidy.lanes b).once
  have hbusy := (h.tidy.lanes b).busy
  by_cases hw : withdrawn s b = true
  · obtain ⟨hon, hoff⟩ := withdrawn_iff.1 hw
    rw [hon, hoff, show (s.branch b).committed true false = (s.branch b).disabledBy from rfl]
    have hqueue (k : Nat) : QueueItem.station k ∈ ([] : List QueueItem) ↔ .station k ∈ (s.branch b).queue ∧ k ∉ s.slotsWithdrawn b :=
      iff_of_false nofun fun ⟨hq, hnot⟩ => hnot (State.mem_slotsWithdrawn.2 ⟨hq, hw⟩)
    have hplaced (k : Nat) (hk : k ∈ s.slotsWithdrawn b) : QueueItem.station k ∈ (s.branch b).lane.queue
        ∨ (s.branch b).lane.held = some (.station k) := .inl (State.mem_slotsWithdrawn.1 hk).1
    have hclaimed {k : Nat} (hk : .share k ∈ (s.branch b).queue) : (withdrawn s b && (s.branch b).shareClaimed k) = true := by
      rw [hw, Branch.shareClaimed, List.contains_iff_mem.2 hk]
      rfl
    by_cases hfree : (s.branch b).bound = none ∨ ((s.branch b).state = .guard ∧ ∃ k, (s.branch b).bound = some (.share k))
    · have hempty : (s.branch b).disabledBy.lane.queue = [] ∧ (s.branch b).disabledBy.lane.held = none := by
        obtain hb | ⟨hg, k, hb⟩ := hfree
        · rw [Branch.disabledBy_of_none hb]
          exact ⟨rfl, by simp [Branch.lane, hb]⟩
        · rw [Branch.disabledBy_of_share hb hg]
          exact ⟨rfl, rfl⟩
      obtain ⟨hnil, hnone⟩ := hempty
      refine ⟨by rw [hnil]; exact List.nil_sublist _, .inl hnone, fun k => by rw [hnil]; exact hqueue k, fun k => ?_, fun k => ?_, hplaced⟩
      · rw [hnone]
        refine iff_of_false nofun fun ⟨hk, _⟩ => ?_
        have hk := Branch.lane_holds_station.1 hk
        obtain hb | ⟨-, j, hb⟩ := hfree <;> rw [hb] at hk <;> cases hk
      · rw [hnil, hnone]
        refine iff_of_false (by simp) fun ⟨hk, hnot⟩ => ?_
        obtain hk | hk := hk
        · exact absurd ((hclaimed hk).symm.trans hnot) nofun
        · have hk := Branch.lane_holds_share.1 hk
          obtain hb | ⟨hg, -⟩ := hfree
          · rw [hb] at hk
            cases hk
          · simp [hw, Branch.shareClaimed, hg, hk] at hnot
    · rw [not_or] at hfree
      obtain ⟨hbound, hshare⟩ := hfree
      have hdisabled := Branch.disabledBy_of_bound hbound (by
        by_cases hg : (s.branch b).state = .guard
        · exact .inr fun k hk => hshare ⟨hg, k, hk⟩
        · exact .inl hg)
      rw [hdisabled]
      refine ⟨List.nil_sublist _, .inr ⟨rfl, rfl⟩, hqueue, fun k => ?_, fun k => ?_, hplaced⟩
      · refine (and_iff_left_of_imp fun hk hmem => ?_).symm
        exact h.held_not_queued (Branch.lane_holds_station.1 hk) (State.mem_slotsWithdrawn.1 hmem).1
      · refine ⟨fun hk => ?_, fun ⟨hk, hnot⟩ => ?_⟩
        · have hheld : (s.branch b).lane.held = some (.share k) := hk.resolve_left nofun
          refine ⟨.inr hheld, Bool.eq_false_iff.2 fun hclaim => ?_⟩
          rw [Bool.and_eq_true, Branch.shareClaimed, Bool.or_eq_true, Bool.and_eq_true, beq_iff_eq, List.contains_iff_mem] at hclaim
          obtain ⟨-, hq | ⟨hg, -⟩⟩ := hclaim
          · exact honce k hheld hq
          · exact hshare ⟨hg, k, Branch.lane_holds_share.1 hheld⟩
        · exact .inr (hk.resolve_left fun hq => absurd ((hclaimed hq).symm.trans hnot) nofun)
  · have hnot : withdrawn s b = false := Bool.eq_false_iff.2 hw
    have hsame : ((s.branch b).committed (s.branchSettings b).enabled (s.shadow.settings.branch.get b).enabled).lane.queue
          = (s.branch b).lane.queue
        ∧ ((s.branch b).committed (s.branchSettings b).enabled (s.shadow.settings.branch.get b).enabled).lane.held
          = (s.branch b).lane.held
        ∧ ((s.branch b).lane.held = none
          ∨ ((s.branch b).committed (s.branchSettings b).enabled (s.shadow.settings.branch.get b).enabled).lane.state
            = (s.branch b).lane.state) := by
      unfold Branch.committed
      split
      · rename_i hon hoff
        rw [withdrawn_iff.2 ⟨hon, hoff⟩] at hnot
        cases hnot
      · unfold Branch.enabledBy
        split
        · rename_i hdisabled
          refine ⟨rfl, rfl, .inl (by_contra fun hne => ?_)⟩
          have := hbusy hne
          simp [Branch.lane, hdisabled] at this
        · exact ⟨rfl, rfl, .inr rfl⟩
      · exact ⟨rfl, rfl, .inr rfl⟩
    obtain ⟨hq, hheld, hstate⟩ := hsame
    have hnone (k : Nat) : k ∉ s.slotsWithdrawn b := by simp [State.slotsWithdrawn, hnot]
    refine ⟨by rw [hq], hstate.imp (fun h => hheld.trans h) fun h => ⟨hheld, h⟩, fun k => ?_, fun k => ?_, fun k => ?_,
      fun k hk => absurd hk (hnone k)⟩
    · rw [hq]
      exact (and_iff_left (hnone k)).symm
    · rw [hheld]
      exact (and_iff_left (hnone k)).symm
    · rw [hq, hheld, hnot]
      exact (and_iff_left rfl).symm

/-- A commit, with the request that brings it on (R37). -/
theorem Placed.replaceActive {extra : List Job} (h : Placed J s.places) (hd : TagsDistinct s)
    (hextra : ∀ k, J k ↔ ∃ j ∈ extra, j.slot = k) :
    Placed (fun k => ∃ j ∈ s.commitJobs extra, j.slot = k) s.replaceActive.1.places :=
  (s.replaceActive_aborts extra).placed_jobs h hd (by rw [State.replaceActive_frame]) (by rw [State.replaceActive_frame])
    h.commit_drops hextra

end Sys2Proof.Machine
end

section
/-! PROOFS. Admission, the agent's work and the end of a transmission keep each entry in its place (R2, R10, R14, R18, R54 to R57). -/

namespace Sys2Proof.Machine

variable {J : Nat → Prop} {p : Places} {s : State} {b : BranchId} {k : Nat} {e : Entry}

/-! ### Admission -/

theorem State.places_allocate (hfree : s.table.slotFree e.slot = true) : (s.allocate e).places = s.places.put e.slot e :=
  Places.ext (fun j => s.table.find?_allocate e j hfree) (fun _ => rfl) rfl rfl rfl rfl rfl

theorem Table.find?_of_slotFree {x : Table} (h : x.slotFree k = true) : x.find? k = none := by
  refine List.find?_eq_none.2 fun y hy => ?_
  simpa using Table.slotFree_iff.1 h y hy

theorem freshEntry_formed (slot : Nat) (f : Frame) (now : Millis) : (freshEntry slot f .manage .manage now).formed :=
  ⟨nofun, nofun, fun _ => ⟨rfl, rfl, rfl, nofun, nofun⟩, fun _ => rfl, fun _ => ⟨rfl, rfl⟩, nofun⟩

theorem stationEntry_formed (slot : Nat) (f : Frame) {kind : ReqKind} (hk : kind ≠ .manage) (r : StationRecord) (now : Millis) :
    (stationEntry slot f kind r now).formed :=
  ⟨fun _ => ⟨rfl, rfl, rfl, hk, nofun, nofun⟩, nofun, nofun, fun _ => rfl, fun _ => ⟨rfl, rfl⟩, nofun⟩

theorem broadcastEntry_formed (slot : Nat) (f : Frame) (el : Quad Bool) (now : Millis) : (broadcastEntry slot f el now).formed :=
  ⟨nofun, fun _ => ⟨rfl, rfl, nofun, nofun, nofun, rfl⟩, nofun, nofun, fun _ => ⟨rfl, rfl⟩, nofun⟩

theorem Lane.Tidy.enqueue {l : Lane} {q : QueueItem} (h : l.Tidy) (hq : q ∉ l.queue) (hheld : l.held ≠ some q) :
    ({ l with queue := l.queue ++ [q] } : Lane).Tidy := by
  refine ⟨List.nodup_append.2 ⟨h.nodup, List.nodup_singleton q, fun x hx y hy hxy => ?_⟩, fun k hk hmem => ?_, h.sends, h.busy⟩
  · rw [List.mem_singleton.1 hy] at hxy
    exact hq (hxy ▸ hx)
  · obtain hmem | hmem := List.mem_append.1 hmem
    · exact h.once k hk hmem
    · exact hheld (List.mem_singleton.1 hmem ▸ hk)

theorem Places.names_enqueue (p : Places) (b : BranchId) (k : Nat) (pl : Place) (j : Nat) :
    (p.setLane b { p.lane b with queue := (p.lane b).queue ++ [.station k] }).names pl j
      ↔ p.names pl j ∨ (pl = .queue b ∧ j = k) := by
  have hlane (c : BranchId) : (p.setLane b { p.lane b with queue := (p.lane b).queue ++ [.station k] }).lane c
      = if c = b then { p.lane b with queue := (p.lane b).queue ++ [.station k] } else p.lane c := rfl
  cases pl with
  | queue c | line c | share c =>
    simp only [Places.names, hlane]
    split
    · rename_i hc
      subst hc
      simp
    · simp [*]
  | _ => simp [Places.names, Places.setLane]

theorem Placed.admitsStation {r : Route} (h : Placed J p) (hfree : p.entry k = none) (hslot : e.slot = k) (hformed : e.formed)
    (ho : e.origin = .station) (hs : e.state = .queued) (hr : e.route = some r) : Placed J
    ((p.put k e).setLane r.branch { p.lane r.branch with queue := (p.lane r.branch).queue ++ [.station k] }) := by
  have happeared := h.appears hfree hslot hformed (by rw [hs]; rfl)
  have hlane := (h.tidy.lanes r.branch).enqueue (q := .station k) (h.unnamed_of_free hfree (.queue r.branch))
    (h.unnamed_of_free hfree (.line r.branch))
  have harrived := happeared.arrives (q := (p.put k e).setLane r.branch
      { p.lane r.branch with queue := (p.lane r.branch).queue ++ [.station k] }) (.inr rfl) (p.put_entry_self k e)
    (Entry.standsAt_queue ho hs hr) (happeared.tidy.setLane hlane) (fun _ _ => rfl)
    (fun pl j => Places.names_enqueue (p.put k e) r.branch k pl j)
  exact harrived.congr fun j => ⟨fun hj => ⟨.inl hj, fun hjk => h.free_not_pending hfree (hjk ▸ hj)⟩,
    fun ⟨hj, hne⟩ => hj.resolve_right hne⟩

theorem Placed.admitsManage (h : Placed J p) (hfree : p.entry k = none) (hslot : e.slot = k) (hformed : e.formed)
    (ho : e.origin = .manage) (hs : e.state = .queued) : Placed J { p.put k e with agent := p.agent ++ [k] } := by
  have happeared := h.appears hfree hslot hformed (by rw [hs]; rfl)
  have htidy : ({ p.put k e with agent := p.agent ++ [k] } : Places).Tidy := { happeared.tidy with
    agent := List.nodup_append.2 ⟨h.tidy.agent, List.nodup_singleton k, fun x hx y hy hxy => by
      rw [List.mem_singleton.1 hy] at hxy
      exact h.unnamed_of_free hfree .agent (hxy ▸ hx)⟩ }
  have harrived := happeared.arrives (q := { p.put k e with agent := p.agent ++ [k] }) (.inr rfl) (p.put_entry_self k e)
    (Entry.standsAt_agent ho hs) htidy (fun _ _ => rfl) (fun pl j => by cases pl <;> simp [Places.names, Places.put])
  exact harrived.congr fun j => ⟨fun hj => ⟨.inl hj, fun hjk => h.free_not_pending hfree (hjk ▸ hj)⟩,
    fun ⟨hj, hne⟩ => hj.resolve_right hne⟩

/-- A broadcast with a share at the tail of the queue of each pending branch (R57). -/
theorem Placed.admitsBroadcast {q : Places} {x : BroadcastSets} (h : Placed J p) (hfree : p.entry k = none) (hslot : e.slot = k)
    (hformed : e.formed) (ho : e.origin = .broadcast) (hs : e.state = .spreading) (hx : e.sets = some x)
    (hpending : emptySet x.pending = false) (hrest : q = { p.put k e with lane := q.lane })
    (hlane : ∀ b, q.lane b = if x.pending.get b then { p.lane b with queue := (p.lane b).queue ++ [.share k] } else p.lane b) :
    Placed J q := by
  have happeared := h.appears hfree hslot hformed (by rw [hs]; rfl)
  have hentry : q.entry = (p.put k e).entry := by rw [hrest]
  have hself : q.entry k = some e := by rw [hentry, Places.put_entry_self]
  have hnames (pl : Place) (j : Nat) : q.names pl j ↔ p.names pl j ∨ (j = k ∧ e.standsAt pl) := by
    cases pl with
    | queue b | line b =>
      simp only [Places.names, hlane, Entry.standsAt, ho, hs]
      split <;> simp
    | share b =>
      simp only [Places.names, hlane, Entry.standsAt, ho, hs, hx]
      split
      · simp [*, or_right_comm]
      · simp [*]
    | _ =>
      rw [hrest]
      simp [Places.names, Places.put, Entry.standsAt, ho, hs]
  have htidy : q.Tidy := by
    rw [hrest]
    refine { happeared.tidy with lanes := fun b => ?_ }
    rw [hlane]
    split
    · exact (h.tidy.lanes b).enqueue (fun hq => h.unnamed_of_free hfree (.share b) (.inl hq))
        fun hheld => h.unnamed_of_free hfree (.share b) (.inr hheld)
    · exact h.tidy.lanes b
  have hk := h.free_not_pending hfree
  refine h.move k htidy (fun j hj => by rw [hentry, p.put_entry_other e hj]) (fun _ _ => Iff.rfl) (fun pl j hj => by simp [hnames, hj])
    (fun pl => ?_) (fun hJ => absurd hJ hk) fun y hy hspread => ?_
  · rw [hnames, or_iff_right (h.unnamed_of_free hfree pl)]
    simp [hself, hk]
  · rw [hself, Option.some_inj] at hy
    obtain ⟨-, z, hz, hempty⟩ := Entry.spreadOut_iff_exists.1 (hy ▸ hspread)
    rw [hx, Option.some_inj] at hz
    rw [← hz, hpending] at hempty
    cases hempty

theorem State.takeToken_places (s : State) (r : StationRecord) : (s.takeToken r).places = s.places := by
  rw [State.takeToken_frame]
  rfl

theorem State.enqueue_places (s : State) (b : BranchId) (q : QueueItem) : (s.enqueue b q).places
    = s.places.setLane b { s.places.lane b with queue := (s.places.lane b).queue ++ [q] } := s.places_setBranch b _

theorem State.spread_places (s : State) (slot : Nat) (el : Quad Bool) :
    (BranchId.all.foldl (fun t b => t.enqueueShare slot el b) s).places
      = { s.places with lane := (BranchId.all.foldl (fun t b => t.enqueueShare slot el b) s).places.lane } := by
  simp only [BranchId.all, List.foldl_cons, List.foldl_nil, State.enqueueShare_eq]
  rfl

theorem State.serveNext_places (s : State) : s.serveNext.places = s.places := by
  rw [State.serveNext_frame]
  unfold State.serveNext
  split <;> rfl

theorem State.enqueueAgent_places (s : State) (k : Nat) :
    (s.enqueueAgent k).places = { s.places with agent := s.places.agent ++ [k] } := by
  unfold State.enqueueAgent
  dsimp only
  split
  · rw [State.serveNext_places]
    rfl
  · rfl

theorem State.refuse_places (s : State) (f : Frame) (r : RefusalReason) : (s.refuse f r).places = s.places
    ∨ ∃ i : OutItem, i.note.slot? = none ∧ (s.refuse f r).places = { s.places with out := s.places.out ++ [i] } := by
  unfold State.refuse
  split
  · refine .inr ⟨{ frame := refusedFrame f r, note := .refusal }, rfl, Places.ext (fun _ => rfl) (fun _ => rfl) rfl rfl rfl rfl ?_⟩
    exact Upstream.append_queue s.up _
  · exact .inl rfl

theorem Placed.refuse (h : Placed J s.places) (f : Frame) (r : RefusalReason) : Placed J (s.refuse f r).places := by
  obtain hsame | ⟨i, hi, hplaces⟩ := s.refuse_places f r
  · rw [hsame]
    exact h
  · rw [hplaces]
    have hnames (pl : Place) (j : Nat) : ({ s.places with out := s.places.out ++ [i] } : Places).names pl j ↔ s.places.names pl j := by
      cases pl <;> simp [Places.names, List.filterMap_append, hi]
    exact ⟨h.tidy.outAppend (by simp [hi]) (by simp [hi]), fun pl j => (hnames pl j).trans (h.law pl j), h.pending, h.spread⟩

theorem Placed.admission (h : Placed J s.places) (f : Frame) : Placed J (s.admission f).places := by
  unfold State.admission
  have hadmitted := s.judge_admitted f
  generalize s.judge f = v at hadmitted
  cases hadmitted with
  | discard => exact h
  | refuse r => exact h.refuse f r
  | @station r kind slot hjudge hk hn =>
    obtain ⟨-, -, -, hlowest, -⟩ := State.judgeStation_admits hjudge
    obtain ⟨-, hfree⟩ := Table.lowestFree_spec hlowest
    refine Placed.settle ?_
    have hfree' : (s.takeToken r).table.slotFree slot = true := by
      rw [State.takeToken_frame]
      exact hfree
    rw [State.enqueue_places, State.places_allocate (e := stationEntry slot f kind r s.clock.ms) hfree', State.takeToken_places]
    exact h.admitsStation (r := { branch := r.branch, timeout := r.timeout, retries := r.retries }) (Table.find?_of_slotFree hfree) rfl
      (stationEntry_formed slot f hk r s.clock.ms) rfl rfl rfl
  | @manage slot hjudge =>
    obtain ⟨-, hlowest, -⟩ := State.judgeManage_admits hjudge
    obtain ⟨-, hfree⟩ := Table.lowestFree_spec hlowest
    rw [State.carryOut, State.enqueueAgent_places, State.places_allocate (e := freshEntry slot f .manage .manage s.clock.ms) hfree]
    exact h.admitsManage (Table.find?_of_slotFree hfree) rfl (freshEntry_formed slot f s.clock.ms) rfl rfl
  | @broadcast slot hjudge hn =>
    obtain ⟨-, -, -, hlowest, -⟩ := State.judgeBroadcast_admits hjudge
    obtain ⟨-, hfree⟩ := Table.lowestFree_spec hlowest
    have heligible : emptySet s.eligibleSet = false := by
      unfold State.judgeBroadcast at hjudge
      repeat' (split at hjudge <;> try cases hjudge)
      exact Bool.eq_false_iff.2 ‹_›
    refine Placed.settle (h.admitsBroadcast (k := slot) (e := broadcastEntry slot f s.eligibleSet s.clock.ms)
      (x := { pending := s.eligibleSet, sent := Quad.same false, notSent := Quad.same false })
      (Table.find?_of_slotFree hfree) rfl (broadcastEntry_formed slot f s.eligibleSet s.clock.ms) rfl rfl rfl heligible ?_ fun b => ?_)
    · refine (State.spread_places _ slot s.eligibleSet).trans ?_
      rw [State.places_allocate (e := broadcastEntry slot f s.eligibleSet s.clock.ms) hfree]
      rfl
    · have hbranch : (BranchId.all.foldl (fun t b => t.enqueueShare slot s.eligibleSet b)
          (s.allocate (broadcastEntry slot f s.eligibleSet s.clock.ms))).branch b
          = if s.eligibleSet.get b then { s.branch b with queue := (s.branch b).queue ++ [.share slot] } else s.branch b := by
        simp only [BranchId.all, List.foldl_cons, List.foldl_nil, State.enqueueShare_branch, State.allocate_branch]
        cases b <;> simp
      rw [State.places_lane, hbranch]
      dsimp only
      split <;> rfl

end Sys2Proof.Machine
end

section
/-! PROOFS. The agent's takes, the ends of store operations, of transmissions and of starts keep each entry in its place (R12, R14,
R18, R138 to R141, R163 to R166). -/

namespace Sys2Proof.Machine

variable {J : Nat → Prop} {p q : Places} {s : State} {k : Nat} {e : Entry}

/-! ### The agent queue and the WORKING entry -/

/-- The head of the agent queue is taken for its operation. -/
theorem Placed.headTaken {rest : List Nat} (h : Placed Nothing s.places) (hq : s.agent.queue = k :: rest) :
    Placed (· = k) s.headTaken.places := by
  have hnodup := h.tidy.agent
  have htail : s.places.agent = k :: rest := hq
  rw [htail, List.nodup_cons] at hnodup
  have hplaces : s.headTaken.places = { s.places with agent := rest } :=
    Places.ext (fun _ => rfl) (fun _ => rfl) (congrArg List.tail hq) rfl rfl rfl rfl
  have hleft := h.leaves (q := s.headTaken.places) (k := k) (target := .agent) (by simp [Places.names, htail]) rfl ⟨nofun, nofun⟩
    (by rw [hplaces]; exact { h.tidy with agent := hnodup.2 }) rfl fun pl j => by
      rw [hplaces]
      cases pl with
      | agent =>
        simp only [Places.names, htail, List.mem_cons, true_and]
        exact ⟨fun hj => ⟨.inr hj, fun hjk => hnodup.1 (hjk ▸ hj)⟩, fun hj => hj.1.resolve_left hj.2⟩
      | _ => simp [Places.names]
  exact hleft.congr fun j => (or_iff_right id).symm

/-- An operation that goes on leaves its entry WORKING, with the store busy for it (R141). -/
theorem Placed.leftWorking {w : Working} {b : Busy} (h : Placed (· = w.slot) p) (he : p.entry w.slot = some e) (ho : e.origin = .manage)
    (hs : e.state = .queued) (hidle : p.busy = .idle)
    (hb : b = match w.op with | .save => .saving w.image | .retire => .retiring w.image) :
    Placed Nothing { p.put w.slot { e with state := .working } with working := some w, busy := b } := by
  have hnone : p.working = none := by
    cases hw : p.working with
    | none => rfl
    | some v =>
      have hbusy := h.tidy.store v hw
      rw [hidle] at hbusy
      cases hop : v.op <;> simp [hop] at hbusy
  obtain ⟨hslot, hformed⟩ := h.tidy.entries _ e he
  have hworking : ({ e with state := .working } : Entry).formed := by
    obtain ⟨-, -, hmanage, -, hopen, -⟩ := hformed
    obtain ⟨hkind, hstation, hsets, -, -⟩ := hmanage ho
    refine ⟨fun h => ?_, fun h => ?_, fun _ => ⟨hkind, hstation, hsets, nofun, nofun⟩, nofun, fun _ => hopen (by rw [hs]; rfl), nofun⟩
    · rw [show e.origin = .station from h] at ho
      cases ho
    · rw [show e.origin = .broadcast from h] at ho
      cases ho
  have hedited := h.editPending (e := { e with state := .working }) rfl hslot hworking rfl
  have harrived := hedited.arrives (q := { p.put w.slot { e with state := .working } with working := some w, busy := b }) rfl
    (p.put_entry_self _ _) (Entry.standsAt_working ho rfl)
    { hedited.tidy with store := fun v hv => by cases hv; exact hb } (fun _ _ => rfl) fun pl j => by
      cases pl <;> simp [Places.names, Places.put, hnone, eq_comm]
  exact harrived.congr fun j => (iff_of_false id fun hj => hj.2 hj.1)

/-- The store's operation ends, and the entry that it worked for, if there is one, is left for the event to complete. -/
theorem Placed.workEnds (h : Placed Nothing p) : Placed (fun k => ∃ w, p.working = some w ∧ w.slot = k)
    { p with working := none, busy := .idle } := by
  have htidy : ({ p with working := none, busy := .idle } : Places).Tidy := { h.tidy with store := nofun }
  cases hw : p.working with
  | none =>
    have hnames (pl : Place) (j : Nat) : ({ p with working := none, busy := .idle } : Places).names pl j ↔ p.names pl j := by
      cases pl <;> simp [Places.names, hw]
    have hplaced : Placed Nothing { p with working := none, busy := .idle } :=
      ⟨htidy, fun pl j => (hnames pl j).trans (h.law pl j), h.pending, h.spread⟩
    exact hplaced.congr fun j => (iff_of_false nofun id)
  | some w =>
    have hleft := h.leaves (q := { p with working := none, busy := .idle }) (k := w.slot) (target := .working) ⟨w, hw, rfl⟩ rfl
      ⟨nofun, nofun⟩ htidy rfl fun pl j => by
        cases pl <;> simp [Places.names, hw, eq_comm]
    refine hleft.congr fun j => ?_
    simp [Nothing, eq_comm]

theorem Placed.workingDone {r : Result} {image : Nat} (h : Placed Nothing s.places) {st : Store} (hidle : st.busy = .idle) :
    Placed Nothing (State.workingDone { s with store := st } r image).places := by
  have hended := h.workEnds
  unfold State.workingDone
  cases hw : s.agent.working with
  | none =>
    have hw' : s.places.working = none := hw
    have hplaces : State.places { s with store := st } = { s.places with working := none, busy := .idle } :=
      Places.ext (fun _ => rfl) (fun _ => rfl) rfl hw hidle rfl rfl
    simp only [hw', reduceCtorEq, false_and, exists_false] at hended
    rw [hplaces]
    exact hended
  | some w =>
    have hw' : s.places.working = some w := hw
    refine Placed.completeAll ?_
    have hplaces : State.places { s with store := st, agent := { s.agent with working := none } }
        = { s.places with working := none, busy := .idle } := Places.ext (fun _ => rfl) (fun _ => rfl) rfl rfl hidle rfl rfl
    simp only [hw', Option.some_inj, exists_eq_left'] at hended
    refine (hplaces ▸ hended).congr fun j => ?_
    simp [managedJob]

/-! ### Starts (R164, R166) -/

theorem Placed.ofStart {s : State} (htable : s.table.entries = []) (hreturning : s.table.returning = [])
    (hqueue : ∀ b, (s.branch b).queue = []) (hbound : ∀ b, (s.branch b).bound = none) (hagent : s.agent.queue = [])
    (hworking : s.agent.working = none) (hout : s.up.queue = []) : Placed Nothing s.places := by
  have hentry (j : Nat) : s.places.entry j = none := by simp [Table.find?, htable]
  have hlane (b : BranchId) : s.places.lane b = { queue := [], held := none, state := (s.branch b).state } := by
    rw [State.places_lane, Branch.lane, hqueue, hbound]
    rfl
  have hagent : s.places.agent = [] := hagent
  have hworking : s.places.working = none := hworking
  have hreturning : s.places.returning = [] := hreturning
  have hout : s.places.out = [] := hout
  refine ⟨⟨fun k e he => ?_, fun b => ?_, hagent ▸ .nil, fun w hw => ?_, hreturning ▸ .nil, ?_, fun i hi => ?_⟩,
    fun pl k => iff_of_false (fun hn => ?_) (fun hs => ?_), nofun, fun k e he => ?_⟩
  · rw [hentry] at he; cases he
  · rw [hlane]
    exact ⟨.nil, nofun, nofun, fun h => absurd rfl h⟩
  · rw [hworking] at hw; cases hw
  · rw [hout]; exact .nil
  · rw [hout] at hi; cases hi
  · cases pl <;> simp [Places.names, -State.places_lane, hlane, hagent, hworking, hreturning, hout] at hn
  · obtain ⟨-, x, hx, -⟩ := hs
    rw [hentry] at hx; cases hx
  · rw [hentry] at he; cases he

theorem Placed.coldStarted (s : State) : Placed Nothing s.coldStarted.places := by
  have hb (b : BranchId) := s.coldStarted_branch b
  exact .ofStart rfl rfl (fun b => by rw [hb]; rfl) (fun b => by rw [hb]; rfl) rfl rfl rfl

theorem Placed.warmStarted (s : State) : Placed Nothing s.warmStarted.places := by
  have hb (b : BranchId) := s.warmStarted_branch b
  exact .ofStart rfl rfl (fun b => by rw [hb]; rfl) (fun b => by rw [hb]; rfl) rfl rfl rfl

/-! ### The end of a transmission (R14, R18, R131) -/

theorem Placed.itemGone {i : OutItem} {rest : List OutItem} (h : Placed J s.places) (hq : s.up.queue = i :: rest) :
    Placed J (s.itemGone.release i.note).places := by
  have hframe : (s.itemGone.release i.note).places
      = { s.places with entry := (s.itemGone.release i.note).places.entry, out := rest } := by
    have hout : s.itemGone.up.queue = rest := congrArg List.tail hq
    cases hn : i.note <;> exact Places.ext (fun _ => rfl) (fun _ => rfl) rfl rfl rfl rfl hout
  exact h.sent (p := s.places) hq hframe fun j => s.itemGone.release_find? i.note j

theorem Placed.promote (h : Placed J s.places) : Placed J s.promote.places := by
  cases hr : s.table.returning with
  | nil =>
    rw [State.promote_nothing hr]
    exact h
  | cons k rest =>
    obtain ⟨-, e, he, hst⟩ := h.entry_of_names (pl := .returning) (k := k) (by simp [Places.names, State.places, hr])
    obtain ⟨hslot, -, -, -, -, -, hclosed⟩ := h.tidy.entries k e he
    obtain ⟨f, hf⟩ := Option.isSome_iff_exists.1 (hclosed (by rw [show e.state = .returning from hst]; rfl)).1
    rw [State.promote_answered hr he hf]
    have hnote := releaseNote_slot? e f
    rw [hslot] at hnote
    have hpromoted := h.promotes hr he (i := { frame := f, note := releaseNote e f }) hnote hf
    refine (congrArg (Placed J) ?_).mpr hpromoted
    refine Places.ext (fun j => ?_) (fun _ => rfl) rfl rfl rfl rfl ?_
    · refine (Table.find?_update s.table k j (fun e => { e with state := .outbound }) fun _ => rfl).trans ?_
      rw [show s.table.find? k = some e from he]
      rfl
    · exact Upstream.append_queue s.up _

theorem Placed.transmitted {i : OutItem} {rest : List OutItem} (h : Placed Nothing s.places) (hq : s.up.queue = i :: rest)
    (hl : (s.transmitted i).live = true) : Placed Nothing (s.transmitted i).places := by
  rw [State.transmitted_eq] at hl ⊢
  have hsent : (s.sent i).places = (s.itemGone.release i.note).promote.places := by
    unfold State.sent State.startSpacing State.rateChange
    cases i.note <;> rfl
  have hplaced : Placed Nothing (s.sent i).places := hsent ▸ (h.itemGone hq).promote
  revert hl
  unfold State.restarted
  split
  · intro _
    rw [State.warmStart_eq]
    exact (Placed.warmStarted _).settle
  · intro hl
    cases hl
  · exact fun _ => hplaced

end Sys2Proof.Machine
end

section
/-! PROOFS. Every operation of the agent keeps each entry in its place (R12, R36, R122, R138 to R141). -/

namespace Sys2Proof.Machine

variable {s : State} {k : Nat} {act : TakeAction}

/-- The agent has taken the entry of a slot, and nothing else is still to complete. -/
structure Taken (s : State) (k : Nat) : Prop where
  placed : Placed (· = k) s.places
  distinct : TagsDistinct s
  entry : ∃ e, s.table.find? k = some e ∧ e.origin = .manage ∧ e.state = .queued

/-- The action leaves each entry in its place, but for those that it names to complete. -/
def ActionPlaces (act : TakeAction) : Prop :=
  ∀ k args s, Taken s k → Placed (fun j => ∃ i ∈ (act k args s).2, i.slot = j) (act k args s).1.places

/-- The operation alone is answered, and touches no place. -/
theorem Taken.answered (h : Taken s k) {t : State} (ht : t.places = s.places) {jobs : List Job} {i : Job} (hjobs : jobs = [i])
    (hi : i.slot = k) : Placed (fun j => ∃ i ∈ jobs, i.slot = j) t.places := by
  rw [ht]
  refine h.placed.congr fun j => ?_
  simp [hjobs, hi, eq_comm]

theorem Taken.of_same (h : Taken s k) {t : State} (hp : t.places = s.places) (ht : t.table = s.table) : Taken t k :=
  ⟨hp ▸ h.placed, by rw [TagsDistinct, ht]; exact h.distinct, ht ▸ h.entry⟩

theorem takeHead_places (hact : ActionPlaces act) (named : List Octet → Bool) (hd : TagsDistinct s) (h : Placed Nothing s.places) :
    NextHas (fun t => Placed Nothing t.places) (takeHead named act s) := by
  unfold takeHead
  split
  · trivial
  · rename_i k hready
    split
    · trivial
    · rename_i e he
      refine NextHas.guarded fun _ => ?_
      have hqueue : ∃ rest, s.agent.queue = k :: rest := by
        unfold State.takeReady at hready
        (repeat' split at hready) <;> cases hready
        exact ⟨_, ‹_›⟩
      obtain ⟨rest, hq⟩ := hqueue
      obtain ⟨-, e', he', ho, hs⟩ := h.entry_of_names (pl := .agent) (k := k) (by simp [Places.names, State.places, hq])
      have htaken : Taken s.headTaken k := ⟨h.headTaken hq, hd, e', he', ho, hs⟩
      show Placed Nothing (State.serveNext _).places
      rw [State.serveNext_places]
      exact (hact k _ _ htaken).completeAll

theorem State.sampleCfgen_places (s : State) : s.sampleCfgen.2.places = s.places ∧ s.sampleCfgen.2.table = s.table := by
  unfold State.sampleCfgen
  split <;> exact ⟨rfl, rfl⟩

theorem guardedAction_places (hact : ActionPlaces act) (op : Op) : ActionPlaces (guardedAction op act) := by
  intro k args s h
  have hsampled := h.of_same s.sampleCfgen_places.1 s.sampleCfgen_places.2
  unfold guardedAction
  split
  · exact h.answered rfl rfl rfl
  · split
    · dsimp only
      split
      · exact hact k args _ hsampled
      · exact hsampled.answered rfl rfl rfl
    · exact hact k args s h

/-- The effect of an operation of one step touches no place. -/
def ReplyPlaces (f : List Octet → State → Reply) : Prop := ∀ args s, (f args s).state.places = s.places

theorem ReplyPlaces.of_same {f : List Octet → State → Reply} (hf : ∀ args s, (f args s).state = s) : ReplyPlaces f :=
  fun args s => by rw [hf]

theorem ReplyPlaces.action {f : List Octet → State → Reply} (hf : ReplyPlaces f) (op : Op) : ActionPlaces (oneStep op f) :=
  fun _ args u hu => hu.answered (hf args u) rfl rfl

theorem badOperationAction_places (payload : List Octet) : ActionPlaces (badOperationAction payload) := by
  intro k args s h
  cases payload <;> exact h.answered rfl rfl rfl

theorem putSettings_places : ReplyPlaces putSettings := by
  intro args s
  unfold putSettings
  split <;> rfl

theorem putStation_places : ReplyPlaces putStation := by
  intro args s
  unfold putStation
  (repeat' split) <;> rfl

theorem dropStation_places : ReplyPlaces dropStation := by
  intro args s
  unfold dropStation
  (repeat' split) <;> rfl

theorem revertShadow_places : ReplyPlaces revertShadow := by
  intro args s
  cases args <;> rfl

theorem clearShadow_places : ReplyPlaces clearShadow := by
  intro args s
  cases args <;> rfl

theorem getChanges_places : ReplyPlaces getChanges := by
  intro args s
  unfold getChanges
  (repeat' split) <;> rfl

theorem resume_places : ReplyPlaces resume := by
  intro args s
  unfold resume
  (repeat' split) <;> rfl

theorem restart_places : ReplyPlaces restart := by
  intro args s
  unfold restart
  (repeat' split) <;> rfl

theorem Places.setLane_lane (p : Places) (b : BranchId) : p.setLane b (p.lane b) = p := by
  refine Places.ext (fun _ => rfl) (fun c => ?_) rfl rfl rfl rfl rfl
  by_cases hc : c = b
  · rw [hc, Places.setLane_self]
  · exact p.setLane_other _ hc

theorem State.clearBranch_places (s : State) (b : BranchId) : (s.clearBranch b).places = s.places := by
  rw [State.clearBranch, State.places_setBranch]
  exact s.places.setLane_lane b

theorem State.clearGroup_places (s : State) (g : CounterGroup) : (s.clearGroup g).places = s.places := by
  cases g with
  | upstream | transactions => rfl
  | branch b => exact s.clearBranch_places b
  | all => exact foldl_frame (f := State.clearBranch) (v := State.places) State.clearBranch_places BranchId.all s

theorem clearCounters_places : ReplyPlaces clearCounters := by
  intro args s
  unfold clearCounters
  split
  · split
    · rfl
    · exact s.clearGroup_places _
  · rfl

theorem commitAction_places : ActionPlaces commitAction := by
  intro k args s h
  unfold commitAction
  split
  · exact h.answered rfl rfl rfl
  · split
    · exact h.answered rfl rfl rfl
    · split
      · exact h.answered rfl rfl rfl
      · exact (h.placed.replaceActive (extra := [managedJob s k Op.commit.octet .ok [oct s.shadow.stations.length]]) h.distinct
          fun j => by simp [managedJob, eq_comm]).settle

theorem forceFailsafeAction_places : ActionPlaces forceFailsafeAction := by
  intro k args s h
  unfold forceFailsafeAction
  split
  · exact h.answered rfl rfl rfl
  · split
    · exact (h.placed.failsafeEntry (extra := [managedJob s k Op.forceFailsafe.octet .ok _]) h.distinct .forced
        fun j => by simp [managedJob, eq_comm]).settle
    · exact h.answered rfl rfl rfl

/-- An operation of the store that goes on (R157, R159). -/
theorem Taken.leftWorking (h : Taken s k) (hidle : s.store.busy = .idle) {st : Store} {w : Working} (hw : w.slot = k)
    (hb : st.busy = match w.op with | .save => .saving w.image | .retire => .retiring w.image) :
    Placed (fun j => ∃ i ∈ ([] : List Job), i.slot = j) (State.leftWorking { s with store := st } w).places := by
  obtain ⟨hplaced, -, e, he, ho, hs⟩ := h
  subst hw
  have hleft := hplaced.leftWorking he ho hs hidle hb
  have hplaces : (State.leftWorking { s with store := st } w).places
      = { s.places.put w.slot { e with state := .working } with working := some w, busy := st.busy } := by
    refine Places.ext (fun j => ?_) (fun _ => rfl) rfl rfl rfl rfl rfl
    refine (Table.find?_update s.table w.slot j (fun e => { e with state := .working }) fun _ => rfl).trans ?_
    rw [he]
    rfl
  rw [hplaces]
  exact hleft.congr fun j => by simp [Nothing]

theorem saveImageAction_places : ActionPlaces saveImageAction := by
  intro k args s h
  unfold saveImageAction
  split
  · exact h.answered rfl rfl rfl
  · split
    · exact h.answered rfl rfl rfl
    · rename_i hidle
      split
      · exact h.answered rfl rfl rfl
      · exact h.leftWorking (not_not.1 hidle) rfl rfl

theorem retireImageAction_places : ActionPlaces retireImageAction := by
  intro k args s h
  unfold retireImageAction
  split
  · split
    · split
      · exact h.answered rfl rfl rfl
      · rename_i hidle
        split
        · split
          · exact h.leftWorking (not_not.1 hidle) rfl rfl
          · exact h.answered rfl rfl rfl
        · exact h.answered rfl rfl rfl
    · exact h.answered rfl rfl rfl
  · exact h.answered rfl rfl rfl

end Sys2Proof.Machine
end

section
/-! PROOFS. Every event, and every step, leaves each entry in the place that its state names (R2, R4, R5, R8, R10, R12, R14, R18,
R66). -/

namespace Sys2Proof.Machine

variable {s t : State} {b : BranchId} {k : Nat}

/-! ### Octets on a branch (R73, R77, R78, R81, R88) -/

/-- A share is sent and awaits no reply (R76). -/
theorem Placed.no_share (h : Placed Nothing s.places) (hst : (s.branch b).state = .awaiting ∨ (s.branch b).state = .receiving) :
    (s.branch b).bound ≠ some (.share k) := by
  intro hb
  have hsends := (h.tidy.lanes b).sends k (BoundItem.work_share.2 hb)
  obtain hst | hst := hst <;> simp [Branch.lane, hst] at hsends

theorem Placed.lineActivity (h : Placed Nothing s.places) (hd : TagsDistinct s) (b : BranchId) :
    Placed Nothing (s.lineActivity b).places := by
  unfold State.lineActivity
  extract_lets x s1
  split
  · split
    · exact h.enterFault hd (x := x.interrupted) rfl rfl
    · exact h.setBranch rfl rfl (.inl rfl)
  · exact h.setBranch rfl rfl (.inl rfl)
  · exact h.setBranch rfl rfl (.inl rfl)
  · exact h

theorem Placed.branchStarted (h : Placed Nothing s.places) (hd : TagsDistinct s) (b : BranchId) :
    Placed Nothing (s.branchStarted b).places := by
  unfold State.branchStarted
  split
  · rename_i hst
    exact h.setBranch rfl rfl (.inr (.inr (.inr (.inr ⟨.inr rfl, fun k => h.no_share (.inl hst)⟩))))
  · exact h.lineActivity hd b

theorem Placed.branchBroken (h : Placed Nothing s.places) (hd : TagsDistinct s) (b : BranchId) :
    Placed Nothing (s.branchBroken b).places := by
  unfold State.branchBroken
  split
  · exact h.attemptFails (.inr ‹_›) _
  · exact h.lineActivity hd b

theorem Placed.branchValid (h : Placed Nothing s.places) (hd : TagsDistinct s) (b : BranchId) (f : Frame) :
    Placed Nothing (s.branchValid b f).places := by
  unfold State.branchValid
  split
  · exact h.replyReceived ‹_› f
  · have hstray : Placed Nothing (s.setBranch b (s.branch b).countStray).places := h.setBranch rfl rfl (.inl rfl)
    exact hstray.lineActivity hd b

theorem Placed.octetOn (h : Placed Nothing s.places) (hd : TagsDistinct s) (b : BranchId) (o : Octet) :
    Placed Nothing (s.octetOn b o).places := by
  have hrx (r : Receiver) : Placed Nothing (s.setRx b r).places := h.setBranch rfl rfl (.inl rfl)
  unfold State.octetOn
  split
  · exact h
  · exact (hrx _).lineActivity hd b
  · exact (hrx _).branchStarted hd b
  · exact (hrx _).lineActivity hd b
  · exact (hrx _).branchBroken hd b
  · exact (hrx _).branchBroken hd b
  · exact (hrx _).branchValid hd b _

theorem Placed.gapOn (h : Placed Nothing s.places) (b : BranchId) : Placed Nothing (s.gapOn b).places := by
  have hrx : Placed Nothing (s.setRx b .outside).places := h.setBranch rfl rfl (.inl rfl)
  unfold State.gapOn
  extract_lets u
  split
  · rename_i hst
    exact hrx.attemptFails (.inr ((congrArg Branch.state (State.branch_setBranch_self s b _)).trans hst)) _
  · exact hrx

/-! ### Octets on the upstream line -/

theorem Placed.upstreamOctet (h : Placed Nothing s.places) (o : Octet) : Placed Nothing (s.upstreamOctet o).places := by
  unfold State.upstreamOctet
  split
  · exact h
  · exact h
  · exact h
  · exact h
  · exact h
  · exact h
  · unfold State.upstreamValid
    extract_lets s1
    have hs1 : Placed Nothing s1.places := h
    split
    · exact hs1
    · exact hs1.admission _

/-! ### Every event -/

/-- In a live part every entry stands in its place. -/
def State.kept (s : State) : Prop := s.live = true → Placed Nothing s.places

theorem State.kept.of_same (h : s.kept) (hl : t.live = s.live) (hp : t.places = s.places) : t.kept := by
  unfold State.kept
  rw [hl, hp]
  exact h

/-- An event of a live part alone. -/
theorem kept_of_live {r : Refusal} {e : Effect} (hs : s.kept)
    (h : Placed Nothing s.places → NextHas (fun t => Placed Nothing t.places) e) :
    NextHas State.kept (if s.live then e else .refused r) := by
  refine NextHas.guarded fun hl => ?_
  have hnext := h (hs hl)
  cases e with
  | next t => exact fun _ => hnext
  | fault | refused => trivial

/-- A branch of a part held reset takes no octet (R180). -/
theorem LinesFollowStates.rx_off (h : LinesFollowStates s) (hl : s.live = false) (b : BranchId) : (s.branch b).rx = .off :=
  (((linesFollowStates_iff s).1 h b).2.1 hl).2

theorem octetOn_kept (hd : TagsDistinct s) (hlines : LinesFollowStates s) (hs : s.kept) (b : BranchId) (o : Octet) :
    (s.octetOn b o).kept := by
  cases hl : s.live with
  | true => exact fun _ => (hs hl).octetOn hd b o
  | false =>
    have hoff : s.octetOn b o = s := by
      unfold State.octetOn
      rw [hlines.rx_off hl b]
      rfl
    rw [hoff]
    exact hs

theorem upstreamOctet_kept (hs : s.kept) (o : Octet) : (s.upstreamOctet o).kept := fun hl =>
  (hs ((congrArg StatView.live (s.upstreamOctet_statView o)).symm.trans hl)).upstreamOctet o

theorem execBranchGap_kept (hlines : LinesFollowStates s) (hs : s.kept) (b : BranchId) : NextHas State.kept (execBranchGap b s) := by
  refine NextHas.guarded fun hgap => ?_
  cases hl : s.live with
  | true => exact fun _ => (hs hl).gapOn b
  | false =>
    rw [hlines.rx_off hl b] at hgap
    cases hgap

theorem BoundItem.attempted_work (i : BoundItem) (now : Millis) : (i.attempted now).work = i.work := by cases i <;> rfl

theorem execGuardComplete_kept (hs : s.kept) (b : BranchId) : NextHas State.kept (execGuardComplete b s) := by
  refine kept_of_live hs fun h => NextHas.guarded fun _ => ?_
  split
  · trivial
  · rename_i item hb
    split
    · trivial
    · have hsame : (s.countAttempt item).branch b = s.branch b := by rw [State.countAttempt_frame]; rfl
      refine (h.countAttempt hb).setBranch (by rw [hsame]; rfl) ?_ (.inr (.inr (.inr (.inl rfl))))
      rw [hsame, Branch.lane, Branch.lane, hb]
      exact item.attempted_work s.clock.ms

theorem execBranchEndOfSending_kept (hd : TagsDistinct s) (hs : s.kept) (b : BranchId) :
    NextHas State.kept (execBranchEndOfSending b s) := by
  refine kept_of_live hs fun h => NextHas.guarded fun _ => ?_
  have hstopped : Placed Nothing (s.setBranch b (s.branch b).stopSending).places := h.setBranch rfl rfl (.inl rfl)
  split
  · rename_i k hb
    exact hstopped.shareSent hd ((congrArg Branch.bound (State.branch_setBranch_self s b _)).trans hb)
  · rename_i item hshare hb
    show Placed Nothing ((s.setBranch b _).setBranch b _).places
    rw [State.setBranch_setBranch]
    exact h.setBranch rfl rfl (.inr (.inr (.inr (.inr ⟨.inl rfl, fun k hk => hshare k (Option.some.inj (hb.symm.trans hk))⟩))))
  · trivial

theorem execReplyDeadlineExpiry_kept (hs : s.kept) (b : BranchId) : NextHas State.kept (execReplyDeadlineExpiry b s) := by
  refine kept_of_live hs fun h => NextHas.guarded fun _ => ?_
  split
  · exact h.attemptFails (.inl ‹_›) _
  · exact h.setBranch rfl rfl (.inl rfl)

theorem execProbeQuietEnd_kept (hs : s.kept) (b : BranchId) : NextHas State.kept (execProbeQuietEnd b s) := by
  refine kept_of_live hs fun h => NextHas.guarded fun hdone => ?_
  have hst := ((s.branch b).probeDone_iff.1 hdone).1
  have hnone : (s.branch b).lane.held = none := by
    by_contra hne
    have hbusy := (h.tidy.lanes b).busy hne
    simp [Branch.lane, hst] at hbusy
  exact Placed.settle (h.setBranch rfl rfl (.inr (.inl hnone)))

theorem execSilenceExpiry_kept (hd : TagsDistinct s) (hs : s.kept) : NextHas State.kept (execSilenceExpiry s) := by
  refine kept_of_live hs fun h => NextHas.guarded fun _ => ?_
  have hentered := h.failsafeEntry (extra := []) hd .silence fun k => by simp [Nothing]
  rw [State.entryJobs, List.append_nil] at hentered
  exact hentered.completeAll.settle

theorem execSlotDue_kept (hs : s.kept) (a : Octet) : NextHas State.kept (execSlotDue a s) := by
  refine kept_of_live hs fun h => ?_
  split
  · trivial
  · exact NextHas.guarded fun _ => Placed.settle h

theorem execRefillExpiry_kept (hs : s.kept) (a : Octet) : NextHas State.kept (execRefillExpiry a s) := by
  refine kept_of_live hs fun h => ?_
  split
  · exact NextHas.guarded fun _ => h
  · trivial

theorem execEndOfSpacing_kept (hs : s.kept) : NextHas State.kept (execEndOfSpacing s) := by
  refine kept_of_live hs fun h => ?_
  split
  · have hqueue : s.up.beginHead.queue = s.up.queue := by
      unfold Upstream.beginHead
      split <;> rfl
    have hplaces : State.places { s with up := s.up.beginHead } = s.places :=
      Places.ext (fun _ => rfl) (fun _ => rfl) rfl rfl rfl rfl hqueue
    show Placed Nothing (State.places _)
    rw [hplaces]
    exact h
  · trivial

theorem execEndOfTransmission_kept (hs : s.kept) : NextHas State.kept (execEndOfTransmission s) := by
  refine NextHas.guarded fun hl => ?_
  split
  · rename_i hq
    exact fun ht => (hs hl).transmitted hq ht
  · trivial

theorem execEndOfSave_kept (hs : s.kept) (verified : Bool) : NextHas State.kept (execEndOfSave verified s) := by
  refine kept_of_live hs fun h => ?_
  split
  · exact h.workingDone rfl
  · trivial

theorem execEndOfRetire_kept (hs : s.kept) : NextHas State.kept (execEndOfRetire s) := by
  refine kept_of_live hs fun h => ?_
  split
  · exact h.workingDone rfl
  · trivial

/-! ### Pins and starts -/

theorem coldBegun_kept (s : State) (cause : StartCause) : (s.coldBegun cause).kept := nofun

theorem resetBegun_kept (s : State) : s.resetBegun.kept := nofun

theorem execPower_kept (hs : s.kept) : NextHas State.kept (execPower s) := by
  refine NextHas.guarded fun _ => ?_
  split
  · exact hs
  · exact coldBegun_kept _ _

theorem execRstnRelease_kept (hs : s.kept) : NextHas State.kept (execRstnRelease s) := by
  refine NextHas.guarded fun _ => ?_
  split
  · exact hs
  · exact coldBegun_kept _ _

theorem execSupplyFall_kept (s : State) : NextHas State.kept (execSupplyFall s) := by
  unfold execSupplyFall
  split
  · trivial
  · exact resetBegun_kept _

theorem execRstnLow_kept (s : State) : NextHas State.kept (execRstnLow s) := by
  unfold execRstnLow
  split
  · trivial
  · exact resetBegun_kept _

theorem execEndOfLoading_kept (s : State) : NextHas State.kept (execEndOfLoading s) := by
  refine NextHas.guarded fun _ => ?_
  show s.coldEnded.kept
  rw [State.coldEnded_eq]
  exact fun _ => (Placed.coldStarted s).settle

/-! ### Every command and every step -/

theorem takeHead_kept {act : TakeAction} (hact : ActionPlaces act) (named : List Octet → Bool) (hd : TagsDistinct s) (hs : s.kept) :
    NextHas State.kept (takeHead named act s) := by
  cases hl : s.live with
  | true =>
    have hnext := takeHead_places hact named hd (hs hl)
    cases ht : takeHead named act s with
    | next t => exact fun _ => hnext.holds ht
    | fault | refused => trivial
  | false =>
    have hready : s.takeReady = none := by simp [State.takeReady, hl]
    unfold takeHead
    rw [hready]
    trivial

theorem takeOp_kept {act : TakeAction} (op : Op) (hact : ActionPlaces act) (hd : TagsDistinct s) (hs : s.kept) :
    NextHas State.kept (takeOp op act s) := takeHead_kept (guardedAction_places hact op) _ hd hs

theorem ReplyPlaces.kept {f : List Octet → State → Reply} (hf : ReplyPlaces f) (op : Op) (hd : TagsDistinct s) (hs : s.kept) :
    NextHas State.kept (takeOp op (oneStep op f) s) :=
  takeOp_kept op (hf.action op) hd hs

theorem exec_kept (c : Instr) (hd : TagsDistinct s) (hlines : LinesFollowStates s) (hs : s.kept) : NextHas State.kept (exec c s) := by
  cases c with
  | validIn o | upstreamCheck o | upstreamLength o | upstreamNoise o | upstreamFrameOctet o => exact upstreamOctet_kept hs o
  | upstreamGap => exact NextHas.guarded fun _ => hs
  | endOfTransmission => exact execEndOfTransmission_kept hs
  | endOfSpacing => exact execEndOfSpacing_kept hs
  | guardComplete b => exact execGuardComplete_kept hs b
  | branchOctet b o | branchFrameOctet b o | branchFrameValid b o | branchFrameCheck b o | branchFrameLength b o =>
    exact octetOn_kept hd hlines hs b o
  | branchGap b => exact execBranchGap_kept hlines hs b
  | guardQuietWaitExpiry b =>
    exact kept_of_live hs fun h => NextHas.guarded fun _ => h.setBranch rfl rfl (.inr (.inr (.inl rfl)))
  | branchEndOfSending b => exact execBranchEndOfSending_kept hd hs b
  | replyDeadlineExpiry b => exact execReplyDeadlineExpiry_kept hs b
  | probeTimerExpiry b => exact kept_of_live hs fun h => NextHas.guarded fun _ => h.setBranch rfl rfl (.inl rfl)
  | probeQuietEnd b => exact execProbeQuietEnd_kept hs b
  | slotDue a => exact execSlotDue_kept hs a
  | refillExpiry a => exact execRefillExpiry_kept hs a
  | silenceExpiry => exact execSilenceExpiry_kept hd hs
  | endOfSave verified => exact execEndOfSave_kept hs verified
  | endOfRetire => exact execEndOfRetire_kept hs
  | power => exact execPower_kept hs
  | supplyFall => exact execSupplyFall_kept s
  | rstnLow => exact execRstnLow_kept s
  | rstnRelease => exact execRstnRelease_kept hs
  | endOfLoading => exact execEndOfLoading_kept s
  | cfgenChange => exact hs
  | badOperation => exact takeHead_kept (badOperationAction_places _) _ hd hs
  | getIdentity => exact (ReplyPlaces.of_same getIdentity_same).kept _ hd hs
  | getStartRecord => exact (ReplyPlaces.of_same getStartRecord_same).kept _ hd hs
  | getSettings => exact (ReplyPlaces.of_same getSettings_same).kept _ hd hs
  | putSettings => exact putSettings_places.kept _ hd hs
  | getStation => exact (ReplyPlaces.of_same getStation_same).kept _ hd hs
  | putStation => exact putStation_places.kept _ hd hs
  | dropStation => exact dropStation_places.kept _ hd hs
  | listStations => exact (ReplyPlaces.of_same listStations_same).kept _ hd hs
  | revertShadow => exact revertShadow_places.kept _ hd hs
  | clearShadow => exact clearShadow_places.kept _ hd hs
  | commit => exact takeOp_kept _ commitAction_places hd hs
  | getChanges => exact getChanges_places.kept _ hd hs
  | peekStatus => exact (ReplyPlaces.of_same peekStatus_same).kept _ hd hs
  | getCounters => exact (ReplyPlaces.of_same getCounters_same).kept _ hd hs
  | clearCounters => exact clearCounters_places.kept _ hd hs
  | getBranch => exact (ReplyPlaces.of_same getBranch_same).kept _ hd hs
  | getTransactions => exact (ReplyPlaces.of_same getTransactions_same).kept _ hd hs
  | saveImage => exact takeOp_kept _ saveImageAction_places hd hs
  | retireImage => exact takeOp_kept _ retireImageAction_places hd hs
  | getStore => exact (ReplyPlaces.of_same getStore_same).kept _ hd hs
  | resume => exact resume_places.kept _ hd hs
  | forceFailsafe => exact takeOp_kept _ forceFailsafeAction_places hd hs
  | getFailsafeReport => exact (ReplyPlaces.of_same getFailsafeReport_same).kept _ hd hs
  | restart => exact restart_places.kept _ hd hs

theorem State.startBit_kept (hs : s.kept) (l : Option BranchId) : (s.startBit l).kept := by
  cases l with
  | none => exact hs
  | some b => exact fun hl => (hs hl).setBranch rfl rfl (.inl rfl)

theorem State.tick_places (s : State) : s.tick.places = s.places := by
  unfold State.tick
  dsimp only
  split
  · exact Places.ext (fun _ => rfl) (fun b => by cases b <;> rfl) rfl rfl rfl rfl rfl
  · rfl

theorem State.tick_kept (hs : s.kept) : s.tick.kept :=
  hs.of_same (congrArg StatView.live s.tick_statView) s.tick_places

theorem step_kept (hd : TagsDistinct s) (hlines : LinesFollowStates s) (hs : s.kept) (h : step s = .next t) : t.kept := by
  have hown : TagsDistinct s.nextDue.2 ∧ LinesFollowStates s.nextDue.2 ∧ s.nextDue.2.kept := by
    obtain ⟨-, hsame | hdrawn⟩ := s.nextDue_mem
    · rw [hsame]
      exact ⟨hd, hlines, hs⟩
    · rw [hdrawn]
      exact ⟨hd, hlines, hs⟩
  unfold step at h
  split at h
  · rename_i c rest _
    exact (exec_kept (s := { s with pending := rest }) c hd hlines hs).holds h
  · split at h <;> rename_i hnext <;> rw [hnext] at hown <;> obtain ⟨hd, hlines, hs⟩ := hown
    · exact (exec_kept _ hd hlines hs).holds h
    · cases h
      exact State.startBit_kept hs _
    · cases h
      exact State.tick_kept hs
    · cases h
      exact hs

theorem step_keeps_entriesPlaced (hd : TagsDistinct s) (hlines : LinesFollowStates s) (hs : EntriesPlaced s) (h : step s = .next t) :
    EntriesPlaced t := fun hl =>
  (step_kept hd hlines (fun hl => hs.placed hl hlines) h (t.live_iff.2 hl)).entriesPlaced (step_keeps_tagsDistinct hd h) hl

/-- Settles O49: the requests of the entries change only where one is admitted or freed; and each event moves the entries it works
on from place to place, so that between events all stand where their states say. -/
theorem stepsKeepTagsDistinct : Obligations.StepsKeepTagsDistinct :=
  ⟨fun _ _ => step_keeps_tagsDistinct, fun _ _ => step_keeps_entriesPlaced⟩

end Sys2Proof.Machine
end
